-- ==== Sys2Proof/Word.lean ====
section
/-! DEFINITION. The byte of the command link and of the text stream, texts of bytes, and clamping (00 Conventions). -/

namespace Sys2Proof

/-- A byte of the command link, the text queue or the proof port. -/
abbrev Byte := BitVec 8

/-- A run of bytes: a word, a payload, a reply. -/
abbrev Text := List Byte

/-- The bytes of a text written in the manual's characters. -/
def ascii (s : String) : Text := s.toList.map fun c => BitVec.ofNat 8 c.toNat

/-- Clamping to `low..high` (00 Conventions, Arithmetic), for naturals. -/
def clampNat (low high x : Nat) : Nat := max low (min high x)

/-- Clamping to `low..high` (00 Conventions, Arithmetic), for integers. -/
def clampInt (low high x : Int) : Int := max low (min high x)

end Sys2Proof
end

