-- ==== Sys2Proof/Syntax.lean ====
section
/-! DEFINITION. The commands of the 410: one constructor of `Instr` per row of spec/opcode_table.json. A command of the
command link carries its parameters as the link carries them: the words that follow the keyword, each preceded by one
space in the payload (11.3), an empty word standing where two spaces meet or a space ends the payload. -/

namespace Sys2Proof

/-- The door sensor's level (R114). -/
inductive DoorLevel where
  | open | closed
  deriving DecidableEq, Repr

/-- The cassette sensor's level (R148). -/
inductive CassetteLevel where
  | present | absent
  deriving DecidableEq, Repr

/-- The three mechanisms of the Optics Controller (6.4). -/
inductive Mechanism where
  | strip | prism | turret
  deriving DecidableEq, Repr

/-- A READY n or a FAULT c of the printer (9.1): the value n or c, and the bytes the printer sends `after` it that complete
no message (R166, log 24). -/
structure PrinterMessage where
  value : Byte
  after : Text
  deriving DecidableEq, Repr

/-- The commands and events of the 410, in the order of spec/opcode_table.json. -/
inductive Instr where
  /-- Power-on or release of the reset pin, with the levels of strap B and strap A (`true` is high). -/
  | powerOnReset (strapB strapA : Bool)
  /-- The gap timer expires after the bytes `received`, which arrived in order and complete no frame. -/
  | gapTimerExpiry (received : Text)
  /-- A complete frame with a bad check sum or a kind other than C or T. -/
  | badFrame (kind : Byte) (payload : Text) (check : Byte)
  /-- The transmitter ends the frame it is sending. -/
  | transmitFrameEnd
  /-- A command record whose first word is no keyword. -/
  | unknownKeyword (word : Text) (params : List Text)
  /-- A text record. -/
  | text (payload : Text)
  /-- The composer takes the next code from the text queue. -/
  | textCodeRead
  /-- The referral timer expires. -/
  | referralTimerExpiry
  | job (params : List Text)
  | pairs (params : List Text)
  | dictAdd (params : List Text)
  | dictDel (params : List Text)
  | dictClear (params : List Text)
  | dictGet (params : List Text)
  | dictList (params : List Text)
  | decideBreak (params : List Text)
  | line (params : List Text)
  | abort (params : List Text)
  | face (params : List Text)
  | widths (params : List Text)
  | unmount (params : List Text)
  | lens (params : List Text)
  | survey (params : List Text)
  | optics (params : List Text)
  | stop (params : List Text)
  | resume (params : List Text)
  | temps (params : List Text)
  | intensity (params : List Text)
  | cassette (params : List Text)
  | feedCut (params : List Text)
  | transport (params : List Text)
  | printer (params : List Text)
  | rest (params : List Text)
  | wake (params : List Text)
  | reset (params : List Text)
  | tune (params : List Text)
  | clear (params : List Text)
  | status (params : List Text)
  | faults (params : List Text)
  | clearFault (params : List Text)
  | caps (params : List Text)
  /-- An encoder count arrives. -/
  | encoderCount
  /-- The armed slot arrives: the remaining counts have come in (log 5). -/
  | slotArrival
  | photocellSense
  | confirmationWindowExpiry
  | chargeSense
  | opticsOperationComplete (m : Mechanism)
  | opticsOperationTimeout (m : Mechanism)
  | escapementComplete
  | escapementTimeout
  | doorSensorChange (level : DoorLevel)
  | doorDebounceExpiry
  /-- A drum index arrives `interval` ms after the index before it; the code reader delivers the codes of the upper and
  the lower row of the strip in the path (R102). -/
  | drumIndex (interval : Nat) (upper lower : Byte)
  | spinUpTimerExpiry
  | stallMonitorExpiry
  | restTimerExpiry
  | cassetteSensorChange (level : CassetteLevel)
  | cassetteDebounceExpiry
  | stepperComplete
  | moveTimeout
  | cutterComplete
  | cutterTimeout
  | proofMessageEnd
  /-- READY from the printer. -/
  | printerReady (n : PrinterMessage)
  | printed
  /-- FAULT from the printer. -/
  | printerFault (c : PrinterMessage)
  | grantTimerExpiry
  /-- The length byte of a frame is above 250. -/
  | lengthByteAbove250 (kind length : Byte)
  deriving DecidableEq, Repr

end Sys2Proof
end

