-- ==== Sys2Proof/Decode.lean ====
section
/-! DEFINITION. The command a table word spells. No row of spec/opcode_table.json gives bits (`fixed` and `fields` are
empty in all 68): the 410 takes records and events, not numbered words, so no word spells a command. -/

namespace Sys2Proof

/-- The command spelled by an `nbits`-wide word `w` of the table's bits: none, since no row gives bits. -/
def decodeTableWord (_nbits _w : Nat) : Option Instr := none

end Sys2Proof
end

