-- ==== Sys2Proof/Config.lean ====
section
/-! DEFINITION. The fixed figures of the part (R196 and the rules that own them) and the one free value of the model. -/

namespace Sys2Proof.Config

/-- Bytes of the text queue (R11). -/
def textQueue : Nat := 4096
/-- The room at which the armed room watch raises ROOM (R14). -/
def roomWatch : Nat := 2048
/-- Records of the line store (R87). -/
def storeRecords : Nat := 24
/-- Elements of the shared pool (R88). -/
def poolElements : Nat := 2048
/-- Elements of one line (R40). -/
def lineElements : Nat := 200
/-- The largest x of an element (R6). -/
def largestX : Nat := 17279
/-- The largest right end of an element, that of an OVERSET line's first box (R6). -/
def largestEnd : Nat := 19920
/-- Counted codes of one word (R27). -/
def wordCodes : Nat := 48
/-- Entries of the exception dictionary (R63). -/
def dictEntries : Nat := 256
/-- Letters of all dictionary entries together (R63). -/
def dictLetters : Nat := 3072
/-- Replies the reply queue holds (R188). -/
def replyQueue : Nat := 4
/-- Largest payload of a frame (11.1). -/
def framePayload : Nat := 250
/-- Encoder counts of a revolution (R10). -/
def revolution : Nat := 3072
/-- Encoder counts of a slot (R10). -/
def slotCounts : Nat := 32
/-- Consecutive misses that give the FLASH fault (R135). -/
def missLimit : Nat := 8
/-- Good index intervals that qualify the drum (R181). -/
def qualifyIntervals : Nat := 4
/-- Rows the printer can hold (R168). -/
def printerRows : Nat := 15
/-- Text cells of one proof row (R171). -/
def rowTextCells : Nat := 120
/-- Cells of a proof row (9.4). -/
def rowCells : Nat := 132
/-- Film steps of a pica (R8). -/
def picaSteps : Nat := 240
/-- Film steps of an inch (R7). -/
def inchSteps : Nat := 1440
/-- Parts of the feed correction (R155). -/
def million : Int := 1000000

/-- The thermometer's readings, one after another, before they are brought into −40..150 °C (R130). A FREE VALUE: the
spec gives the range of a reading and leaves the reading to the lamp house; no body, so nothing can be proved of
it (log 1). -/
opaque thermometer : Nat → BitVec 8

/-- The `k`-th reading in whole degrees Celsius, −40..150 (R130): free within its range. -/
def reading (k : Nat) : Int := (((thermometer k).toNat % 191 : Nat) : Int) - 40

/-- How many internal reactions one event may set off (log 3). -/
def cascade : Nat := 4096

end Sys2Proof.Config
end

