-- ==== Sys2Proof/Machine/State.lean ====
section
/-! DEFINITION. The state of the 410: what each of its blocks holds (00 Block Diagram), the pins the model keeps, and the
queue of waiting commands. Every width, range and reset value is listed in INVENTORY.md, ## State. -/

namespace Sys2Proof.Machine

/-! ### Link Interface -/

/-- The flags of 11.4, in the order of the flag table. -/
inductive Flag where
  | line | proof | galley | room | setup | mount | filmLow | filmOut | cassette | skip | idle | rest | xfault | ffault
  | pfault
  deriving DecidableEq, Repr

/-- The kinds of the exposure fault record (R193), in table order. -/
inductive ExposureKind where
  | drumStall | strip | prism | lens | escape | flash
  deriving DecidableEq, Repr

/-- The kinds of the film fault record (R193), in table order. -/
inductive FilmKind where
  | jam | cutter
  deriving DecidableEq, Repr

/-- The kinds of the proof fault record (R193), in table order. -/
inductive ProofKind where
  | printer | silent
  deriving DecidableEq, Repr

/-- A fault record (11.5): first kind or none, kinds also seen in table order, line number. -/
structure FaultRecord (κ : Type) where
  first : Option κ
  also  : List κ
  line  : Nat
  deriving DecidableEq, Repr

/-- The empty fault record (11.5). -/
def FaultRecord.empty {κ : Type} : FaultRecord κ := { first := none, also := [], line := 0 }

/-- Rates of the command link (R186). -/
inductive Rate where
  | b9600 | b19200 | b57600 | b115200
  deriving DecidableEq, Repr

/-- The rate the straps select (R186). -/
def Rate.ofStraps : (strapB strapA : Bool) → Rate
  | false, false => .b9600
  | false, true => .b19200
  | true, false => .b57600
  | true, true => .b115200

/-- The cause a HELLO notice reports (R186). -/
inductive Cause where
  | power | command
  deriving DecidableEq, Repr

/-- The keywords of R189. -/
inductive Keyword where
  | job | pairs | dictAdd | dictDel | dictClear | dictGet | dictList | decideBreak | line | abort | face | widths | unmount
  | lens | survey | optics | stop | resume | temps | intensity | cassette | feedCut | transport | printer | rest | wake
  | reset | tune | clear | status | faults | clearFault | caps
  deriving DecidableEq, Repr

/-- A complete frame as the Link Interface takes it (R187): a command by its keyword, a command whose first word is none,
a text record, or a frame to be answered BADFRAME. -/
inductive LinkRecord where
  | command (keyword : Keyword) (params : List Text)
  | unknown (word : Text) (params : List Text)
  | text (payload : Text)
  | bad
  deriving DecidableEq, Repr

/-- The receive buffer (R187): hunting, in a frame with the bytes after the sync, or holding a complete frame that waits
for reply room. The gap timer runs exactly in a frame. -/
inductive Receiver where
  | hunting
  | inFrame (got : Text)
  | waiting (record : LinkRecord)
  deriving DecidableEq, Repr

/-- A reply in the reply queue; `ofReset` marks the OK of a RESET command, whose end brings the reset about (R186). -/
structure Reply where
  text    : Text
  ofReset : Bool
  deriving DecidableEq, Repr

/-- A frame being sent (R188). -/
inductive TxFrame where
  | hello (cause : Cause)
  | reply (reply : Reply)
  | flagNotice (names : List Flag)
  | referNotice (text : Text)
  deriving DecidableEq, Repr

/-- The two kinds of frame the transmitter alternates (R188). -/
inductive TxKind where
  | reply | notice
  deriving DecidableEq, Repr

/-- What the Link Interface holds (chapter 11). `flags` and `pendingNames` stand in the order of the flag table. -/
structure Link where
  rate         : Rate
  rx           : Receiver
  replies      : List Reply
  refer        : Option Text
  flags        : List Flag
  pendingNames : List Flag
  tx           : Option TxFrame
  lastSent     : TxKind
  resetTaken   : Bool
  exposure     : FaultRecord ExposureKind
  film         : FaultRecord FilmKind
  proof        : FaultRecord ProofKind
  deriving DecidableEq, Repr

/-- The Link Interface after a reset (R186, R187, R192, R193): HELLO is being sent (log 8). -/
def Link.reset (rate : Rate) (cause : Cause) : Link :=
  { rate := rate, rx := .hunting, replies := [], refer := none, flags := [], pendingNames := [],
    tx := some (.hello cause), lastSent := .notice, resetTaken := false,
    exposure := .empty, film := .empty, proof := .empty }

/-! ### Text queue -/

/-- The text queue and its room watch (R11, R14). -/
structure TextQueue where
  bytes : Text
  watch : Bool
  deriving DecidableEq, Repr

/-- The text queue after a reset (R11). -/
def TextQueue.reset : TextQueue := { bytes := [], watch := false }

/-! ### Composer -/

/-- The quads (R20). -/
inductive Quad where
  | justify | left | right | center
  deriving DecidableEq, Repr

/-- Consumers of each line (2.8, MODE). -/
inductive Mode where
  | film | proof | both
  deriving DecidableEq, Repr

/-- The referral classes enabled by REFER (R74). -/
structure ReferClasses where
  u : Bool
  w : Bool
  c : Bool
  deriving DecidableEq, Repr

/-- The job parameters (2.8). -/
structure Job where
  wsMin   : Nat
  wsOpt   : Nat
  wsMax   : Nat
  lsMax   : Nat
  hyph    : Bool
  lMin    : Nat
  rMin    : Nat
  ladder  : Nat
  thresh  : Nat
  refer   : ReferClasses
  timeout : Nat
  mode    : Mode
  name    : Text
  deriving DecidableEq, Repr

/-- The job parameters after a reset (2.8). -/
def Job.reset : Job :=
  { wsMin := 8, wsOpt := 12, wsMax := 20, lsMax := 0, hyph := true, lMin := 2, rMin := 3, ladder := 3, thresh := 2,
    refer := { u := false, w := false, c := false }, timeout := 50, mode := .both, name := [0x2D#8] }

/-- The pending set of job parameters (R29). -/
structure PendingJob where
  wsMin   : Option Nat
  wsOpt   : Option Nat
  wsMax   : Option Nat
  lsMax   : Option Nat
  hyph    : Option Bool
  lMin    : Option Nat
  rMin    : Option Nat
  ladder  : Option Nat
  thresh  : Option Nat
  refer   : Option ReferClasses
  timeout : Option Nat
  mode    : Option Mode
  name    : Option Text
  deriving DecidableEq, Repr

/-- The empty pending set (R29). -/
def PendingJob.empty : PendingJob :=
  { wsMin := none, wsOpt := none, wsMax := none, lsMax := none, hyph := none, lMin := none, rMin := none,
    ladder := none, thresh := none, refer := none, timeout := none, mode := none, name := none }

/-- A lens position the composer has selected, with the size it held then: the resolved size (R110). -/
structure LensSel where
  pos  : Fin 8
  size : Nat
  deriving DecidableEq, Repr

/-- The line parameters that exist in an open and a following set (2.3). -/
structure LineSet where
  leading : Int
  quad    : Quad
  measure : Nat
  left    : Nat
  right   : Nat
  deriving DecidableEq, Repr

/-- The line parameters after a reset (2.3). -/
def LineSet.reset : LineSet := { leading := 240, quad := .justify, measure := 3360, left := 0, right := 0 }

/-- What an element is (3.3): a box of a mount's slot through a lens, or a space element. -/
inductive ElemKind where
  | box (mount : Fin 8) (slot : Nat) (lens : Fin 8)
  | en | em | thin | absent
  deriving DecidableEq, Repr

/-- An element (3.3). -/
structure Elem where
  kind   : ElemKind
  width  : Nat
  before : Nat
  x      : Nat
  deriving DecidableEq, Repr

/-- The face and the selected lens in effect at a place of the word (R37). -/
structure Env where
  face : Fin 8
  lens : Option LensSel
  deriving DecidableEq, Repr

/-- An entry of the word buffer (R37): an element with the code that produced it, a TIE, or a SOFT_HYPHEN, each with what
was in effect there. -/
inductive WordItem where
  | elem (code : Byte) (e : Elem) (env : Env)
  | tie (env : Env)
  | soft (env : Env)
  deriving DecidableEq, Repr

/-- The word buffer (R27, R37): its items in text order, its counted codes, and whether it begins at a split point. -/
structure WordBuf where
  items   : List WordItem
  count   : Nat
  atSplit : Bool
  deriving DecidableEq, Repr

/-- The empty word buffer (R37). -/
def WordBuf.empty : WordBuf := { items := [], count := 0, atSplit := false }

/-- The codes that close a line (R25). -/
inductive EndKind where
  | line | para | cut
  deriving DecidableEq, Repr

/-- What ended a word (R26, R27): a word space with the size in effect there, an ending code, or a split point with the
49th code, which has been read and has not acted. -/
inductive BreakOpp where
  | space (size : Nat)
  | ending (k : EndKind)
  | split (code : Byte) (params : Text)
  deriving DecidableEq, Repr

/-- The line flags (R51, R85, R86), in the order of the LINE reply (R95). -/
inductive LineFlag where
  | loose | overset | missing | code | sizeSubst | referred | lapsed | clamped | noMark | part | skipped
  deriving DecidableEq, Repr

/-- A line's glue in set steps (R41). -/
structure Glue where
  min : Nat
  opt : Nat
  max : Nat
  deriving DecidableEq, Repr

/-- Exposure states of a record (R83, R85). -/
inductive ExpState where
  | pending | inProgress | done | part | notRequired
  deriving DecidableEq, Repr

/-- Proof states of a record (R83, R86). -/
inductive ProofState where
  | pending | inProgress | done | skipped | notRequired
  deriving DecidableEq, Repr

/-- The open line (R40). -/
structure OpenLine where
  elems  : List Elem
  set    : LineSet
  ret    : Option (Fin 4)
  marks  : List (Fin 4)
  glue   : Option Glue
  flags  : List LineFlag
  number : Nat
  exp    : ExpState
  proof  : ProofState
  deriving DecidableEq, Repr

/-- Break kinds (R51). -/
inductive BreakKind where
  | word | hyphen | hardHyphen | forced | para | overset | split
  deriving DecidableEq, Repr

/-- A vertical move (R21): by a leading, or to a mark with its fallback leading. -/
inductive Move where
  | lead (l : Int)
  | toMark (k : Fin 4) (fallback : Int)
  deriving DecidableEq, Repr

/-- The glue result of a line (R51). -/
structure GlueResult where
  n    : Nat
  base : Nat
  r    : Nat
  ls   : Nat
  deriving DecidableEq, Repr

/-- A line record: the composer's fields (R51) and those of the store and the consumers (5.1). -/
structure LineRecord where
  number   : Nat
  exp      : ExpState
  proof    : ProofState
  quad     : Quad
  measure  : Nat
  left     : Nat
  right    : Nat
  move     : Move
  marks    : List (Fin 4)
  cutAfter : Bool
  brk      : BreakKind
  glue     : GlueResult
  flags    : List LineFlag
  elems    : List Elem
  exposed  : Nat
  misses   : Nat
  band     : Option (Fin 4)
  galley   : Option Nat
  discard  : Bool
  deriving DecidableEq, Repr

/-- A chosen break (R45): the word's items up to `cut` stay, those from `next` on are carried; the hyphen box or ABSENT
element that is added, none at a hard point. -/
structure Break where
  cut  : Nat
  next : Nat
  hyph : Option Elem
  deriving DecidableEq, Repr

/-- The composer's step in hand (R33, R35, R44, R50). Between events it stands only where the composer is stalled or
referring: the step held. -/
inductive Task where
  /-- A code that has been read is to act. -/
  | code (c : Byte) (params : Text)
  /-- A complete word, ended by `opp`, is to be fitted. -/
  | fit (opp : BreakOpp)
  /-- An accepted word is to be placed. -/
  | place (opp : BreakOpp)
  /-- A chosen break is to be made, with the flags of the decision. -/
  | brk (b : Break) (flags : List LineFlag) (opp : BreakOpp)
  /-- The outcome no break is to be carried out. -/
  | noBreak (flags : List LineFlag) (opp : BreakOpp)
  /-- A run of an overset word is to be placed. -/
  | overset (flags : List LineFlag) (opp : BreakOpp)
  /-- A closed line is offered to the store; `carried` is what ended the word whose rest stands in the word buffer. -/
  | offer (r : LineRecord) (carried : Option BreakOpp)
  /-- The word before `opp` has been placed, and `opp` is to act. -/
  | after (opp : BreakOpp)
  /-- The decision on the word ended by `opp` is with the front end. -/
  | decision (opp : BreakOpp)
  deriving DecidableEq, Repr

/-- The causes of a setup stall (R33). -/
inductive StallCause where
  | mount | lens | hyphen
  deriving DecidableEq, Repr

/-- Composer states (3.1). -/
inductive CmpState where
  | idle | reading | waitText | stallSetup | stallRoom | referring | aborting
  deriving DecidableEq, Repr

/-- What the composer holds (R31, R17, R29). -/
structure Composer where
  st         : CmpState
  job        : Job
  pend       : PendingJob
  face       : Fin 8
  size       : Nat
  lens       : Option LensSel
  hyph       : Bool
  following  : LineSet
  pendingRet : Option (Fin 4)
  line       : Option OpenLine
  word       : WordBuf
  held       : Option Nat
  partCode   : Option (Byte × Text)
  task       : Option Task
  stallCause : Option StallCause
  ladder     : Nat
  deriving DecidableEq, Repr

/-- The composer after a reset (R31, R17, R29). -/
def Composer.reset : Composer :=
  { st := .idle, job := .reset, pend := .empty, face := 0, size := 20, lens := none, hyph := true,
    following := .reset, pendingRet := none, line := none, word := .empty, held := none, partCode := none,
    task := none, stallCause := none, ladder := 0 }

/-! ### Hyphenation Unit -/

/-- A dictionary entry (R63): its word folded to letter classes, and its positions. -/
structure DictEntry where
  word      : List (Fin 26)
  positions : List Nat
  deriving DecidableEq, Repr

/-- A break position of an examined word (R61, R68, R71): its number, its quality (0 when it is no candidate), whether
its prefix fits, whether its break point is a hard point, and the break itself. -/
structure Position where
  k    : Nat
  q    : Nat
  fits : Bool
  hard : Bool
  brk  : Break
  deriving DecidableEq, Repr

/-- A referral record (R76, R82): what the examination found, and the classes the decision was referred for. -/
structure Referral where
  letters   : Text
  len       : Nat
  positions : List Position
  fit       : Nat
  own       : Nat
  classes   : ReferClasses
  deriving DecidableEq, Repr

/-- How the most recent referral ended (R58). -/
inductive LastEnd where
  | none | decided | lapsed | withdrawn
  deriving DecidableEq, Repr

/-- What the Hyphenation Unit holds (4.1). The timer, when running, holds its length in tenths of a second. -/
structure Hyphenation where
  pairs    : Vector (Vector Nat 26) 26
  dict     : List DictEntry
  referral : Option Referral
  timer    : Option Nat
  lastEnd  : LastEnd
  deriving DecidableEq, Repr

/-- The Hyphenation Unit after a reset (R58). -/
def Hyphenation.reset : Hyphenation :=
  { pairs := Vector.replicate 26 (Vector.replicate 26 0), dict := [], referral := none, timer := none,
    lastEnd := .none }

/-! ### Set-Line Store -/

/-- Forms of an ABORT and of a STOP (R97, R143). -/
inductive HaltForm where
  | soft | hard
  deriving DecidableEq, Repr

/-- What the line store holds (chapter 5), records oldest first. -/
structure Store where
  records     : List LineRecord
  counter     : Nat
  lastOpened  : Nat
  lastExposed : Nat
  lastProofed : Nat
  abort       : Option HaltForm
  deriving DecidableEq, Repr

/-- The line store after a reset (R84, R87, R96). -/
def Store.reset : Store :=
  { records := [], counter := 1, lastOpened := 0, lastExposed := 0, lastProofed := 0, abort := none }

/-! ### Optics Controller -/

/-- Proof styles (R103). -/
inductive ProofStyle where
  | plain | under | bold | both
  deriving DecidableEq, Repr

/-- A mount record (R103); `observed` is none while UNVERIFIED. -/
structure Mount where
  expected : Nat
  observed : Option Nat
  widths   : Vector Nat 95
  style    : ProofStyle
  phase    : Int
  deriving DecidableEq, Repr

/-- A mount after a reset (R103). -/
def Mount.reset : Mount :=
  { expected := 0, observed := none, widths := Vector.replicate 95 0, style := .plain, phase := 0 }

/-- Who asked for a mechanism operation (R113). -/
inductive Requester where
  | exposure | survey
  deriving DecidableEq, Repr

/-- How a mechanism is driven (R111, R112): toward its target, or the turret forward or backward by positions, or
forward until its sense reports. -/
inductive Drive where
  | toward
  | forward (positions : Nat)
  | backward (positions : Nat)
  | forwardToSense
  deriving DecidableEq, Repr

/-- A mechanism operation in flight (R111). -/
structure Flight where
  target : Nat
  by_    : Requester
  drive  : Drive
  deriving DecidableEq, Repr

/-- A mechanism (R111): its held position (none while UNKNOWN), its operation in flight, and the requests that wait. -/
structure MechState where
  held    : Option Nat
  flight  : Option Flight
  waiting : List (Requester × Nat)
  deriving DecidableEq, Repr

/-- A mechanism after a reset (R111). -/
def MechState.reset : MechState := { held := none, flight := none, waiting := [] }

/-- Door states (R114, R116). -/
inductive DoorState where
  | unknown | opened | closed
  deriving DecidableEq, Repr

/-- Drum states (10.1). -/
inductive DrumState where
  | stopped | spinningUp | surveying | atSpeed
  deriving DecidableEq, Repr

/-- Stages of the survey at a strip position (R118, R120). -/
inductive SurveyStage where
  | shifting | awaitIndex | failed
  deriving DecidableEq, Repr

/-- A survey in progress (R118). -/
structure Survey where
  pos   : Fin 4
  stage : SurveyStage
  deriving DecidableEq, Repr

/-- What the Optics Controller holds (chapters 6 and 10). -/
structure Optics where
  mounts        : Vector Mount 8
  lenses        : Vector Nat 8
  strip         : MechState
  prism         : MechState
  turret        : MechState
  door          : DoorState
  doorTimer     : Option Nat
  debounce      : Nat
  drum          : DrumState
  resting       : Bool
  stallHold     : Bool
  spinTimer     : Bool
  intervals     : Nat
  indexSeen     : Bool
  stallMonitor  : Bool
  survey        : Option Survey
  surveyRequest : Bool
  restInterval  : Nat
  restTimer     : Option Nat
  deriving DecidableEq, Repr

/-- The Optics Controller after a reset (R103, R109, R111, R114, R116, R117, R180, R183); the interval count and the mark of
a first index, for which the manual gives no reset value, start as R181 has them at spin-up (DESIGN CHOICE, log 33). -/
def Optics.reset : Optics :=
  { mounts := Vector.replicate 8 .reset, lenses := Vector.replicate 8 0, strip := .reset, prism := .reset,
    turret := .reset, door := .unknown, doorTimer := some 20, debounce := 20, drum := .stopped, resting := false,
    stallHold := false, spinTimer := false, intervals := 0, indexSeen := false, stallMonitor := false,
    survey := none, surveyRequest := false, restInterval := 10, restTimer := some 10 }

/-! ### Exposure Controller -/

/-- Exposure Controller states (7.2). -/
inductive ExcState where
  | idle | movingFilm | preparing | armed | flashing | held | stopped | faulted
  deriving DecidableEq, Repr

/-- The stages a hold remembers (R127): the request of the vertical move, the preparation of an element, the arming. -/
inductive Stage where
  | move | prepare | arm
  deriving DecidableEq, Repr

/-- An armed countdown (R132, R134): counts to arrival and the energy fired then. -/
structure Armed where
  count  : Nat
  energy : Nat
  deriving DecidableEq, Repr

/-- Why the escapement moves (R129). -/
inductive EscMove where
  | element | park
  deriving DecidableEq, Repr

/-- The escapement (R129): held position (none while UNKNOWN), move in flight, waiting requests, oldest first. -/
structure Escapement where
  held    : Option Nat
  flight  : Option (Nat × EscMove)
  waiting : List (Nat × EscMove)
  deriving DecidableEq, Repr

/-- The lamp (R133). -/
inductive Lamp where
  | off | charging | charged
  deriving DecidableEq, Repr

/-- Why a line in progress is ending before its elements are set (R145, R146). -/
inductive Ending where
  | removal | abort
  deriving DecidableEq, Repr

/-- What the Exposure Controller holds (7.1). -/
structure Exposure where
  st        : ExcState
  ptr       : Option Nat
  index     : Nat
  stage     : Stage
  moveOut   : Bool
  cutWait   : Bool
  filmOut   : Bool
  stopReq   : Option HaltForm
  armed     : Option Armed
  flash     : Option Nat
  misses    : Nat
  band      : Option (Fin 4)
  ending    : Option Ending
  esc       : Escapement
  lamp      : Lamp
  t1        : Int
  t2        : Int
  t3        : Int
  intensity : Vector (Vector Nat 8) 4
  density   : Nat
  deriving DecidableEq, Repr

/-- The Exposure Controller after a reset (R123). -/
def Exposure.reset : Exposure :=
  { st := .idle, ptr := none, index := 0, stage := .move, moveOut := false, cutWait := false, filmOut := false,
    stopReq := none, armed := none, flash := none, misses := 0, band := none, ending := none,
    esc := { held := none, flight := none, waiting := [] }, lamp := .off, t1 := 30, t2 := 40, t3 := 50,
    intensity := Vector.replicate 4 (Vector.replicate 8 128), density := 100 }

/-! ### Film Transport Controller -/

/-- Film transport states (8.1). -/
inductive FtcState where
  | noCassette | ready | moving | cutting | faulted
  deriving DecidableEq, Repr

/-- The cassette sensor as last taken (R148). -/
inductive Sensor where
  | unknown | present | absent
  deriving DecidableEq, Repr

/-- A line's vertical move as the film transport carries it out (R151): target, the line's number and marks, and what is
reported of it. -/
structure LineMove where
  target  : Nat
  number  : Nat
  marks   : List (Fin 4)
  noMark  : Bool
  clamped : Bool
  deriving DecidableEq, Repr

/-- A stepper operation (R155, R156): motor steps, direction, timeout in ms, and the accumulator value the move brings. -/
structure Stepping where
  steps   : Nat
  forward : Bool
  timeout : Nat
  newE    : Int
  deriving DecidableEq, Repr

/-- The operation in flight (8.1): a line's move, the margin move of a cut, or the cutter. -/
inductive FilmOp where
  | lineMove (m : LineMove) (p : Stepping)
  | margin (p : Stepping)
  | cutter
  deriving DecidableEq, Repr

/-- The failed step FAULTED keeps (R160). -/
inductive FailedStep where
  | lineMove (m : LineMove)
  | margin
  | cutter
  deriving DecidableEq, Repr

/-- A cut in progress (R159): its recorded target, and the line number a fault of it is given. -/
structure Cut where
  target : Nat
  line   : Nat
  deriving DecidableEq, Repr

/-- What the Film Transport Controller holds (8.1). -/
structure Film where
  st          : FtcState
  sensor      : Sensor
  sensorTimer : Option Nat
  cap         : Nat
  p           : Nat
  g           : Nat
  dmax        : Nat
  marks       : Vector (Option Nat) 4
  e           : Int
  feed        : Int
  filmOut     : Bool
  lowMatched  : Bool
  lowFilm     : Nat
  autoCut     : Nat
  margin      : Nat
  galley      : Nat
  op          : Option FilmOp
  failed      : Option FailedStep
  cut         : Option Cut
  deriving DecidableEq, Repr

/-- The Film Transport Controller after a reset (R147); the cassette's debounce runs from the reset on (R148). -/
def Film.reset : Film :=
  { st := .noCassette, sensor := .unknown, sensorTimer := some 20, cap := 0, p := 0, g := 0, dmax := 0,
    marks := Vector.replicate 4 none, e := 0, feed := 0, filmOut := false, lowMatched := false, lowFilm := 0,
    autoCut := 0, margin := 240, galley := 0, op := none, failed := none, cut := none }

/-! ### Proof Controller -/

/-- Proof Controller states (9.3). -/
inductive PrcState where
  | idle | sending | waiting | skipping | faulted
  deriving DecidableEq, Repr

/-- An outstanding row (9.1): a header row, or row `j` of record `n`. -/
inductive ProofRow where
  | header
  | row (n j : Nat)
  deriving DecidableEq, Repr

/-- A cell of a proof row (9.4): character code and style. -/
structure Cell where
  code  : Byte
  style : Fin 4
  deriving DecidableEq, Repr

/-- A message the 410 sends on the proof port (9.2). -/
inductive PortMessage where
  | ask
  | row (cells : List Cell)
  deriving DecidableEq, Repr

/-- A message of the printer half received (R166): its first byte has come, and the next byte is its value. -/
inductive PrinterHead where
  | ready | fault
  deriving DecidableEq, Repr

/-- Proof modes (R177). -/
inductive ProofMode where
  | required | best
  deriving DecidableEq, Repr

/-- What the Proof Controller holds (9.1). -/
structure Proof where
  st         : PrcState
  ptr        : Option (Nat × Nat)
  out        : List ProofRow
  room       : Nat
  ask        : Bool
  askDue     : Bool
  afterZero  : Bool
  timer      : Option Nat
  headerDue  : Bool
  galleyWait : Option Nat
  galley     : Nat
  lastCode   : Option Byte
  mode       : ProofMode
  grant      : Nat
  port       : Option PortMessage
  half       : Option PrinterHead
  deriving DecidableEq, Repr

/-- The Proof Controller after a reset (R165): a message being sent is cut off, and one half received is discarded. -/
def Proof.reset : Proof :=
  { st := .idle, ptr := none, out := [], room := 0, ask := false, askDue := false, afterZero := false, timer := none,
    headerDue := true, galleyWait := none, galley := 1, lastCode := none, mode := .best, grant := 10, port := none,
    half := none }

/-! ### Pins and the whole -/

/-- The levels of the input lines the model keeps, and the drum encoder's count (R186, R114, R148, R10). No reset
changes them (logs 4 and 6). -/
structure Pins where
  strapB   : Bool
  strapA   : Bool
  door     : DoorLevel
  cassette : CassetteLevel
  encoder  : Nat
  deriving DecidableEq, Repr

/-- The pins at `State.reset` (DESIGN CHOICE, logs 4 and 6). -/
def Pins.reset : Pins := { strapB := false, strapA := false, door := .closed, cassette := .absent, encoder := 0 }

/-- The state of the 410. `pending` is the queue of waiting commands; `thermReads` counts the thermometer readings taken
(log 1). -/
structure State where
  pending    : List Instr
  pins       : Pins
  thermReads : Nat
  link       : Link
  txq        : TextQueue
  cmp        : Composer
  hyu        : Hyphenation
  sls        : Store
  opc        : Optics
  exc        : Exposure
  ftc        : Film
  prc        : Proof
  deriving DecidableEq, Repr

/-- Why a step stops with a fault: never. No rule of the spec stops the 410: its device faults are fault records, flags
and block states (R193), so the type has no constructor (log 21). -/
inductive Fault
  deriving DecidableEq, Repr

/-- Why a step is refused. -/
inductive Refusal where
  /-- Raised by `exec` for a command that has no meaning yet; safe, the run stops. No command of the table is left so. -/
  | notModelled (mnemonic : String)
  deriving DecidableEq, Repr

/-- The 410 right after a power-on or pin reset with both straps low (R186). -/
def State.reset : State :=
  { pending := [], pins := .reset, thermReads := 0, link := .reset .b9600 .power, txq := .reset, cmp := .reset,
    hyu := .reset, sls := .reset, opc := .reset, exc := .reset, ftc := .reset, prc := .reset }

/-! ### Replacing one block

Every change of the state goes through these, so that a frame is read off the blocks a definition replaces. -/

/-- `s` with other pins. -/
def State.withPins (s : State) (x : Pins) : State := { s with pins := x }
/-- `s` with another count of thermometer readings. -/
def State.withReads (s : State) (x : Nat) : State := { s with thermReads := x }
/-- `s` with another Link Interface. -/
def State.withLink (s : State) (x : Link) : State := { s with link := x }
/-- `s` with another text queue. -/
def State.withTxq (s : State) (x : TextQueue) : State := { s with txq := x }
/-- `s` with another Composer. -/
def State.withCmp (s : State) (x : Composer) : State := { s with cmp := x }
/-- `s` with another Hyphenation Unit. -/
def State.withHyu (s : State) (x : Hyphenation) : State := { s with hyu := x }
/-- `s` with another line store. -/
def State.withSls (s : State) (x : Store) : State := { s with sls := x }
/-- `s` with another Optics Controller. -/
def State.withOpc (s : State) (x : Optics) : State := { s with opc := x }
/-- `s` with another Exposure Controller. -/
def State.withExc (s : State) (x : Exposure) : State := { s with exc := x }
/-- `s` with another Film Transport Controller. -/
def State.withFtc (s : State) (x : Film) : State := { s with ftc := x }
/-- `s` with another Proof Controller. -/
def State.withPrc (s : State) (x : Proof) : State := { s with prc := x }
/-- `s` with another queue of waiting commands. -/
def State.withPending (s : State) (x : List Instr) : State := { s with pending := x }

end Sys2Proof.Machine
end

