-- ==== Sys2Proof/Machine/Text.lean ====
section
/-! DEFINITION. Numbers, words and depth reports as texts: what replies and notices are written with (R9, 11.2, 11.3). -/

namespace Sys2Proof.Machine

/-- The digits of `n` before `acc`, most significant first; `fuel` bounds their number. -/
def digitsOnto : (fuel n : Nat) → Text → Text
  | 0, _, acc => acc
  | fuel + 1, n, acc =>
    let d := BitVec.ofNat 8 (0x30 + n % 10)
    if n < 10 then d :: acc else digitsOnto fuel (n / 10) (d :: acc)

/-- A decimal number without separators or leading zeros (00 Conventions, Numbers). -/
def decimal (n : Nat) : Text := digitsOnto (n + 1) n []

/-- A signed decimal number (R162). -/
def signedDecimal (v : Int) : Text :=
  if v < 0 then 0x2D#8 :: decimal v.natAbs else decimal v.natAbs

/-- The depth report of a natural quantity: picas, P, points, full stop, steps (R9). -/
def depthNat (v : Nat) : Text :=
  decimal (v / 240) ++ [0x50#8] ++ decimal (v % 240 / 20) ++ [0x2E#8] ++ decimal (v % 20)

/-- The depth report of a signed quantity (R9). -/
def depth (v : Int) : Text :=
  if v < 0 then 0x2D#8 :: depthNat v.natAbs else depthNat v.natAbs

/-- A word, or `absent` where there is none. -/
def orElse (absent : Text) : Option Text → Text
  | none => absent
  | some t => t

/-- `-`, the word for what is absent in a reply. -/
def dash : Text := [0x2D#8]

/-- Texts joined by `sep`. -/
def joinText (sep : Text) : List Text → Text
  | [] => []
  | [t] => t
  | t :: ts => t ++ sep ++ joinText sep ts

/-- Fields of a reply, each preceded by one space. -/
def fields (fs : List Text) : Text := (fs.map fun f => 0x20#8 :: f).flatten

/-- A field `NAME=value`. -/
def field (name : String) (value : Text) : Text := ascii name ++ [0x3D#8] ++ value

/-- A yes-or-no field value. -/
def yesNo (b : Bool) : Text := if b then [0x59#8] else [0x4E#8]

/-! ### Reading words -/

/-- A decimal digit's value. -/
def digitValue (b : Byte) : Option Nat :=
  if 0x30 ≤ b.toNat ∧ b.toNat ≤ 0x39 then some (b.toNat - 0x30) else none

/-- The value of a run of digits read on from `acc`; none at any other byte. -/
def digitsValue : (acc : Nat) → Text → Option Nat
  | acc, [] => some acc
  | acc, b :: bs =>
    match digitValue b with
    | none => none
    | some d => digitsValue (acc * 10 + d) bs

/-- An unsigned run of one or more digits. -/
def parseDigits (t : Text) : Option Nat := if t.isEmpty then none else digitsValue 0 t

/-- A number: an optional '-', then one or more digits, leading zeros allowed, "-0" being 0 (11.3, R189). Leading zeros do not
count as digits of a range: the value alone is judged (DESIGN CHOICE, log 37). -/
def parseNumber : Text → Option Int
  | [] => none
  | b :: bs =>
    if b = 0x2D#8 then (parseDigits bs).map fun n => -(n : Int) else (parseDigits (b :: bs)).map fun n => (n : Int)

/-- Every word read as a number, or none where one is not. -/
def parseNumbers (ts : List Text) : Option (List Int) := ts.mapM parseNumber

/-- A text split at its first `sep`: what stands before and after it. -/
def splitFirst (sep : Byte) : Text → Option (Text × Text)
  | [] => none
  | b :: bs => if b = sep then some ([], bs) else (splitFirst sep bs).map fun (l, r) => (b :: l, r)

/-- A text split at every space: its words, an empty word where two spaces meet or one stands at an end. -/
def splitWords : Text → List Text
  | [] => [[]]
  | b :: bs =>
    if b = 0x20#8 then [] :: splitWords bs
    else
      match splitWords bs with
      | [] => [[b]]
      | w :: ws => (b :: w) :: ws

/-- The word is made of one or more of the manual's characters 0x21..0x7E (R189, step 1). -/
def cleanWord (w : Text) : Bool := !w.isEmpty && w.all fun b => decide (0x21 ≤ b.toNat ∧ b.toNat ≤ 0x7E)

/-- A letter 0x41..0x5A or 0x61..0x7A folded to its class, A = 0 to Z = 25 (R59). -/
def letterClass (b : Byte) : Option (Fin 26) :=
  if 0x41 ≤ b.toNat ∧ b.toNat ≤ 0x5A then some (Fin.ofNat 26 (b.toNat - 0x41))
  else if 0x61 ≤ b.toNat ∧ b.toNat ≤ 0x7A then some (Fin.ofNat 26 (b.toNat - 0x61))
  else none

/-- The upper-case letter of a class (R66). -/
def upperLetter (c : Fin 26) : Byte := BitVec.ofNat 8 (0x41 + c.val)

/-! ### Names on the command link -/

/-- The keyword's text (R189). -/
def Keyword.text : Keyword → Text
  | .job => ascii "JOB" | .pairs => ascii "PAIRS" | .dictAdd => ascii "DICTADD" | .dictDel => ascii "DICTDEL"
  | .dictClear => ascii "DICTCLEAR" | .dictGet => ascii "DICTGET" | .dictList => ascii "DICTLIST"
  | .decideBreak => ascii "DECIDE" | .line => ascii "LINE" | .abort => ascii "ABORT" | .face => ascii "FACE"
  | .widths => ascii "WIDTHS" | .unmount => ascii "UNMOUNT" | .lens => ascii "LENS" | .survey => ascii "SURVEY"
  | .optics => ascii "OPTICS" | .stop => ascii "STOP" | .resume => ascii "RESUME" | .temps => ascii "TEMPS"
  | .intensity => ascii "INTENSITY" | .cassette => ascii "CASSETTE" | .feedCut => ascii "FEEDCUT"
  | .transport => ascii "TRANSPORT" | .printer => ascii "PRINTER" | .rest => ascii "REST" | .wake => ascii "WAKE"
  | .reset => ascii "RESET" | .tune => ascii "TUNE" | .clear => ascii "CLEAR" | .status => ascii "STATUS"
  | .faults => ascii "FAULTS" | .clearFault => ascii "CLEARFAULT" | .caps => ascii "CAPS"

/-- Every keyword (R189). -/
def Keyword.all : List Keyword :=
  [.job, .pairs, .dictAdd, .dictDel, .dictClear, .dictGet, .dictList, .decideBreak, .line, .abort, .face, .widths,
   .unmount, .lens, .survey, .optics, .stop, .resume, .temps, .intensity, .cassette, .feedCut, .transport, .printer,
   .rest, .wake, .reset, .tune, .clear, .status, .faults, .clearFault, .caps]

/-- The keyword a first word is, if any (R189, step 2). -/
def Keyword.ofText (t : Text) : Option Keyword := Keyword.all.find? fun k => k.text == t

/-- A flag's name (11.4). -/
def Flag.name : Flag → Text
  | .line => ascii "LINE" | .proof => ascii "PROOF" | .galley => ascii "GALLEY" | .room => ascii "ROOM"
  | .setup => ascii "SETUP" | .mount => ascii "MOUNT" | .filmLow => ascii "FILMLOW" | .filmOut => ascii "FILMOUT"
  | .cassette => ascii "CASSETTE" | .skip => ascii "SKIP" | .idle => ascii "IDLE" | .rest => ascii "REST"
  | .xfault => ascii "XFAULT" | .ffault => ascii "FFAULT" | .pfault => ascii "PFAULT"

/-- A flag's letter (11.4). -/
def Flag.letter : Flag → Byte
  | .line => 0x4C | .proof => 0x50 | .galley => 0x47 | .room => 0x52 | .setup => 0x53 | .mount => 0x4D
  | .filmLow => 0x57 | .filmOut => 0x4F | .cassette => 0x43 | .skip => 0x4B | .idle => 0x49 | .rest => 0x5A
  | .xfault => 0x58 | .ffault => 0x46 | .pfault => 0x51

/-- Every flag in the order of the flag table (11.4). -/
def Flag.all : List Flag :=
  [.line, .proof, .galley, .room, .setup, .mount, .filmLow, .filmOut, .cassette, .skip, .idle, .rest, .xfault, .ffault,
   .pfault]

/-- Letters of a set of flags, or `-` for none (R192, R195). -/
def flagLetters (fs : List Flag) : Text := if fs.isEmpty then dash else fs.map Flag.letter

/-- A kind's name in FAULTS (R193). -/
def ExposureKind.name : ExposureKind → Text
  | .drumStall => ascii "DRUM_STALL" | .strip => ascii "STRIP" | .prism => ascii "PRISM" | .lens => ascii "LENS"
  | .escape => ascii "ESCAPE" | .flash => ascii "FLASH"

/-- A kind's name in FAULTS (R193). -/
def FilmKind.name : FilmKind → Text
  | .jam => ascii "JAM" | .cutter => ascii "CUTTER"

/-- A kind's name in FAULTS (R193). -/
def ProofKind.name : ProofKind → Text
  | .printer => ascii "PRINTER" | .silent => ascii "SILENT"

/-- A composer state's name (3.1). -/
def CmpState.name : CmpState → Text
  | .idle => ascii "IDLE" | .reading => ascii "READING" | .waitText => ascii "WAIT_TEXT"
  | .stallSetup => ascii "STALL_SETUP" | .stallRoom => ascii "STALL_ROOM" | .referring => ascii "REFERRING"
  | .aborting => ascii "ABORTING"

/-- An Exposure Controller state's name (7.2). -/
def ExcState.name : ExcState → Text
  | .idle => ascii "IDLE" | .movingFilm => ascii "MOVING_FILM" | .preparing => ascii "PREPARING"
  | .armed => ascii "ARMED" | .flashing => ascii "FLASHING" | .held => ascii "HELD" | .stopped => ascii "STOPPED"
  | .faulted => ascii "FAULTED"

/-- A film transport state's name (R147). -/
def FtcState.name : FtcState → Text
  | .noCassette => ascii "NO_CASSETTE" | .ready => ascii "READY" | .moving => ascii "MOVING"
  | .cutting => ascii "CUTTING" | .faulted => ascii "FAULTED"

/-- A Proof Controller state's name (9.3). -/
def PrcState.name : PrcState → Text
  | .idle => ascii "IDLE" | .sending => ascii "SENDING" | .waiting => ascii "WAITING" | .skipping => ascii "SKIPPING"
  | .faulted => ascii "FAULTED"

/-- A drum state's name (10.1). -/
def DrumState.name : DrumState → Text
  | .stopped => ascii "STOPPED" | .spinningUp => ascii "SPINNING_UP" | .surveying => ascii "SURVEYING"
  | .atSpeed => ascii "AT_SPEED"

/-- A quad's name (R95). -/
def Quad.name : Quad → Text
  | .justify => ascii "JUSTIFY" | .left => ascii "LEFT" | .right => ascii "RIGHT" | .center => ascii "CENTER"

/-- A break kind's name (R95). -/
def BreakKind.name : BreakKind → Text
  | .word => ascii "WORD" | .hyphen => ascii "HYPHEN" | .hardHyphen => ascii "HARD_HYPHEN" | .forced => ascii "FORCED"
  | .para => ascii "PARA" | .overset => ascii "OVERSET" | .split => ascii "SPLIT"

/-- A line flag's letter in LINE (R95). -/
def LineFlag.letter : LineFlag → Byte
  | .loose => 0x4C | .overset => 0x4F | .missing => 0x4D | .code => 0x43 | .sizeSubst => 0x53 | .referred => 0x52
  | .lapsed => 0x54 | .clamped => 0x4B | .noMark => 0x4E | .part => 0x50 | .skipped => 0x58

/-- Every line flag in the order of LINE (R95). -/
def LineFlag.all : List LineFlag :=
  [.loose, .overset, .missing, .code, .sizeSubst, .referred, .lapsed, .clamped, .noMark, .part, .skipped]

/-- The refusal reasons (11.3). -/
inductive Reason where
  | unknown | badSyntax | range | full | busy | inUse | state | late | noRefer | notFound | badFrame
  deriving DecidableEq, Repr

/-- A reason's name (11.3). -/
def Reason.name : Reason → Text
  | .unknown => ascii "UNKNOWN" | .badSyntax => ascii "SYNTAX" | .range => ascii "RANGE" | .full => ascii "FULL"
  | .busy => ascii "BUSY" | .inUse => ascii "INUSE" | .state => ascii "STATE" | .late => ascii "LATE"
  | .noRefer => ascii "NOREFER" | .notFound => ascii "NOTFOUND" | .badFrame => ascii "BADFRAME"

/-- The reply `NO reason` (R189). -/
def no (r : Reason) : Text := ascii "NO " ++ r.name

/-- The reply `OK` (R189). -/
def ok : Text := ascii "OK"

/-- The reply `OK` with fields (R189). -/
def okWith (fs : List Text) : Text := ok ++ fields fs

end Sys2Proof.Machine
end

