-- ==== Sys2Proof/Machine/Flags.lean ====
section
/-! DEFINITION. Sets kept in table order, the flag set with its notices (R192), and the fault records (R193, R194). -/

namespace Sys2Proof.Machine

/-- `x` added to a set whose members stand in the order of `all`; a member added twice appears once. -/
def insertIn {α : Type} [BEq α] (all : List α) (x : α) (set : List α) : List α :=
  all.filter fun y => y == x || set.contains y

/-- Every member of `xs` added to the set. -/
def insertAll {α : Type} [BEq α] (all xs set : List α) : List α := xs.foldl (fun acc x => insertIn all x acc) set

/-- `x` taken out of a set. -/
def removeFrom {α : Type} [BEq α] (x : α) (set : List α) : List α := set.filter fun y => y != x

/-! ### The flag set -/

/-- A block raises flag `f` (R192): a clear flag becomes set and joins the pending names, a set flag changes nothing. -/
def Link.raise (f : Flag) (l : Link) : Link :=
  if l.flags.contains f then l
  else { l with flags := insertIn Flag.all f l.flags, pendingNames := insertIn Flag.all f l.pendingNames }

/-- Flag `f` becomes clear and leaves the pending names (R192). -/
def Link.clearFlag (f : Flag) (l : Link) : Link :=
  { l with flags := removeFrom f l.flags, pendingNames := removeFrom f l.pendingNames }

/-- Flag `f` raised in the Link Interface of `s` (R192). -/
def raise (f : Flag) (s : State) : State := s.withLink (s.link.raise f)

/-! ### Fault records -/

/-- A kind and a line number recorded (R193): an empty record takes both; a record with a first kind keeps them, and
another kind joins the also-seen set. -/
def FaultRecord.record {κ : Type} [BEq κ] (all : List κ) (kind : κ) (line : Nat) (r : FaultRecord κ) : FaultRecord κ :=
  match r.first with
  | none => { first := some kind, also := [], line := line }
  | some k => if k == kind then r else { r with also := insertIn all kind r.also }

/-- The kinds of the exposure record in table order (R193). -/
def ExposureKind.all : List ExposureKind := [.drumStall, .strip, .prism, .lens, .escape, .flash]
/-- The kinds of the film record in table order (R193). -/
def FilmKind.all : List FilmKind := [.jam, .cutter]
/-- The kinds of the proof record in table order (R193). -/
def ProofKind.all : List ProofKind := [.printer, .silent]

/-- A fault recorded in the EXPOSURE record, with XFAULT (R193). Its line number is that of the line the Exposure
Controller has IN_PROGRESS, or 0. -/
def exposureFault (kind : ExposureKind) (s : State) : State :=
  raise .xfault (s.withLink { s.link with
    exposure := s.link.exposure.record ExposureKind.all kind (s.exc.ptr.getD 0) })

/-- A fault recorded in the FILM record, with FFAULT (R193). -/
def filmFault (kind : FilmKind) (line : Nat) (s : State) : State :=
  raise .ffault (s.withLink { s.link with film := s.link.film.record FilmKind.all kind line })

/-- A fault recorded in the PROOF record, with PFAULT (R193). -/
def proofFault (kind : ProofKind) (line : Nat) (s : State) : State :=
  raise .pfault (s.withLink { s.link with proof := s.link.proof.record ProofKind.all kind line })

/-- A fault record as FAULTS writes it: first kind, also-seen kinds, line number (R193). -/
def FaultRecord.report {κ : Type} (name : κ → Text) (r : FaultRecord κ) : Text :=
  orElse dash (r.first.map name) ++ [0x2F#8] ++
    (if r.also.isEmpty then dash else joinText [0x2B#8] (r.also.map name)) ++ [0x2F#8] ++ decimal r.line

/-! ### Line flags -/

/-- A flag added to a line's flag set (5.1: a flag set twice appears once). -/
def addLineFlag (f : LineFlag) (fs : List LineFlag) : List LineFlag := insertIn LineFlag.all f fs

/-- Flags added to a line's flag set. -/
def addLineFlags (new fs : List LineFlag) : List LineFlag := insertAll LineFlag.all new fs

/-- A flag added where a condition holds. -/
def flagIf (c : Bool) (f : LineFlag) (fs : List LineFlag) : List LineFlag := if c then addLineFlag f fs else fs

/-- Column marks in ascending order. -/
def allMarks : List (Fin 4) := [0, 1, 2, 3]

end Sys2Proof.Machine
end

