-- ==== Sys2Proof/Machine/Units.lean ====
section
/-! DEFINITION. Widths, glue, the spacing of a line and positions on the drum (R4, R5, R10, R52 to R57). -/

namespace Sys2Proof.Machine

/-- The width in set steps of a relative width `w` at size `size` (R4). -/
def width (w size : Nat) : Nat := (w * size * 5 + 12) / 24

/-- The em of a size in set steps (R2). -/
def em (size : Nat) : Nat := 10 * size

/-- A line's glue at a size (R41). -/
def glueAt (j : Job) (size : Nat) : Glue :=
  { min := width j.wsMin size, opt := width j.wsOpt size, max := width j.wsMax size }

/-- The available width of a line (R6). -/
def LineSet.available (l : LineSet) : Nat := l.measure - l.left - l.right

/-- Indents brought into agreement with the measure (R20): the right one reduced first, then the left. -/
def LineSet.agree (l : LineSet) : LineSet :=
  let room := l.measure - 240
  if l.left + l.right ≤ room then l
  else if l.left ≤ room then { l with right := room - l.left }
  else { l with right := 0, left := room }

/-- The element is a box (3.3). -/
def Elem.isBox (e : Elem) : Bool :=
  match e.kind with
  | .box _ _ _ => true
  | _ => false

/-- The element is an ABSENT space element (R38). -/
def Elem.isAbsent (e : Elem) : Bool := e.kind == .absent

/-- Sum of the widths of elements (R52, B). -/
def widthSum (es : List Elem) : Nat := (es.map Elem.width).sum

/-- Number of word spaces of elements (R40, n). -/
def spaceCount (es : List Elem) : Nat := (es.map Elem.before).sum

/-- A gap: two consecutive boxes with no space between (R52). -/
def isGap (a b : Elem) : Bool := a.isBox && b.isBox && b.before == 0

/-- Number of gaps of elements (R52, g). -/
def gapCount : List Elem → Nat
  | a :: b :: es => (if isGap a b then 1 else 0) + gapCount (b :: es)
  | _ => 0

/-- Width of the widest space of a base/r distribution (R53). -/
def widest (base r : Nat) : Nat := if r > 0 then base + 1 else base

/-- How a line is spaced: its glue result, its offset, and whether it is LOOSE (R53 to R57). -/
structure Spacing where
  result : GlueResult
  offset : Nat
  loose  : Bool
  deriving DecidableEq, Repr

/-- The spacing of a JUSTIFY line with word spaces (R53, R54). `d` is A − B, `n` ≥ 1 its spaces, `g` its gaps. -/
def justifySpaces (glue : Glue) (lsMax d n g : Nat) : Spacing :=
  if widest (d / n) (d % n) > glue.max then
    let ls := if lsMax > 0 ∧ g > 0 then min lsMax ((d - n * glue.max) / g) else 0
    let rem := d - ls * g
    { result := { n := n, base := rem / n, r := rem % n, ls := ls }, offset := 0,
      loose := widest (rem / n) (rem % n) > glue.max }
  else { result := { n := n, base := d / n, r := d % n, ls := 0 }, offset := 0, loose := false }

/-- The spacing of a JUSTIFY line without word spaces (R55). -/
def justifyNoSpace (lsMax d g : Nat) (hasBox : Bool) : Spacing :=
  if hasBox then
    let ls := if g > 0 then min lsMax (d / g) else 0
    { result := { n := 0, base := 0, r := 0, ls := ls }, offset := 0, loose := d - ls * g > 0 }
  else { result := { n := 0, base := 0, r := 0, ls := 0 }, offset := 0, loose := false }

/-- The spacing of a ragged line (R56): spaces at opt where they fit, else distributed; the offset by the quad. -/
def raggedSpacing (quad : Quad) (glue : Glue) (avail b n : Nat) : Spacing :=
  let d := avail - b
  let atOpt := b + n * glue.opt ≤ avail
  let base := if n = 0 then 0 else if atOpt then glue.opt else d / n
  let r := if n = 0 then 0 else if atOpt then 0 else d % n
  let w := b + base * n + r
  let offset :=
    match quad with
    | .right => avail - w
    | .center => (avail - w) / 2
    | _ => 0
  { result := { n := n, base := base, r := r, ls := 0 }, offset := offset, loose := false }

/-- The spacing of a line (R52 to R57), for the quad it is spaced with. -/
def spacingOf (quad : Quad) (overset : Bool) (glue : Glue) (lsMax avail : Nat) (es : List Elem) : Spacing :=
  let b := widthSum es
  let n := spaceCount es
  if overset then { result := { n := n, base := 0, r := 0, ls := 0 }, offset := 0, loose := false }
  else
    match quad with
    | .justify =>
      if n = 0 then justifyNoSpace lsMax (avail - b) (gapCount es) (es.any Elem.isBox)
      else justifySpaces glue lsMax (avail - b) n (gapCount es)
    | q => raggedSpacing q glue avail b n

/-- Width of the spaces numbered `k` to `k + m − 1` of a base/r distribution (R52). -/
def spacesWidth (base r k m : Nat) : Nat := base * m + (min r (k + m) - min r k)

/-- Elements given their x (R57): `at_` is the left edge left so far, `k` the spaces already passed, `prev` the element
before. -/
def placeFrom (res : GlueResult) : (at_ k : Nat) → (prev : Option Elem) → List Elem → List Elem
  | _, _, _, [] => []
  | at_, k, prev, e :: es =>
    let gap :=
      match prev with
      | none => 0
      | some a => if isGap a e then res.ls else 0
    let x := at_ + spacesWidth res.base res.r k e.before + gap
    { e with x := x } :: placeFrom res (x + e.width) (k + e.before) (some e) es

/-- The drum position of a slot under a phase trim (R10). -/
def slotPosition (slot : Nat) (phase : Int) : Nat := (((slot : Int) * 32 + phase) % 3072).toNat

/-- The countdown armed at encoder count `c` for target `t`: never 0, a full revolution instead (R134). -/
def countdownTo (t c : Nat) : Nat :=
  let d := (t + 3072 - c % 3072) % 3072
  if d = 0 then 3072 else d

/-- The flash energy (R132). -/
def flashEnergy (entry density : Nat) : Nat := clampNat 1 255 ((entry * density + 50) / 100)

/-- The temperature band of a reading (R130). -/
def bandOf (t1 t2 t3 now : Int) : Fin 4 :=
  if now < t1 then 0 else if now < t2 then 1 else if now < t3 then 2 else 3

/-- A counter 1..65,535 raised by one, 1 following 65,535 (R84, R147, R173). -/
def nextCount (n : Nat) : Nat := if n ≥ 65535 then 1 else n + 1

/-- A table entry, 0 outside the table. -/
def entry {n : Nat} (v : Vector Nat n) (i : Nat) : Nat := v.getD i 0

end Sys2Proof.Machine
end

