-- ==== Sys2Proof/Machine/Ops.lean ====
section
/-! DEFINITION. Operations over the records, the element pool, the mount and lens tables and the text queue that several
blocks share. -/

namespace Sys2Proof.Machine

/-! ### Records of the line store -/

/-- The record numbered `n` in the store. -/
def Store.find (st : Store) (n : Nat) : Option LineRecord := st.records.find? fun r => r.number == n

/-- The record numbered `n` changed by `f`. -/
def Store.update (st : Store) (n : Nat) (f : LineRecord → LineRecord) : Store :=
  { st with records := st.records.map fun r => if r.number == n then f r else r }

/-- The record numbered `n` in the store of `s`, changed by `f`. -/
def updateRecord (n : Nat) (f : LineRecord → LineRecord) (s : State) : State := s.withSls (s.sls.update n f)

/-- The exposure state is DONE, PARTIAL or NOT_REQUIRED (R85). -/
def ExpState.terminal : ExpState → Bool
  | .done | .part | .notRequired => true
  | _ => false

/-- The proof state is DONE, SKIPPED or NOT_REQUIRED (R86). -/
def ProofState.terminal : ProofState → Bool
  | .done | .skipped | .notRequired => true
  | _ => false

/-- The record is terminal in both states (R92). -/
def LineRecord.finished (r : LineRecord) : Bool := r.exp.terminal && r.proof.terminal

/-- The oldest record whose exposure state is PENDING and which carries no discard mark (R90). -/
def Store.nextExposure (st : Store) : Option LineRecord :=
  st.records.find? fun r => r.exp == .pending && !r.discard

/-- The oldest record whose proof state is PENDING and which carries no discard mark (R91, R167). -/
def Store.nextProof (st : Store) : Option LineRecord :=
  st.records.find? fun r => r.proof == .pending && !r.discard

/-- The record the Exposure Controller has IN_PROGRESS (R123). -/
def currentRecord (s : State) : Option LineRecord := s.exc.ptr.bind s.sls.find

/-- An abort is in progress (R97, R100): the composer is in ABORTING. -/
def aborting (s : State) : Bool := s.cmp.st == .aborting

/-! ### The element pool -/

/-- Elements of a line the composer has closed and holds in STALL_ROOM (R50). -/
def heldLine (s : State) : List Elem :=
  match s.cmp.task with
  | some (.offer r _) => r.elems
  | _ => []

/-- Elements of the open line. -/
def openElems (s : State) : List Elem :=
  match s.cmp.line with
  | some l => l.elems
  | none => []

/-- Elements in the store's records, in the open line and in a closed line held (R88). -/
def usedElements (s : State) : Nat :=
  (s.sls.records.map fun r => r.elems.length).sum + (openElems s).length + (heldLine s).length

/-- The free pool (R88). -/
def freePool (s : State) : Nat := Config.poolElements - usedElements s

/-! ### Mounts and lenses -/

/-- Mount states (R103). -/
inductive MountState where
  | empty | unverified | mismatch | ready
  deriving DecidableEq, Repr

/-- A mount's state, its conditions tested in the order of R103. -/
def Mount.state (m : Mount) : MountState :=
  if m.expected = 0 then .empty
  else
    match m.observed with
    | none => .unverified
    | some o => if o = m.expected then .ready else .mismatch

/-- Mount `m` of the table. -/
def Optics.mount (o : Optics) (m : Fin 8) : Mount := o.mounts.get m

/-- The table with mount `m` replaced. -/
def Optics.setMount (o : Optics) (m : Fin 8) (x : Mount) : Optics := { o with mounts := o.mounts.set m.val x m.isLt }

/-- The size turret position `p` holds (R109). -/
def Optics.lensSize (o : Optics) (p : Fin 8) : Nat := o.lenses.get p

/-- A width-table entry; slots are 1..95 (R103). -/
def Mount.widthOf (m : Mount) (slot : Nat) : Nat := if slot = 0 then 0 else entry m.widths (slot - 1)

/-- The element is a box of mount `m`. -/
def Elem.onMount (m : Fin 8) (e : Elem) : Bool :=
  match e.kind with
  | .box m' _ _ => m' == m
  | _ => false

/-- The element is a box through lens position `p`. -/
def Elem.onLens (p : Fin 8) (e : Elem) : Bool :=
  match e.kind with
  | .box _ _ p' => p' == p
  | _ => false

/-- The element of a word item, if it is one. -/
def WordItem.elem? : WordItem → Option Elem
  | .elem _ e _ => some e
  | _ => none

/-- Elements of a run of word items. -/
def itemElems (is : List WordItem) : List Elem := is.filterMap WordItem.elem?

/-- Some element of the word buffer, the open line, a held closed line or a record satisfies `p` (R104). -/
def anyElem (p : Elem → Bool) (s : State) : Bool :=
  (itemElems s.cmp.word.items).any p || (openElems s).any p || (heldLine s).any p ||
    s.sls.records.any fun r => r.elems.any p

/-- Mount `m` is referenced (R104). -/
def mountReferenced (m : Fin 8) (s : State) : Bool := anyElem (Elem.onMount m) s

/-- Lens position `p` is referenced (R104). -/
def lensReferenced (p : Fin 8) (s : State) : Bool := anyElem (Elem.onLens p) s

/-- The element is a box whose mount is not READY (R127). -/
def Elem.notReady (o : Optics) (e : Elem) : Bool :=
  match e.kind with
  | .box m _ _ => (o.mount m).state != .ready
  | _ => false

/-- Elements of a record not yet set (R127). -/
def LineRecord.remaining (r : LineRecord) : List Elem := r.elems.drop r.exposed

/-! ### Size resolution -/

/-- Turret positions in ascending order. -/
def lensPositions : List (Fin 8) := [0, 1, 2, 3, 4, 5, 6, 7]

/-- How far two sizes are apart. -/
def sizeDistance (a b : Nat) : Nat := if a ≤ b then b - a else a - b

/-- The better of a candidate size and the best so far for a requested size: nearer, and the smaller of two equally near
(R110). -/
def nearer (req : Nat) (best : Option Nat) (size : Nat) : Option Nat :=
  if size = 0 then best
  else
    match best with
    | none => some size
    | some b =>
      if sizeDistance req size < sizeDistance req b ∨ (sizeDistance req size = sizeDistance req b ∧ size < b) then some size
      else some b

/-- A requested size resolved against the lens table (R110): the lowest position of the exact or nearest size; none when
no lens is defined. The flag says that the size was substituted. -/
def Optics.resolve (o : Optics) (req : Nat) : Option (LensSel × Bool) :=
  match lensPositions.foldl (fun best p => nearer req best (o.lensSize p)) none with
  | none => none
  | some size =>
    (lensPositions.find? fun p => o.lensSize p == size).map fun p => ({ pos := p, size := size }, size != req)

/-! ### The text queue -/

/-- Room of the text queue (R11). -/
def TextQueue.room (q : TextQueue) : Nat := Config.textQueue - q.bytes.length

/-- The text queue emptied or drained to `bytes`: the armed room watch raises ROOM and is disarmed once the room is
2,048 or more (R14). -/
def drainTo (bytes : Text) (s : State) : State :=
  let q : TextQueue := { s.txq with bytes := bytes }
  if q.watch ∧ q.room ≥ Config.roomWatch then raise .room (s.withTxq { q with watch := false }) else s.withTxq q

end Sys2Proof.Machine
end

