-- ==== Sys2Proof/Machine/Operands.lean ====
section
/-! DEFINITION. The parameter forms of the commands: numbers in ranges, words, KEY=value pairs (R189, R190), and the keys of
JOB (R29) and TUNE (R190). -/

namespace Sys2Proof.Machine

/-- A value lies in a range. -/
def inRange (low high v : Int) : Bool := decide (low ≤ v ∧ v ≤ high)

/-- A word looked up among named values. -/
def wordValue {α : Type} (names : List (String × α)) (w : Text) : Option α :=
  (names.find? fun p => ascii p.1 == w).map Prod.snd

/-- A KEY=value pair (R189): a key before the first '=', a value after it that is not empty. -/
def splitPair (w : Text) : Option (Text × Text) :=
  match splitFirst 0x3D w with
  | some (k, v) => if v.isEmpty then none else some (k, v)
  | none => none

/-- A key stands twice among pairs. -/
def keyTwice {κ ν : Type} [BEq κ] : List (κ × ν) → Bool
  | [] => false
  | p :: ps => (ps.any fun q => q.1 == p.1) || keyTwice ps

/-! ### JOB -/

/-- The keys of JOB (2.8). -/
inductive JobKey where
  | wsMin | wsOpt | wsMax | lsMax | hyph | lMin | rMin | ladder | thresh | refer | timeout | mode | name
  deriving DecidableEq, Repr

/-- A value of a JOB key, of the key's form (R29). -/
inductive JobValue where
  | num (v : Int)
  | switch (on : Bool)
  | classes (c : ReferClasses)
  | mode (m : Mode)
  | name (t : Text)
  deriving DecidableEq, Repr

/-- A JOB key read from its word. -/
def JobKey.ofText : Text → Option JobKey := wordValue
  [("WSMIN", .wsMin), ("WSOPT", .wsOpt), ("WSMAX", .wsMax), ("LSMAX", .lsMax), ("HYPH", .hyph), ("LMIN", .lMin),
   ("RMIN", .rMin), ("LADDER", .ladder), ("THRESH", .thresh), ("REFER", .refer), ("TIMEOUT", .timeout),
   ("MODE", .mode), ("NAME", .name)]

/-- Referral classes read on: each of U, W and C at most once (R29). -/
def readClasses (c : ReferClasses) : Text → Option ReferClasses
  | [] => some c
  | b :: bs =>
    if b = 0x55#8 ∧ !c.u then readClasses { c with u := true } bs
    else if b = 0x57#8 ∧ !c.w then readClasses { c with w := true } bs
    else if b = 0x43#8 ∧ !c.c then readClasses { c with c := true } bs
    else none

/-- The value of REFER: NONE, or one to three distinct letters (R29). -/
def parseRefer (w : Text) : Option ReferClasses :=
  if w == ascii "NONE" then some { u := false, w := false, c := false }
  else if w.isEmpty then none
  else readClasses { u := false, w := false, c := false } w

/-- A value read in its key's form (R29). -/
def parseJobValue (k : JobKey) (w : Text) : Option JobValue :=
  match k with
  | .hyph => (wordValue [("ON", true), ("OFF", false)] w).map .switch
  | .mode => (wordValue [("FILM", Mode.film), ("PROOF", .proof), ("BOTH", .both)] w).map .mode
  | .refer => (parseRefer w).map .classes
  | .name => if cleanWord w then some (.name w) else none
  | _ => (parseNumber w).map .num

/-- A JOB pair read from its word. -/
def parseJobPair (w : Text) : Option (JobKey × JobValue) :=
  (splitPair w).bind fun (k, v) => (JobKey.ofText k).bind fun key => (parseJobValue key v).map fun x => (key, x)

/-- The pairs of a JOB command; none where the form is wrong (R29). -/
def parseJob (params : List Text) : Option (List (JobKey × JobValue)) :=
  match params.mapM parseJobPair with
  | none => none
  | some ps => if ps.isEmpty || keyTwice ps then none else some ps

/-- A JOB value lies in its range (R29, 2.8). -/
def jobInRange : JobKey × JobValue → Bool
  | (.wsMin, .num v) | (.wsOpt, .num v) | (.wsMax, .num v) => inRange 1 96 v
  | (.lsMax, .num v) => inRange 0 40 v
  | (.lMin, .num v) | (.rMin, .num v) => inRange 1 6 v
  | (.ladder, .num v) => inRange 0 9 v
  | (.thresh, .num v) => inRange 1 3 v
  | (.timeout, .num v) => v == 0 || inRange 5 255 v
  | (_, .name t) => decide (t.length ≤ 16)
  | _ => true

/-- A pair entered in the pending set (R29). -/
def PendingJob.enter (p : PendingJob) : JobKey × JobValue → PendingJob
  | (.wsMin, .num v) => { p with wsMin := some v.toNat }
  | (.wsOpt, .num v) => { p with wsOpt := some v.toNat }
  | (.wsMax, .num v) => { p with wsMax := some v.toNat }
  | (.lsMax, .num v) => { p with lsMax := some v.toNat }
  | (.lMin, .num v) => { p with lMin := some v.toNat }
  | (.rMin, .num v) => { p with rMin := some v.toNat }
  | (.ladder, .num v) => { p with ladder := some v.toNat }
  | (.thresh, .num v) => { p with thresh := some v.toNat }
  | (.timeout, .num v) => { p with timeout := some v.toNat }
  | (_, .switch b) => { p with hyph := some b }
  | (_, .classes c) => { p with refer := some c }
  | (_, .mode m) => { p with mode := some m }
  | (_, .name t) => { p with name := some t }
  | _ => p

/-- The key is one of the glue keys (R30). -/
def JobKey.isGlue : JobKey → Bool
  | .wsMin | .wsOpt | .wsMax => true
  | _ => false

/-- The job parameters with a pending set applied (R28). -/
def Job.apply (j : Job) (p : PendingJob) : Job :=
  { wsMin := p.wsMin.getD j.wsMin, wsOpt := p.wsOpt.getD j.wsOpt, wsMax := p.wsMax.getD j.wsMax,
    lsMax := p.lsMax.getD j.lsMax, hyph := p.hyph.getD j.hyph, lMin := p.lMin.getD j.lMin, rMin := p.rMin.getD j.rMin,
    ladder := p.ladder.getD j.ladder, thresh := p.thresh.getD j.thresh, refer := p.refer.getD j.refer,
    timeout := p.timeout.getD j.timeout, mode := p.mode.getD j.mode, name := p.name.getD j.name }

/-- The glue of job parameters is in order: WSMIN ≤ WSOPT ≤ WSMAX (R30). -/
def Job.glueOk (j : Job) : Bool := decide (j.wsMin ≤ j.wsOpt ∧ j.wsOpt ≤ j.wsMax)

/-! ### TUNE -/

/-- The keys of TUNE (R190). -/
inductive TuneKey where
  | debounce | density | feed | lowFilm | autoCut | margin | proof | grant | rest
  deriving DecidableEq, Repr

/-- A TUNE value of its key's form: a number with the note whether it was written with a '-', or a proof mode. -/
inductive TuneValue where
  | num (v : Int) (minus : Bool)
  | mode (m : ProofMode)
  deriving DecidableEq, Repr

/-- A TUNE key read from its word. -/
def TuneKey.ofText : Text → Option TuneKey := wordValue
  [("DEBOUNCE", .debounce), ("DENSITY", .density), ("FEED", .feed), ("LOWFILM", .lowFilm), ("AUTOCUT", .autoCut),
   ("MARGIN", .margin), ("PROOF", .proof), ("GRANT", .grant), ("REST", .rest)]

/-- A TUNE value read in its key's form (R190, R177). -/
def parseTuneValue (k : TuneKey) (w : Text) : Option TuneValue :=
  match k with
  | .proof => (wordValue [("REQUIRED", ProofMode.required), ("BEST", .best)] w).map .mode
  | _ => (parseNumber w).map fun v => .num v (w.head? == some 0x2D#8)

/-- A TUNE pair read from its word. -/
def parseTunePair (w : Text) : Option (TuneKey × TuneValue) :=
  (splitPair w).bind fun (k, v) => (TuneKey.ofText k).bind fun key => (parseTuneValue key v).map fun x => (key, x)

/-- The pairs of a TUNE command; none where the form is wrong (R190). -/
def parseTune (params : List Text) : Option (List (TuneKey × TuneValue)) :=
  match params.mapM parseTunePair with
  | none => none
  | some ps => if keyTwice ps then none else some ps

/-- The range of a TUNE key (R190). -/
def TuneKey.range : TuneKey → Int × Int
  | .debounce => (4, 64) | .density => (50, 150) | .feed => (-1000, 1000) | .lowFilm => (0, 600)
  | .autoCut => (0, 600) | .margin => (0, 720) | .proof => (0, 0) | .grant => (1, 60) | .rest => (0, 60)

/-- A TUNE value lies in its range; only FEED takes a '-' (R190). -/
def tuneInRange : TuneKey × TuneValue → Bool
  | (.feed, .num v _) => inRange (-1000) 1000 v
  | (k, .num v minus) => !minus && inRange k.range.1 k.range.2 v
  | (_, .mode _) => true

/-! ### Words of other commands -/

/-- SOFT or HARD (R97, R143). -/
def parseHalt : Text → Option HaltForm := wordValue [("SOFT", .soft), ("HARD", .hard)]

/-- A proof style (R105). -/
def parseStyle : Text → Option ProofStyle :=
  wordValue [("PLAIN", .plain), ("UNDER", .under), ("BOLD", .bold), ("BOTH", .both)]

/-- A number or the word ALL (R131): `some none` is ALL. -/
def parseNumberOrAll (w : Text) : Option (Option Int) :=
  if w == ascii "ALL" then some none else (parseNumber w).map some

/-- A dictionary word folded to its classes (R63, R64); none where a character is no letter or the word is empty. -/
def parseWord (w : Text) : Option (List (Fin 26)) := if w.isEmpty then none else w.mapM letterClass

end Sys2Proof.Machine
end

