-- ==== Sys2Proof/Machine/Mechanisms.lean ====
section
/-! DEFINITION. The strip shift, row prism, lens turret and escapement: requests, operations in flight, what their ends
bring (R111 to R113, R129), and what of them belongs to the Exposure Controller's line. -/

namespace Sys2Proof.Machine

/-- How a mechanism is driven to `t` (R111, R112). -/
def driveFor (k : Mechanism) (held : Option Nat) (t : Nat) : Drive :=
  match k with
  | .turret =>
    match held with
    | none => .forwardToSense
    | some c =>
      let d := (t + 8 - c % 8) % 8
      if d ≤ 4 then .forward d else .backward (8 - d)
  | _ => .toward

/-- A mechanism at rest given a request (R111): nothing to do at the target, else an operation started. -/
def startOrRest (k : Mechanism) (held : Option Nat) (by_ : Requester) (t : Nat) (ws : List (Requester × Nat)) :
    MechState :=
  if held = some t then { held := held, flight := none, waiting := ws }
  else { held := none, flight := some { target := t, by_ := by_, drive := driveFor k held t }, waiting := ws }

/-- A request for target `t` (R111); with an operation in flight it waits. -/
def MechState.request (k : Mechanism) (by_ : Requester) (t : Nat) (m : MechState) : MechState :=
  match m.flight with
  | some _ => { m with waiting := m.waiting ++ [(by_, t)] }
  | none => startOrRest k m.held by_ t m.waiting

/-- The waiting requests handled in turn once an operation has ended (R111), until one starts an operation. -/
def serveWaiting (k : Mechanism) (held : Option Nat) : List (Requester × Nat) → MechState
  | [] => { held := held, flight := none, waiting := [] }
  | (by_, t) :: ws =>
    if held = some t then serveWaiting k held ws
    else { held := none, flight := some { target := t, by_ := by_, drive := driveFor k held t }, waiting := ws }

/-- Mechanism `k`. -/
def Optics.mech (o : Optics) : Mechanism → MechState
  | .strip => o.strip
  | .prism => o.prism
  | .turret => o.turret

/-- The Optics Controller with mechanism `k` replaced. -/
def Optics.setMech (o : Optics) (k : Mechanism) (m : MechState) : Optics :=
  match k with
  | .strip => { o with strip := m }
  | .prism => { o with prism := m }
  | .turret => { o with turret := m }

/-- A mechanism request (R111). -/
def requestMech (k : Mechanism) (by_ : Requester) (t : Nat) (s : State) : State :=
  s.withOpc (s.opc.setMech k ((s.opc.mech k).request k by_ t))

/-- The fault kind of a mechanism (6.4). -/
def mechKind : Mechanism → ExposureKind
  | .strip => .strip
  | .prism => .prism
  | .turret => .lens

/-! ### The escapement -/

/-- A request for escapement position `x` (R129); with a move in flight it waits. -/
def Escapement.request (x : Nat) (why : EscMove) (e : Escapement) : Escapement :=
  match e.flight with
  | some _ => { e with waiting := e.waiting ++ [(x, why)] }
  | none => if e.held = some x then e else { e with held := none, flight := some (x, why) }

/-- The waiting requests of the escapement handled in turn once a move has ended (R129), until one starts a move. -/
def serveEscapement (held : Option Nat) : List (Nat × EscMove) → Escapement
  | [] => { held := held, flight := none, waiting := [] }
  | (x, why) :: ws =>
    if held = some x then serveEscapement held ws else { held := none, flight := some (x, why), waiting := ws }

/-- The escapement once its move has ended with `held` (R129): the requests that wait are handled. -/
def Escapement.ended (held : Option Nat) (e : Escapement) : Escapement := serveEscapement held e.waiting

/-- An escapement request (R129). -/
def requestEsc (x : Nat) (why : EscMove) (s : State) : State :=
  s.withExc { s.exc with esc := s.exc.esc.request x why }

/-! ### What belongs to the line being exposed -/

/-- The mechanism has an operation in flight for the Exposure Controller. -/
def MechState.flightForExposure (m : MechState) : Bool :=
  match m.flight with
  | some f => f.by_ == .exposure
  | none => false

/-- The mechanism has a request of the Exposure Controller waiting. -/
def MechState.waitsForExposure (m : MechState) : Bool := m.waiting.any fun w => w.1 == .exposure

/-- The escapement moves for an element, not for the park. -/
def Escapement.flightForElement (e : Escapement) : Bool :=
  match e.flight with
  | some (_, .element) => true
  | _ => false

/-- An element's escapement request waits. -/
def Escapement.waitsForElement (e : Escapement) : Bool := e.waiting.any fun w => w.2 == .element

/-- An operation requested for the line's elements is in flight (R128, R141). -/
def opsInFlight (s : State) : Bool :=
  s.opc.strip.flightForExposure || s.opc.prism.flightForExposure || s.opc.turret.flightForExposure ||
    s.exc.esc.flightForElement

/-- A requested operation of the line's elements has not completed (R128). -/
def opsOutstanding (s : State) : Bool :=
  opsInFlight s || s.opc.strip.waitsForExposure || s.opc.prism.waitsForExposure || s.opc.turret.waitsForExposure ||
    s.exc.esc.waitsForElement

/-- A mechanism's waiting requests of the Exposure Controller withdrawn. -/
def MechState.withdraw (m : MechState) : MechState :=
  { m with waiting := m.waiting.filter fun w => w.1 != .exposure }

/-- The escapement's waiting element requests withdrawn. -/
def Escapement.withdraw (e : Escapement) : Escapement := { e with waiting := e.waiting.filter fun w => w.2 != .element }

/-- The requests of the Exposure Controller that have started nothing are withdrawn: it starts no operation while FAULTED
(R141), stopped HARD (R143), or ending its line (R145, R146) (log 15). -/
def withdrawRequests (s : State) : State :=
  (s.withOpc { s.opc with
    strip := s.opc.strip.withdraw, prism := s.opc.prism.withdraw, turret := s.opc.turret.withdraw }).withExc
    { s.exc with esc := s.exc.esc.withdraw }

/-- Nothing of the line is in flight: no element operation, no flash, no vertical move (R143). -/
def quiet (s : State) : Bool :=
  !opsInFlight s && s.exc.st != .flashing && !(s.exc.moveOut && s.ftc.st == .moving)

/-- The mechanisms stand at the targets of box `m`, lens `p`, position `x` (R128, R134). -/
def atTargets (m p : Fin 8) (x : Nat) (s : State) : Bool :=
  s.opc.strip.held == some (m.val / 2) && s.opc.prism.held == some (m.val % 2) && s.opc.turret.held == some p.val &&
    s.exc.esc.held == some x

/-- The four operations of a box requested together (R128). -/
def requestBox (m p : Fin 8) (x : Nat) (s : State) : State :=
  requestEsc x .element (requestMech .turret .exposure p.val (requestMech .prism .exposure (m.val % 2)
    (requestMech .strip .exposure (m.val / 2) s)))

end Sys2Proof.Machine
end

