-- ==== Sys2Proof/Machine/Film.lean ====
section
/-! DEFINITION. The Film Transport Controller: vertical moves, feed correction, cuts, the low-film match (R149 to R160). -/

namespace Sys2Proof.Machine

/-- The stepper operation of a move to `target` (R155, R156). -/
def Film.stepping (f : Film) (target : Nat) : Stepping :=
  let n : Int := (target : Int) - (f.p : Int)
  let e1 := f.e + (n.natAbs : Int) * f.feed
  let k := Int.tdiv e1 Config.million
  let steps := ((n.natAbs : Int) + k).toNat
  { steps := steps, forward := n > 0, timeout := 100 + steps / 8, newE := e1 - k * Config.million }

/-- No stepper operation is started: the distance or the motor steps are 0 (R155). -/
def Film.atOnce (f : Film) (target : Nat) : Bool := f.p == target || (f.stepping target).steps == 0

/-- Positions after a move to `target` (R153, R159). -/
def Film.moved (f : Film) (target : Nat) (newE : Int) : Film :=
  { f with p := target, dmax := max f.dmax target, e := newE, op := none }

/-- The marks named set to a position (R153). -/
def setMarks (ks : List (Fin 4)) (at_ : Nat) (marks : Vector (Option Nat) 4) : Vector (Option Nat) 4 :=
  ks.foldl (fun v k => v.set k.val (some at_) k.isLt) marks

/-- A line's move completed in the film transport (R153). -/
def Film.lineMoved (f : Film) (m : LineMove) (newE : Int) : Film :=
  { f.moved m.target newE with marks := setMarks m.marks m.target f.marks, st := .ready, failed := none }

/-- The low-film match holds (R156). -/
def Film.lowNow (f : Film) : Bool :=
  !f.lowMatched && f.lowFilm != 0 && f.st != .noCassette && decide (f.cap - f.dmax ≤ f.lowFilm * Config.picaSteps)

/-- The low-film match tested (R156). -/
def testLowFilm (s : State) : State :=
  if s.ftc.lowNow then raise .filmLow (s.withFtc { s.ftc with lowMatched := true }) else s

/-- What a move request reports to the Exposure Controller in the event of the request (R126). -/
inductive MoveReport where
  | filmOut | moving | completed
  deriving DecidableEq, Repr

/-- The target of a line's move before the checks, and whether an unset mark was met (R151). -/
def Film.rawTarget (f : Film) : Move → Int × Bool
  | .lead l => ((f.p : Int) + l, false)
  | .toMark k l =>
    match f.marks.get k with
    | some v => ((v : Int), false)
    | none => ((f.p : Int) + l, true)

/-- The checked target of a record's move (R151): raised to the galley top, with what is reported of it. -/
def Film.lineTarget (f : Film) (r : LineRecord) : LineMove :=
  let (t, noMark) := f.rawTarget r.move
  { target := (max t (f.g : Int)).toNat, number := r.number, marks := r.marks, noMark := noMark,
    clamped := decide (t < (f.g : Int)) }

/-- A line's move issued (R155, R156): completed at once, or in flight on the stepper. -/
def issueLineMove (m : LineMove) (s : State) : MoveReport × State :=
  let p := s.ftc.stepping m.target
  if s.ftc.atOnce m.target then (.completed, testLowFilm (s.withFtc (s.ftc.lineMoved m p.newE)))
  else (.moving, s.withFtc { s.ftc with st := .moving, op := some (.lineMove m p), failed := none })

/-- A record's vertical move requested of the READY film transport (R151, R152). -/
def requestMove (r : LineRecord) (s : State) : MoveReport × State :=
  let m := s.ftc.lineTarget r
  if m.target > s.ftc.cap then (.filmOut, raise .filmOut (s.withFtc { s.ftc with filmOut := true }))
  else issueLineMove m s

/-- The cutter operated (R159, step 2). -/
def startCutter (s : State) : State :=
  s.withFtc { s.ftc with st := .cutting, op := some .cutter, failed := none }

/-- A cut's margin move completed: the cutter follows (R159). -/
def marginMoved (target : Nat) (newE : Int) (s : State) : State :=
  startCutter (testLowFilm (s.withFtc (s.ftc.moved target newE)))

/-- A cut's margin move issued to its recorded target (R159, step 1). -/
def issueMargin (target : Nat) (s : State) : State :=
  let p := s.ftc.stepping target
  if s.ftc.atOnce target then marginMoved target p.newE s
  else s.withFtc { s.ftc with st := .cutting, op := some (.margin p), failed := none }

/-- A cut started, with the line number a fault of it is given (R159, R161). -/
def startCut (line : Nat) (s : State) : State :=
  let target := min s.ftc.cap (s.ftc.dmax + s.ftc.margin)
  issueMargin target (s.withFtc { s.ftc with st := .cutting, cut := some { target := target, line := line } })

/-- A cut follows a line's DONE (R157). -/
def Film.cutFollows (f : Film) (cutAfter : Bool) : Bool :=
  f.st == .ready &&
    (cutAfter || (f.autoCut != 0 && decide (f.dmax - f.g ≥ f.autoCut * Config.picaSteps)))

/-- The cutter's completion in the film transport (R159). -/
def Film.cutDone (f : Film) : Film :=
  { f with g := f.p, dmax := f.p, marks := Vector.replicate 4 none, galley := nextCount f.galley, st := .ready,
           op := none, cut := none, failed := none }

/-- A failed move or cutter operation (R156, R159): it ends, its step is kept, the transport is FAULTED. -/
def Film.fail (f : Film) (step : FailedStep) : Film := { f with st := .faulted, op := none, failed := some step }

/-- The line number of the cut in progress (R156). -/
def Film.cutLine (f : Film) : Nat :=
  match f.cut with
  | some c => c.line
  | none => 0

/-- A cassette loaded (R149). -/
def Film.load (f : Film) (inches : Nat) : Film :=
  { f with cap := inches * Config.inchSteps, p := 0, g := 0, dmax := 0, marks := Vector.replicate 4 none, e := 0,
           filmOut := false, lowMatched := false, galley := nextCount f.galley, st := .ready, op := none, failed := none,
           cut := none }

/-- A loaded cassette taken absent (R150). -/
def Film.remove (f : Film) : Film := { f with st := .noCassette, op := none, failed := none, cut := none }

/-- Film remaining (R147): capacity − P while a cassette is loaded, 0 in NO_CASSETTE. -/
def Film.remaining (f : Film) : Nat := if f.st = .noCassette then 0 else f.cap - f.p

end Sys2Proof.Machine
end

