-- ==== Sys2Proof/Machine/Exposing.lean ====
section
/-! DEFINITION. The course of a line through the Exposure Controller: take, holds, elements, countdown, flash, line end,
stops, faults (R124 to R146). -/

namespace Sys2Proof.Machine

/-- A taken line's fields written into the record (R125). -/
def LineRecord.taken (band : Fin 4) (galley : Nat) (r : LineRecord) : LineRecord :=
  { r with exp := .inProgress, exposed := 0, band := some band, galley := some galley }

/-- The Exposure Controller enters a state: no countdown runs and no flash awaits its photocell in it (R134, R136); the two
states that have one, ARMED and FLASHING, are entered by `arm` and `slotArrives`. -/
def Exposure.enter (st : ExcState) (e : Exposure) : Exposure := { e with st := st, armed := none, flash := none }

/-- The hold causes before an element (R127): DOOR, DRUM. -/
def doorOrDrum (s : State) : Bool := s.opc.door != .closed || s.opc.drum != .atSpeed

/-- The hold cause MOUNT (R127): a box among the elements not yet set has a mount that is not READY. -/
def mountHold (rest : List Elem) (s : State) : Bool := rest.any (Elem.notReady s.opc)

/-- The EXC enters HELD before `stage`; MOUNT is raised when that cause stands (R127). -/
def hold (stage : Stage) (mount : Bool) (s : State) : State :=
  let s1 := s.withExc { s.exc.enter .held with stage := stage }
  if mount then raise .mount s1 else s1

/-- The Exposure Controller is free of its line or cut wait and enters IDLE; where an abort is in progress its stop request
is cleared (R146). A stop request then leads on to STOPPED (R137, R143). -/
def freeExposure (s : State) : State :=
  s.withExc { s.exc.enter .idle with
    cutWait := false, stopReq := if aborting s then none else s.exc.stopReq }

/-- The line in progress leaves the exposure pointer with its final exposure state (R85, R96). -/
def closeLineExposure (final : LineRecord → LineRecord) (s : State) : State :=
  match s.exc.ptr with
  | none => s
  | some n =>
    let s1 := updateRecord n final s
    (s1.withSls { s1.sls with lastExposed := n }).withExc
      { s1.exc with ptr := none, ending := none, moveOut := false, filmOut := false, stage := .move, armed := none,
                    flash := none }

/-- The line ends PARTIAL (R85, R145, R146). -/
def endPartial (s : State) : State :=
  freeExposure (closeLineExposure
    (fun r => { r with exp := .part, flags := addLineFlag .part r.flags }) s)

/-- The line is complete (R136): DONE, LINE raised, and its end reported to the film transport (R137, R157). -/
def lineDone (s : State) : State :=
  match currentRecord s with
  | none => s
  | some r =>
    let s1 := raise .line (closeLineExposure (fun r => { r with exp := .done }) s)
    if s1.ftc.cutFollows r.cutAfter then
      let s2 := startCut r.number s1
      s2.withExc { s2.exc.enter .held with cutWait := true }
    else freeExposure s1

/-- Nothing new is armed or started: a HARD stop is requested or the line is ending (R143, R145, R146). -/
def halting (s : State) : Bool := s.exc.stopReq == some .hard || s.exc.ending.isSome

/-- One element of the record in progress counted as set (R85, R123). -/
def countElement (s : State) : State :=
  match s.exc.ptr with
  | none => s
  | some n =>
    (updateRecord n (fun r => { r with exposed := r.exposed + 1 }) s).withExc { s.exc with index := s.exc.index + 1 }

/-- The EXC goes to the next of the elements not yet set (R127, R128, R136): the line is complete, or a hold stands, or a
space element is passed, or a box is prepared. A line that is ending becomes PARTIAL even where its last element was just
set (R145, R146, log 14); one whose last element is set under a HARD stop is complete, and neither a line that is ending nor one
under a HARD stop has a space element passed (DESIGN CHOICE, log 31). -/
def goElements : List Elem → State → State
  | [], s => if s.exc.ending.isSome then s.withExc (s.exc.enter .preparing) else lineDone s
  | e :: rest, s =>
    if halting s then s.withExc { s.exc.enter .preparing with stage := .prepare }
    else if doorOrDrum s || mountHold (e :: rest) s then hold .prepare (mountHold (e :: rest) s) s
    else
      match e.kind with
      | .box m _ p =>
        requestBox m p e.x (s.withExc { s.exc.enter .preparing with stage := .arm, misses := 0 })
      | _ => goElements rest (countElement s)

/-- The EXC goes to the element at the element index (R128). -/
def goElement (s : State) : State :=
  match currentRecord s with
  | none => s
  | some r => goElements r.remaining s

/-- The countdown armed for slot `slot` of mount `m` through lens `p` (R134, R132). -/
def arm (m : Fin 8) (slot : Nat) (p : Fin 8) (s : State) : State :=
  let e := flashEnergy (entry (s.exc.intensity.get (s.exc.band.getD 0)) p.val) s.exc.density
  let c := countdownTo (slotPosition slot (s.opc.mount m).phase) s.pins.encoder
  s.withExc { s.exc.enter .armed with stage := .arm, armed := some { count := c, energy := e } }

/-- The arming test (R134): hold, or request what does not stand at its target, or arm. The consecutive misses stand where it
requests operations again (DESIGN CHOICE, log 32). -/
def armTest (s : State) : State :=
  match currentRecord s with
  | none => s
  | some r =>
    match r.remaining with
    | [] => lineDone s
    | e :: rest =>
      if doorOrDrum s || mountHold (e :: rest) s then hold .arm (mountHold (e :: rest) s) s
      else
        match e.kind with
        | .box m slot p =>
          if atTargets m p e.x s then arm m slot p s
          else requestBox m p e.x (s.withExc { s.exc.enter .preparing with stage := .arm })
        | _ => goElements (e :: rest) s

/-- A STOPPED EXC stays STOPPED (R143), also while it waits for a cut (log 31). -/
def stayStopped (s : State) : State := if s.exc.cutWait then s.withExc { s.exc with st := .stopped } else s

/-- The film transport reports the line's move completed (R126, R143): the report enters the record, and the EXC goes to
the first element, or stays STOPPED. A line with no element is DONE in either case (R85). -/
def moveCompleted (m : LineMove) (s : State) : State :=
  let s1 := updateRecord m.number
    (fun r => { r with flags := flagIf m.noMark .noMark (flagIf m.clamped .clamped r.flags) }) s
  let s2 := s1.withExc { s1.exc with moveOut := false, stage := .prepare }
  if s2.exc.st ≠ .stopped then goElement s2
  else if (currentRecord s2).any (fun r => r.remaining.isEmpty) then stayStopped (goElement s2)
  else s2

/-- The vertical move requested of the READY film transport (R126). -/
def requestLineMove (s : State) : State :=
  match currentRecord s with
  | none => s
  | some r =>
    match requestMove r (s.withExc { s.exc.enter .movingFilm with moveOut := true, stage := .prepare }) with
    | (.filmOut, s1) =>
      s1.withExc { s1.exc.enter .held with moveOut := false, stage := .move, filmOut := true }
    | (.moving, s1) => s1
    | (.completed, s1) => moveCompleted (s.ftc.lineTarget r) s1

/-- The vertical move can be requested: neither FILM nor TRANSPORT stands (R127). -/
def moveClear (s : State) : Bool := s.ftc.st == .ready && !s.exc.filmOut

/-- The stage of the vertical move begun (R125, R127); a line held for want of a cassette raises CASSETTE (R150). -/
def beginMove (s : State) : State :=
  if moveClear s then requestLineMove s
  else
    let s1 := s.withExc { s.exc.enter .held with stage := .move }
    if s1.ftc.st = .noCassette then raise .cassette s1 else s1

/-- A line taken (R125). The thermometer is read once, for the band (R130). -/
def takeLine (r : LineRecord) (s : State) : State :=
  let now := Config.reading s.thermReads
  let band := bandOf s.exc.t1 s.exc.t2 s.exc.t3 now
  let s1 := updateRecord r.number (LineRecord.taken band s.ftc.galley) (s.withReads (s.thermReads + 1))
  beginMove (s1.withExc { s1.exc with
    ptr := some r.number, index := 0, misses := 0, stage := .move, moveOut := false, filmOut := false,
    band := some band, lamp := if s1.exc.lamp = .off then .charging else s1.exc.lamp })

/-- The stage remembered or reached is begun (R127, R142, R144). -/
def beginStage (s : State) : State :=
  match s.exc.stage with
  | .move => beginMove s
  | .prepare => goElement s
  | .arm => armTest s

/-- No hold cause of the remembered stage stands (R127). -/
def stageClear (s : State) : Bool :=
  match s.exc.stage with
  | .move => moveClear s
  | _ =>
    match currentRecord s with
    | none => false
    | some r => !(doorOrDrum s || mountHold r.remaining s)

/-! ### Countdown and flash -/

/-- An armed countdown is cancelled and the EXC leaves ARMED for `st`; the element is set again from its arming test
(R134, R138, R139). -/
def cancelCountdown (st : ExcState) (s : State) : State :=
  if s.exc.st = .armed then s.withExc { s.exc.enter st with stage := .arm } else s

/-- An exposure fault of the line (R141, R101): recorded; the EXC is FAULTED with `stage` to be retried. A line that is
ending stays so: it is not retried, and ends when nothing is in flight, FAULTED becoming IDLE (R145, R146, log 14). -/
def lineFault (kind : ExposureKind) (stage : Stage) (s : State) : State :=
  let s1 := exposureFault kind s
  if s1.exc.ptr.isNone then s1
  else withdrawRequests (s1.withExc { s1.exc.enter .faulted with stage := stage })

/-- A slot miss (R135). -/
def slotMiss (s : State) : State :=
  let s1 := match s.exc.ptr with
    | none => s
    | some n => updateRecord n (fun r => { r with misses := min 65535 (r.misses + 1) }) s
  let s2 := s1.withExc { s1.exc with misses := s1.exc.misses + 1 }
  if s2.exc.misses ≥ Config.missLimit then lineFault .flash .arm s2
  else
    match currentRecord s2 with
    | none => s2
    | some r =>
      match r.remaining.head?.map Elem.kind with
      | some (.box _ _ p) =>
        let e := flashEnergy (entry (s2.exc.intensity.get (s2.exc.band.getD 0)) p.val) s2.exc.density
        s2.withExc { s2.exc with armed := some { count := 3072, energy := e } }
      | _ => s2

/-- The armed slot arrives (R135): the charged lamp is fired at the armed energy, or the slot is a miss. -/
def slotArrives (s : State) : State :=
  match s.exc.armed with
  | none => s
  | some a =>
    if s.exc.lamp = .charged then
      s.withExc { s.exc.enter .flashing with flash := some a.energy, lamp := .charging }
    else slotMiss s

/-- The photocell confirms the flash (R136). -/
def confirmFlash (s : State) : State :=
  let s1 := countElement (s.withExc { s.exc with flash := none, misses := 0, stage := .prepare })
  goElement s1

/-! ### Ends of operations -/

/-- The requester of a failed mechanism operation is told (R113): a fault of the line (R141), or of the survey (R120), the one
in progress even where the operation was an ended survey's (DESIGN CHOICE, log 15). -/
def mechFailed (k : Mechanism) (f : Flight) (s : State) : State :=
  match f.by_ with
  | .exposure => lineFault (mechKind k) .prepare s
  | .survey =>
    let s1 := exposureFault (mechKind k) s
    match s1.opc.survey with
    | some v => s1.withOpc { s1.opc with survey := some { v with stage := .failed } }
    | none => s1

/-- The completion sense of a mechanism (R111). -/
def mechComplete (k : Mechanism) (s : State) : State :=
  let m := s.opc.mech k
  match m.flight with
  | none => s
  | some f => s.withOpc (s.opc.setMech k (serveWaiting k (some f.target) m.waiting))

/-- The timeout of a mechanism operation (R113): its requester is told, and what still waits is handled. -/
def mechTimeout (k : Mechanism) (s : State) : State :=
  match (s.opc.mech k).flight with
  | none => s
  | some f =>
    let s1 := mechFailed k f (s.withOpc (s.opc.setMech k { s.opc.mech k with held := none, flight := none }))
    s1.withOpc (s1.opc.setMech k (serveWaiting k none (s1.opc.mech k).waiting))

/-- The escapement's completion sense (R129). -/
def escComplete (s : State) : State :=
  match s.exc.esc.flight with
  | none => s
  | some (x, _) => s.withExc { s.exc with esc := s.exc.esc.ended (some x) }

/-- The escapement's timeout (R129): a fault of the line, or, for the park, a recorded fault that leaves the EXC's state. -/
def escTimeout (s : State) : State :=
  match s.exc.esc.flight with
  | none => s
  | some (_, why) =>
    let s0 := s.withExc { s.exc with esc := { s.exc.esc with held := none, flight := none } }
    let s1 := match why with
      | .element => lineFault .escape .prepare s0
      | .park => exposureFault .escape s0
    s1.withExc { s1.exc with esc := s1.exc.esc.ended none }

/-! ### Stops, cut wait, removal, abort -/

/-- The cut wait ends (R137). -/
def endCutWait (s : State) : State := if s.exc.cutWait then freeExposure s else s

/-- The line in progress is to end PARTIAL once nothing of it is in flight (R145, R146). -/
def beginEnding (why : Ending) (s : State) : State :=
  withdrawRequests ((cancelCountdown .preparing s).withExc { (cancelCountdown .preparing s).exc with ending := some why })

/-- The film transport reports the cassette taken absent (R145, R137). -/
def exposureRemoval (s : State) : State :=
  let s1 := endCutWait s
  if s1.exc.ptr.isSome && (s1.exc.moveOut || s1.exc.stage != .move) then
    beginEnding .removal (s1.withExc { s1.exc with moveOut := false })
  else s1

/-- An abort meets the line in progress (R98, R146): always in its HARD form, and in its SOFT form where the line is held,
stopped or faulted. A fault that leaves the EXC's state, a DRUM_STALL, a survey's STRIP or a park's ESCAPE, does not by itself
end the line (DESIGN CHOICE against R101, log 38). -/
def abortMeetsLine (s : State) : Bool :=
  aborting s && s.exc.ptr.isSome && s.exc.ending.isNone &&
    (s.sls.abort == some .hard || s.exc.st == .held || s.exc.st == .stopped || s.exc.st == .faulted)

/-- The states a HARD stop leads from to STOPPED once nothing is in flight (R143). -/
def ExcState.stoppable : ExcState → Bool
  | .idle | .movingFilm | .preparing | .held => true
  | _ => false

/-- The EXC enters STOPPED, keeping its line (R143). -/
def enterStopped (s : State) : State :=
  s.withExc { s.exc.enter .stopped with stage := if s.exc.stage = .move then .move else .prepare }

/-- The reactions of the Exposure Controller, one at a time (R124, R127, R128, R143, R145, R146). -/
def exposureReact (s : State) : Option State :=
  if abortMeetsLine s then some (beginEnding .abort s)
  else if s.exc.ending.isSome && s.exc.ptr.isSome then if quiet s then some (endPartial s) else none
  else if s.exc.stopReq == some .hard && s.exc.st.stoppable && !s.exc.cutWait && quiet s then some (enterStopped s)
  else if s.exc.st == .idle && s.exc.stopReq.isSome then some (enterStopped s)
  else if s.exc.st == .preparing && s.exc.ptr.isSome && !opsOutstanding s && s.exc.stopReq != some .hard then
    some (armTest s)
  else if s.exc.st == .held && s.exc.ptr.isSome && !s.exc.cutWait && !s.exc.moveOut && s.exc.stopReq != some .hard
      && stageClear s then
    some (beginStage s)
  else none

/-- An idle Exposure Controller takes the oldest PENDING line (R124). -/
def exposureTake (s : State) : Option State :=
  if s.exc.st == .idle && s.exc.stopReq.isNone && !aborting s then
    s.sls.nextExposure.map fun r => takeLine r s
  else none

end Sys2Proof.Machine
end

