-- ==== Sys2Proof/Machine/Drum.lean ====
section
/-! DEFINITION. Drum, door, survey, rest and wake (R114 to R121, R180 to R185), the cassette sensor's events and the ends of
film operations as the Exposure Controller meets them (R148 to R160). -/

namespace Sys2Proof.Machine

/-! ### The drum -/

/-- The drum motor is on and the brake released: in every drum state but STOPPED (10.1). -/
def DrumState.motorOn : DrumState → Bool
  | .stopped => false
  | _ => true

/-- The observed codes once a survey is cut short (R120, R184): the codes already read are kept, and the mounts of the strip
positions not yet read are UNVERIFIED. -/
def surveyCut (o : Optics) : Optics :=
  match o.survey with
  | none => o
  | some v => { o with mounts := o.mounts.mapIdx fun i m => if 2 * v.pos.val ≤ i then { m with observed := none } else m }

/-- The drum is braked to STOPPED from whatever state it is in (R180): spin-up, survey and stall monitor end, and the
Exposure Controller cancels an armed countdown (R139). -/
def stopDrum (s : State) : State :=
  let s1 := cancelCountdown .held s
  s1.withOpc { surveyCut s1.opc with
    drum := .stopped, spinTimer := false, intervals := 0, indexSeen := false, stallMonitor := false, survey := none }

/-- A drum stall (R181, R182): stopped, DRUM_STALL recorded, the stall hold set. -/
def drumStall (s : State) : State :=
  let s1 := exposureFault .drumStall (stopDrum s)
  s1.withOpc { s1.opc with stallHold := true }

/-- Spin-up begins after an event that leaves the drum STOPPED, the door CLOSED and the drum needed (R180, R181). -/
def spinUp (s : State) : State :=
  if s.opc.drum = .stopped ∧ s.opc.door = .closed ∧ s.opc.resting = false ∧ s.opc.stallHold = false then
    s.withOpc { s.opc with drum := .spinningUp, spinTimer := true, intervals := 0, indexSeen := false }
  else s

/-- A resting drum is woken (R185); spin-up follows from `spinUp`. -/
def wake (s : State) : State := s.withOpc { s.opc with resting := false }

/-! ### The survey -/

/-- The shift of the survey at strip position `p` requested (R118, step 1). -/
def surveyShift (p : Fin 4) (s : State) : State :=
  requestMech .strip .survey p.val (s.withOpc { s.opc with survey := some { pos := p, stage := .shifting } })

/-- A survey begins at strip position 0 (R117); a drum leaving AT_SPEED for it cancels an armed countdown (R139). -/
def beginSurvey (s : State) : State :=
  let s1 := cancelCountdown .held s
  surveyShift 0 (s1.withOpc { s1.opc with drum := .surveying, stallMonitor := true })

/-- The survey's shift has completed, and it waits for the next index (R118, step 2). -/
def surveyReact (s : State) : Option State :=
  match s.opc.survey with
  | some { pos := p, stage := .shifting } =>
    if s.opc.strip.flight.isNone && s.opc.strip.held == some p.val then
      some (s.withOpc { s.opc with survey := some { pos := p, stage := .awaitIndex } })
    else none
  | _ => none

/-- The line the OPC tests at the survey's completion (R121): the one in progress, else the next to be exposed. -/
def surveyLine (s : State) : Option LineRecord :=
  match currentRecord s with
  | some r => some r
  | none => s.sls.nextExposure

/-- The survey completes (R121). -/
def surveyComplete (s : State) : State :=
  let s1 := s.withOpc { s.opc with survey := none, surveyRequest := false, drum := .atSpeed }
  match surveyLine s1 with
  | some r => if mountHold r.remaining s1 then raise .mount s1 else s1
  | none => s1

/-- The two codes read at survey position `p` (R118, step 3): mounts 2p and 2p + 1. -/
def surveyRead (p : Fin 4) (upper lower : Byte) (o : Optics) : Optics :=
  let u : Fin 8 := ⟨2 * p.val, by omega⟩
  let l : Fin 8 := ⟨2 * p.val + 1, by omega⟩
  let o1 := o.setMount u { o.mount u with observed := some upper.toNat }
  o1.setMount l { o1.mount l with observed := some lower.toNat }

/-- An index arriving in SURVEYING (R118, R182). -/
def surveyIndex (upper lower : Byte) (s : State) : State :=
  match s.opc.survey with
  | some { pos := p, stage := .awaitIndex } =>
    let s1 := s.withOpc (surveyRead p upper lower s.opc)
    if h : p.val + 1 < 4 then surveyShift ⟨p.val + 1, h⟩ s1 else surveyComplete s1
  | _ => s

/-- Some mount's observed code is UNVERIFIED (R117). -/
def anyUnverified (o : Optics) : Bool := o.mounts.toList.any fun m => m.observed.isNone

/-- The drum has qualified (R181): SURVEYING where a survey is due, else AT_SPEED; the stall monitor starts. -/
def qualified (s : State) : State :=
  let s1 := s.withOpc { s.opc with spinTimer := false, intervals := 0, indexSeen := false, stallMonitor := true }
  if anyUnverified s1.opc || s1.opc.surveyRequest then beginSurvey s1
  else s1.withOpc { s1.opc with drum := .atSpeed }

/-- An index arriving in SPINNING_UP (R181). -/
def spinIndex (interval : Nat) (s : State) : State :=
  if !s.opc.indexSeen then s.withOpc { s.opc with indexSeen := true }
  else
    let n := if 98 ≤ interval ∧ interval ≤ 102 then s.opc.intervals + 1 else 0
    if n ≥ Config.qualifyIntervals then qualified s else s.withOpc { s.opc with intervals := n }

/-- An index arrives: the encoder stands at count 0 (R10), and the drum's state decides its use (10.1). -/
def indexArrives (interval : Nat) (upper lower : Byte) (s : State) : State :=
  let s1 := s.withPins { s.pins with encoder := 0 }
  match s1.opc.drum with
  | .stopped => s1
  | .spinningUp => spinIndex interval s1
  | .surveying => surveyIndex upper lower s1
  | .atSpeed => s1

/-! ### The door -/

/-- The door taken open (R115, R138). -/
def doorOpened (s : State) : State :=
  let s1 := stopDrum s
  s1.withOpc { s1.opc with
    door := .opened, mounts := s1.opc.mounts.map fun m => { m with observed := none } }

/-- The door taken closed (R116); spin-up follows from `spinUp`. -/
def doorClosed (s : State) : State := s.withOpc { s.opc with door := .closed }

/-- A sensor level as the taken state it would become. -/
def doorTaken : DoorLevel → DoorState
  | .open => .opened
  | .closed => .closed

/-- The door sensor's level changes (R114): the interval starts, starts again, or is abandoned. -/
def doorLevel (level : DoorLevel) (s : State) : State :=
  if s.pins.door = level then s
  else
    let s1 := s.withPins { s.pins with door := level }
    s1.withOpc { s1.opc with
      doorTimer := if s1.opc.door = doorTaken level then none else some s1.opc.debounce }

/-- The door's debounce interval ends (R114, R116): the level is taken. A first OPEN level after reset is taken with
nothing more. -/
def doorTake (s : State) : State :=
  match s.opc.doorTimer with
  | none => s
  | some _ =>
    let s1 := s.withOpc { s.opc with doorTimer := none }
    match s1.pins.door with
    | .closed => doorClosed s1
    | .open =>
      if s1.opc.door = .unknown then s1.withOpc { s1.opc with door := .opened } else doorOpened s1

/-! ### Rest -/

/-- The conditions of the rest timer, the drum's not resting aside (R183). -/
def restConditions (s : State) : Bool :=
  s.cmp.st == .idle && s.hyu.referral.isNone &&
    (s.sls.records.all fun r => r.exp != .pending && r.exp != .inProgress) &&
    (s.ftc.st == .ready || s.ftc.st == .noCassette)

/-- The rest timer after an event (R183): running exactly while its conditions hold, the drum is not resting and the
interval is not 0; started for the full interval when they come to hold. -/
def restService (s : State) : State :=
  if restConditions s && !s.opc.resting && s.opc.restInterval != 0 then
    match s.opc.restTimer with
    | none => s.withOpc { s.opc with restTimer := some s.opc.restInterval }
    | some _ => s
  else s.withOpc { s.opc with restTimer := none }

/-- The drum is rested (R184). -/
def restDrum (s : State) : State :=
  let s1 := stopDrum s
  let s2 := s1.withOpc { s1.opc with resting := true, restTimer := none }
  raise .rest (requestEsc 0 .park (s2.withExc { s2.exc with lamp := .off }))

/-! ### Film events -/

/-- The stepper's completion sense (R153, R159). -/
def stepperDone (s : State) : State :=
  match s.ftc.op with
  | some (.lineMove m p) => moveCompleted m (testLowFilm (s.withFtc (s.ftc.lineMoved m p.newE)))
  | some (.margin p) =>
    match s.ftc.cut with
    | some c => marginMoved c.target p.newE s
    | none => s
  | _ => s

/-- A failed vertical move is reported to the Exposure Controller (R126, R143): HELD with the move outstanding, or it stays
STOPPED. -/
def moveFailed (s : State) : State :=
  if s.exc.st = .movingFilm then s.withExc (s.exc.enter .held) else s

/-- A move's timeout (R156): JAM. A cut's margin move ends the cut wait (R137, R159). -/
def moveJams (s : State) : State :=
  match s.ftc.op with
  | some (.lineMove m _) => moveFailed (filmFault .jam m.number (s.withFtc (s.ftc.fail (.lineMove m))))
  | some (.margin _) => endCutWait (filmFault .jam s.ftc.cutLine (s.withFtc (s.ftc.fail .margin)))
  | _ => s

/-- The cutter's completion sense (R159). -/
def cutterDone (s : State) : State :=
  match s.ftc.op with
  | some .cutter => endCutWait (raise .galley (s.withFtc s.ftc.cutDone))
  | _ => s

/-- The cutter's timeout (R159): CUTTER. -/
def cutterFails (s : State) : State :=
  match s.ftc.op with
  | some .cutter => endCutWait (filmFault .cutter s.ftc.cutLine (s.withFtc (s.ftc.fail .cutter)))
  | _ => s

/-- A FAULTED film transport retries its failed step (R160). A line's move is retried only while that line is IN_PROGRESS
with its move outstanding. -/
def retryFilm (s : State) : State :=
  if s.ftc.st = .faulted then
    match s.ftc.failed with
    | some (.lineMove m) =>
      if s.exc.ptr = some m.number ∧ s.exc.moveOut = true then
        match issueLineMove m s with
        | (.completed, s1) => moveCompleted m s1
        | (_, s1) => s1
      else s.withFtc { s.ftc with st := .ready, failed := none }
    | some .margin =>
      match s.ftc.cut with
      | some c => issueMargin c.target s
      | none => s
    | some .cutter => startCutter s
    | none => s
  else s

/-- A sensor level as the taken state it would become. -/
def cassetteTaken : CassetteLevel → Sensor
  | .present => .present
  | .absent => .absent

/-- The cassette sensor's level changes (R148, R114). -/
def cassetteLevel (level : CassetteLevel) (s : State) : State :=
  if s.pins.cassette = level then s
  else
    let s1 := s.withPins { s.pins with cassette := level }
    s1.withFtc { s1.ftc with
      sensorTimer := if s1.ftc.sensor = cassetteTaken level then none else some s1.opc.debounce }

/-- The cassette's debounce interval ends (R148): the level is taken; a loaded cassette taken absent is a removal
(R150). -/
def cassetteTake (s : State) : State :=
  match s.ftc.sensorTimer with
  | none => s
  | some _ =>
    let sensor := cassetteTaken s.pins.cassette
    let s1 := s.withFtc { s.ftc with sensorTimer := none, sensor := sensor }
    if sensor = .absent ∧ s1.ftc.st ≠ .noCassette then
      exposureRemoval (raise .cassette (s1.withFtc s1.ftc.remove))
    else s1

end Sys2Proof.Machine
end

