-- ==== Sys2Proof/Machine/Hyphen.lean ====
section
/-! DEFINITION. Parts of a word on a line (R39, R41, R42) and the Hyphenation Unit's examination: letters, break points,
candidates, fit limit, own choice, referral classes and the REFER notice (R59 to R61, R68 to R75), and the dictionary's
order (R63). -/

namespace Sys2Proof.Machine

/-! ### Parts of a word on the open line -/

/-- The size in effect at a place of the word (R37). A place with no lens selected lies before every element of every
line, so no space kept there ever asks for a size. -/
def Env.size (e : Env) : Nat :=
  match e.lens with
  | some l => l.size
  | none => 20

/-- The elements of a part of a word as they are placed (R39, R43): `nonEmpty` says that an element stands on the line
before them, `before` counts the spaces held for the next element. TIEs at the end of the part, and TIEs with nothing
before them on the line, are dropped. -/
def placeItems : (nonEmpty : Bool) → (before : Nat) → List WordItem → List Elem
  | _, _, [] => []
  | _, before, .elem _ e _ :: is => { e with before := before } :: placeItems true 0 is
  | ne, before, .tie _ :: is => placeItems ne (if ne then before + 1 else before) is
  | ne, before, .soft _ :: is => placeItems ne before is

/-- The item is an element (R59). -/
def WordItem.isElem : WordItem → Bool
  | .elem _ _ _ => true
  | _ => false

/-- The place of the first TIE that is not dropped (R39, R41). -/
def firstTie : (nonEmpty : Bool) → List WordItem → Option Env
  | _, [] => none
  | _, .elem _ _ _ :: is => firstTie true is
  | ne, .tie env :: is => if ne && is.any WordItem.isElem then some env else firstTie ne is
  | ne, .soft _ :: is => firstTie ne is

/-- The open line is not empty (R18). -/
def OpenLine.nonEmpty (l : OpenLine) : Bool := !l.elems.isEmpty

/-- What a part of a word with the held space before it would place on the line. -/
def OpenLine.part (l : OpenLine) (held : Option Nat) (is : List WordItem) : List Elem :=
  placeItems l.nonEmpty (if held.isSome then 1 else 0) is

/-- The glue of the line once the part stands on it: its own, or the one the part's first space fixes (R41). -/
def OpenLine.glueWith (j : Job) (l : OpenLine) (held : Option Nat) (is : List WordItem) : Option Glue :=
  match l.glue with
  | some g => some g
  | none =>
    match held with
    | some size => some (glueAt j size)
    | none => (firstTie l.nonEmpty is).map fun env => glueAt j env.size

/-- The minimum width of elements under a glue (R42). -/
def minWidth (glue : Option Glue) (es : List Elem) : Nat :=
  widthSum es + spaceCount es *
    (match glue with
     | some g => g.min
     | none => 0)

/-- The fit test of R42 and the prefix test of R44: the part, and the element a break adds, fit the width and the 200
elements. -/
def OpenLine.fits (j : Job) (l : OpenLine) (held : Option Nat) (is : List WordItem) (added : Option Elem) : Bool :=
  let es := l.elems ++ l.part held is ++ added.toList
  decide (minWidth (l.glueWith j held is) es ≤ l.set.available) && decide (es.length ≤ Config.lineElements)

/-- The part placed (R43, R45, R47): elements appended, glue fixed, MISSING where an ABSENT element came. -/
def OpenLine.append (j : Job) (l : OpenLine) (held : Option Nat) (is : List WordItem) (added : Option Elem) : OpenLine :=
  let es := l.part held is ++ added.toList
  { l with
    elems := l.elems ++ es
    glue := if spaceCount es = 0 then l.glue else l.glueWith j held is
    flags := flagIf (es.any Elem.isAbsent) .missing l.flags }

/-! ### Letters and break points -/

/-- A letter of the word (R59): its place among the items, its class, its code, and what is in effect after it. -/
structure LetterAt where
  idx  : Nat
  cls  : Fin 26
  code : Byte
  env  : Env
  deriving DecidableEq, Repr

/-- The letters of items numbered from `i` on (R59). -/
def lettersFrom : (i : Nat) → List WordItem → List LetterAt
  | _, [] => []
  | i, .elem code _ env :: is =>
    match letterClass code with
    | some c => { idx := i, cls := c, code := code, env := env } :: lettersFrom (i + 1) is
    | none => lettersFrom (i + 1) is
  | i, _ :: is => lettersFrom (i + 1) is

/-- The item is a letter or a SOFT_HYPHEN, which is no item of R59. -/
def WordItem.letterOrSoft : WordItem → Bool
  | .elem code _ _ => (letterClass code).isSome
  | .soft _ => true
  | .tie _ => false

/-- The items after item `i` and before item `j`. -/
def between (i j : Nat) (is : List WordItem) : List WordItem := (is.drop (i + 1)).take (j - i - 1)

/-- The word is table-eligible (R60). -/
def eligible (is : List WordItem) (ls : List LetterAt) : Bool :=
  match ls.head?, ls.getLast? with
  | some a, some b => decide (2 ≤ ls.length) && (between a.idx b.idx is).all WordItem.letterOrSoft
  | _, _ => false

/-- The rightmost SOFT_HYPHEN among items numbered from `i` on, with what is in effect there (R61). -/
def lastSoft : (i : Nat) → List WordItem → Option (Nat × Env)
  | _, [] => none
  | i, it :: is =>
    match lastSoft (i + 1) is with
    | some r => some r
    | none =>
      match it with
      | .soft env => some (i, env)
      | _ => none

/-- The rightmost '-' element among items numbered from `i` on (R61). -/
def lastDash : (i : Nat) → List WordItem → Option Nat
  | _, [] => none
  | i, it :: is =>
    match lastDash (i + 1) is with
    | some r => some r
    | none =>
      match it with
      | .elem code _ _ => if code = 0x2D#8 then some i else none
      | _ => none

/-- The hyphen at a place of the word (R44, R45): the box of slot 13 of the face there, or an ABSENT element of EM width
where that entry is 0. -/
def hyphenAt (o : Optics) (env : Env) : Elem :=
  let w := (o.mount env.face).widthOf 13
  match env.lens with
  | some l =>
    if w = 0 then { kind := .absent, width := em l.size, before := 0, x := 0 }
    else { kind := .box env.face 13 l.pos, width := width w l.size, before := 0, x := 0 }
  | none => { kind := .absent, width := em env.size, before := 0, x := 0 }

/-- The face at some SOFT_HYPHEN or after some letter of the word is EMPTY (R44). -/
def hyphenWanting (o : Optics) (is : List WordItem) : Bool :=
  is.any fun it =>
    match it with
    | .elem code _ env => (letterClass code).isSome && (o.mount env.face).state == .empty
    | .soft env => (o.mount env.face).state == .empty
    | .tie _ => false

/-! ### The examination -/

/-- Where a word's candidates come from (R68). -/
inductive Source where
  | soft | dictionary | table | hard
  deriving DecidableEq, Repr

/-- A break position between the `k`-th letter `a` and the letter `b` after it, with its soft and its hard point. -/
structure Junction where
  k    : Nat
  a    : LetterAt
  b    : LetterAt
  soft : Option (Nat × Env)
  dash : Option Nat
  deriving DecidableEq, Repr

/-- The break positions of a word, `k` from the given number on (R61). -/
def junctions (is : List WordItem) : (k : Nat) → List LetterAt → List Junction
  | k, a :: b :: ls =>
    { k := k, a := a, b := b, soft := lastSoft (a.idx + 1) (between a.idx b.idx is),
      dash := lastDash (a.idx + 1) (between a.idx b.idx is) } :: junctions is (k + 1) (b :: ls)
  | _, _ => []

/-- The dictionary entry of a folded word (R63). -/
def Hyphenation.lookup (h : Hyphenation) (w : List (Fin 26)) : Option DictEntry := h.dict.find? fun e => e.word == w

/-- The quality of a letter pair (R62). -/
def Hyphenation.quality (h : Hyphenation) (a b : Fin 26) : Nat := (h.pairs.get a).get b

/-- The source of a word's candidates (R68). -/
def sourceOf (js : List Junction) (elig : Bool) (entry : Option DictEntry) : Source :=
  if js.any fun j => j.soft.isSome then .soft
  else if elig then if entry.isSome then .dictionary else .table
  else .hard

/-- The quality of a position as a candidate, 0 where it is none (R69, R70). -/
def candidateQuality (h : Hyphenation) (j : Job) (len : Nat) (entry : Option DictEntry) (src : Source) (p : Junction) :
    Nat :=
  match src with
  | .soft => if p.soft.isSome then 3 else 0
  | .dictionary =>
    match entry with
    | some e => if e.positions.contains p.k then 3 else 0
    | none => 0
  | .table => if j.lMin ≤ p.k ∧ p.k + j.rMin ≤ len then h.quality p.a.cls p.b.cls else 0
  | .hard => if p.dash.isSome then 3 else 0

/-- The default break of a position (R61). -/
def defaultBreak (o : Optics) (p : Junction) : Break :=
  { cut := p.a.idx + 1, next := p.a.idx + 1, hyph := some (hyphenAt o p.a.env) }

/-- The break of a position: its candidate's break point where it is a candidate, else the default point (R69 to R71), and
whether that is a hard point. -/
def breakOf (o : Optics) (src : Source) (q : Nat) (p : Junction) : Break × Bool :=
  match src, p.soft, p.dash with
  | .soft, some (i, env), _ =>
    if q = 0 then (defaultBreak o p, false) else ({ cut := i, next := i + 1, hyph := some (hyphenAt o env) }, false)
  | .hard, _, some i =>
    if q = 0 then (defaultBreak o p, false) else ({ cut := i + 1, next := i + 1, hyph := none }, true)
  | _, _, _ => (defaultBreak o p, false)

/-- What an examination finds (R67 to R74). -/
structure Exam where
  letters   : Text
  len       : Nat
  positions : List Position
  fit       : Nat
  own       : Nat
  classes   : ReferClasses
  deriving DecidableEq, Repr

/-- A position examined (R69 to R71). -/
def examPosition (o : Optics) (h : Hyphenation) (j : Job) (l : OpenLine) (held : Option Nat) (is : List WordItem)
    (len : Nat) (entry : Option DictEntry) (src : Source) (p : Junction) : Position :=
  let q := candidateQuality h j len entry src p
  let b := breakOf o src q p
  { k := p.k, q := q, fits := l.fits j held (is.take b.1.cut) b.1.hyph, hard := b.2, brk := b.1 }

/-- The largest `k` of the positions that satisfy a test, 0 for none (R71, R72); positions stand in ascending order. -/
def largest (test : Position → Bool) (ps : List Position) : Nat :=
  match (ps.filter test).getLast? with
  | some p => p.k
  | none => 0

/-- The letter is upper case (R59). -/
def upperCase (b : Byte) : Bool := decide (0x41 ≤ b.toNat ∧ b.toNat ≤ 0x5A)

/-- The examination of the word `is` for the open line (R67 to R74). -/
def examine (o : Optics) (h : Hyphenation) (j : Job) (l : OpenLine) (held : Option Nat) (is : List WordItem) : Exam :=
  let ls := lettersFrom 0 is
  let len := ls.length
  let elig := eligible is ls
  let entry := if elig then h.lookup (ls.map LetterAt.cls) else none
  let js := junctions is 1 ls
  let src := sourceOf js elig entry
  let ps := js.map (examPosition o h j l held is len entry src)
  let own := largest (fun p => p.fits && p.q != 0 && decide (j.thresh ≤ p.q)) ps
  { letters := ls.map LetterAt.code, len := len, positions := ps
    fit := largest Position.fits ps
    own := own
    classes :=
      { u := elig && entry.isNone
        w := src == .table && ps.any fun p => p.k == own && decide (p.q < 3)
        c := (ls.head?.map fun a => upperCase a.code).getD false } }

/-- The classes both enabled and applying. -/
def ReferClasses.meet (a b : ReferClasses) : ReferClasses := { u := a.u && b.u, w := a.w && b.w, c := a.c && b.c }

/-- Some class is in the set. -/
def ReferClasses.some? (a : ReferClasses) : Bool := a.u || a.w || a.c

/-- The classes a referral is made for: those both applying and enabled (R74, R75). -/
def Exam.referredFor (x : Exam) (enabled : ReferClasses) : ReferClasses := x.classes.meet enabled

/-- A referral is made for the examined word (R74). -/
def Exam.referred (x : Exam) (enabled : ReferClasses) : Bool :=
  decide (2 ≤ x.len) && decide (1 ≤ x.fit) && (x.referredFor enabled).some?

/-- The letters of a set of classes in the order U, W, C (R75). -/
def ReferClasses.text (a : ReferClasses) : Text :=
  (if a.u then [0x55#8] else []) ++ (if a.w then [0x57#8] else []) ++ (if a.c then [0x43#8] else [])

/-- The REFER notice (R75). -/
def Exam.notice (x : Exam) (enabled : ReferClasses) : Text :=
  ascii "REFER" ++ fields
    [field "WORD" x.letters, field "LEN" (decimal x.len),
     field "Q" (x.positions.map fun p => BitVec.ofNat 8 (0x30 + p.q)),
     field "FIT" (decimal x.fit), field "OWN" (decimal x.own), field "CLASS" (x.referredFor enabled).text]

/-- The referral record (R76), with the classes that R82 has it keep. -/
def Exam.record (enabled : ReferClasses) (x : Exam) : Referral :=
  { letters := x.letters, len := x.len, positions := x.positions, fit := x.fit, own := x.own
    classes := x.referredFor enabled }

/-- The break of position `k` of a referral (R77). -/
def Referral.breakAt (r : Referral) (k : Nat) : Option Position := r.positions.find? fun p => p.k == k

/-! ### The dictionary -/

/-- One folded word stands before another (R63). -/
def wordBefore : List (Fin 26) → List (Fin 26) → Bool
  | [], [] => false
  | [], _ :: _ => true
  | _ :: _, [] => false
  | a :: as, b :: bs => if a = b then wordBefore as bs else decide (a.val < b.val)

/-- An entry inserted at its place, or put in the place of the entry with its word (R64). -/
def dictInsert (e : DictEntry) : List DictEntry → List DictEntry
  | [] => [e]
  | d :: ds =>
    if d.word = e.word then e :: ds
    else if wordBefore e.word d.word then e :: d :: ds
    else d :: dictInsert e ds

/-- The letters in use (R63). -/
def Hyphenation.lettersUsed (h : Hyphenation) : Nat := (h.dict.map fun e => e.word.length).sum

/-- The counts a change of the dictionary replies with (R64). -/
def Hyphenation.counts (h : Hyphenation) : List Text :=
  [field "entries" (decimal h.dict.length), field "letters" (decimal h.lettersUsed)]

/-- An entry as DICTGET writes it (R66). -/
def DictEntry.text (e : DictEntry) : Text :=
  e.word.map upperLetter ++ [0x3A#8] ++ joinText [0x2C#8] (e.positions.map decimal)

end Sys2Proof.Machine
end

