-- ==== Sys2Proof/Machine/Composer.lean ====
section
/-! DEFINITION. The Composer, one micro-step at a time: line open, codes, fitting, placing, breaks, overset, line close and
the offer to the store (R16 to R28, R31 to R57), and the Hyphenation Unit's decision handed to it (R73 to R79). The step in
hand is `Composer.task`; `composerStep` carries out one. -/

namespace Sys2Proof.Machine

/-! ### Small changes of the composer -/

/-- The composer with another step in hand. -/
def Composer.doing (t : Option Task) (c : Composer) : Composer := { c with task := t }

/-- The composer's step in hand replaced. -/
def setTask (t : Option Task) (s : State) : State := s.withCmp (s.cmp.doing t)

/-- The open line changed. -/
def Composer.onLine (f : OpenLine → OpenLine) (c : Composer) : Composer := { c with line := c.line.map f }

/-- The size in effect in the text (R37). -/
def Composer.sizeNow (c : Composer) : Nat :=
  match c.lens with
  | some l => l.size
  | none => c.size

/-- What is in effect at this place of the text (R37). -/
def Composer.env (c : Composer) : Env := { face := c.face, lens := c.lens }

/-- The composer enters STALL_SETUP at the step in hand (R33). SETUP is raised, but not where a retry fails for the same
cause (R34). -/
def stallSetup (cause : StallCause) (s : State) : State :=
  let s1 := s.withCmp { s.cmp with st := .stallSetup, stallCause := some cause }
  if s.cmp.stallCause = some cause then s1 else raise .setup s1

/-- The composer enters STALL_ROOM with the step in hand held (R35). -/
def stallRoom (s : State) : State := s.withCmp { s.cmp with st := .stallRoom }

/-! ### Line open (R28) -/

/-- The exposure state a mode gives (R83). -/
def Mode.exp : Mode → ExpState
  | .proof => .notRequired
  | _ => .pending

/-- The proof state a mode gives (R83). -/
def Mode.proofState : Mode → ProofState
  | .film => .notRequired
  | _ => .pending

/-- The ladder count at a line open (R49): brought down to a pending nonzero LADDER below it. -/
def ladderAtOpen (pend : Option Nat) (ladder : Nat) : Nat :=
  match pend with
  | some l => if l ≠ 0 ∧ l < ladder then l else ladder
  | none => ladder

/-- The line as it opens (R28, R40). -/
def Composer.newLine (c : Composer) (number : Nat) : OpenLine :=
  let job := c.job.apply c.pend
  { elems := [], set := c.following, ret := c.pendingRet, marks := [], glue := none, flags := [], number := number,
    exp := job.mode.exp, proof := job.mode.proofState }

/-- A line is opened (R28, R84, R96). -/
def openLine (s : State) : State :=
  let n := s.sls.counter
  (s.withCmp { s.cmp with
    line := some (s.cmp.newLine n), job := s.cmp.job.apply s.cmp.pend, pend := .empty, pendingRet := none,
    ladder := ladderAtOpen s.cmp.pend.ladder s.cmp.ladder }).withSls
    { s.sls with counter := nextCount n, lastOpened := n }

/-- A line is open: the one there is, or one opened now (R28). -/
def ensureOpen (s : State) : State := if s.cmp.line.isSome then s else openLine s

/-! ### Codes (R16 to R27) -/

/-- Parameter bytes of a code (2.2). -/
def paramCount (c : Byte) : Nat :=
  if c = 0x01#8 ∨ c = 0x02#8 ∨ c = 0x04#8 ∨ c = 0x11#8 ∨ c = 0x12#8 then 1
  else if c = 0x03#8 ∨ c = 0x05#8 then 2
  else if c = 0x06#8 then 4
  else 0

/-- The `i`-th parameter byte as a number. -/
def paramByte (ps : Text) (i : Nat) : Nat :=
  match ps[i]? with
  | some b => b.toNat
  | none => 0

/-- Two parameter bytes, high then low, as an unsigned number (2.2). -/
def paramWord (ps : Text) (i : Nat) : Nat := paramByte ps i * 256 + paramByte ps (i + 1)

/-- Two parameter bytes as a signed number, two's complement (2.2). -/
def paramSigned (ps : Text) (i : Nat) : Int :=
  if paramWord ps i ≥ 32768 then (paramWord ps i : Int) - 65536 else (paramWord ps i : Int)

/-- A fixed space (R23). -/
inductive FixedSpace where
  | en | em | thin
  deriving DecidableEq, Repr

/-- What a code is, its parameters read and clamped (2.2, R16). -/
inductive Code where
  | fill
  | undefined
  | face (m : Fin 8)
  | size (s : Nat)
  | lead (l : Int)
  | quad (q : Quad)
  | measure (m : Nat)
  | indent (left right : Nat)
  | fixed (f : FixedSpace)
  | ending (k : EndKind)
  | soft
  | tie
  | hyph (on : Bool)
  | mark (k : Fin 4)
  | ret (k : Fin 4)
  | space
  | char (slot : Nat)
  deriving DecidableEq, Repr

/-- A selector in range, or an undefined code (R16). -/
def selector (n v : Nat) (f : Fin n → Code) : Code := if h : v < n then f ⟨v, h⟩ else .undefined

/-- The quad a selector value names (2.2). -/
def Quad.ofFin (q : Fin 4) : Quad :=
  match q.val with
  | 0 => .justify
  | 1 => .left
  | 2 => .right
  | _ => .center

/-- A code and its parameter bytes read (2.2). -/
def readCode (c : Byte) (ps : Text) : Code :=
  match c.toNat with
  | 0x00 => .fill
  | 0x01 => selector 8 (paramByte ps 0) .face
  | 0x02 => .size (clampNat 10 144 (paramByte ps 0))
  | 0x03 => .lead (clampInt (-2880) 2880 (paramSigned ps 0))
  | 0x04 => selector 4 (paramByte ps 0) fun q => .quad (Quad.ofFin q)
  | 0x05 => .measure (clampNat 240 17280 (paramWord ps 0))
  | 0x06 => .indent (clampNat 0 17040 (paramWord ps 0)) (clampNat 0 17040 (paramWord ps 2))
  | 0x07 => .fixed .en
  | 0x08 => .fixed .em
  | 0x09 => .fixed .thin
  | 0x0A => .ending .para
  | 0x0B => .ending .line
  | 0x0C => .soft
  | 0x0D => .tie
  | 0x0E => .hyph false
  | 0x0F => .hyph true
  | 0x10 => .ending .cut
  | 0x11 => selector 4 (paramByte ps 0) .mark
  | 0x12 => selector 4 (paramByte ps 0) .ret
  | 0x20 => .space
  | n => if 0x21 ≤ n ∧ n ≤ 0x7F then .char (n - 0x20) else .undefined

/-- The code counts toward the length of its word (R26, R27). -/
def Code.counted : Code → Bool
  | .fill | .undefined | .space | .ending _ => false
  | _ => true

/-- A line parameter written to the following set, and to the open set while the open line is empty (R20, R21). -/
def Composer.setParam (f : LineSet → LineSet) (c : Composer) : Composer :=
  { c with
    following := f c.following
    line := c.line.map fun l => if l.nonEmpty then l else { l with set := f l.set } }

/-- A RETURN read (R21). -/
def Composer.setReturn (k : Fin 4) (c : Composer) : Composer :=
  match c.line with
  | some l => if l.nonEmpty then { c with pendingRet := some k } else { c with line := some { l with ret := some k } }
  | none => { c with pendingRet := some k }

/-- A MARK read (R22). -/
def OpenLine.addMark (k : Fin 4) (l : OpenLine) : OpenLine := { l with marks := insertIn allMarks k l.marks }

/-- A flag given to the open line. -/
def Composer.flagLine (f : LineFlag) (c : Composer) : Composer :=
  c.onLine fun l => { l with flags := addLineFlag f l.flags }

/-- A code counted toward its word (R27). -/
def Composer.count (c : Composer) : Composer := { c with word := { c.word with count := c.word.count + 1 } }

/-- An item put at the end of the word buffer (R37). -/
def Composer.push (i : WordItem) (c : Composer) : Composer :=
  { c with word := { c.word with items := c.word.items ++ [i] } }

/-- The requested size resolved against the lens table (R110); none where no lens is defined. -/
def Composer.resolveSize (o : Optics) (req : Nat) (c : Composer) : Option Composer :=
  (o.resolve req).map fun (l, subst) =>
    let c1 := { c with size := req, lens := some l }
    if subst then c1.flagLine .sizeSubst else c1

/-- A lens selected that still holds the size it held, or one resolved now (R38, R110); none where no lens is defined. A LENS
that leaves the selected position its size brings no resolution (DESIGN CHOICE against R109, log 35). -/
def Composer.withLens (o : Optics) (c : Composer) : Option (Composer × LensSel) :=
  let again := (c.resolveSize o c.size).bind fun c1 => c1.lens.map fun l => (c1, l)
  match c.lens with
  | some l => if o.lensSize l.pos = l.size then some (c, l) else again
  | none => again

/-- The element of a character (R38). -/
def charElem (o : Optics) (face : Fin 8) (slot : Nat) (l : LensSel) : Elem :=
  let w := (o.mount face).widthOf slot
  if w = 0 then { kind := .absent, width := em l.size, before := 0, x := 0 }
  else { kind := .box face slot l.pos, width := width w l.size, before := 0, x := 0 }

/-- The element of a fixed space (R38). -/
def fixedElem (f : FixedSpace) (l : LensSel) : Elem :=
  match f with
  | .en => { kind := .en, width := width 24 l.size, before := 0, x := 0 }
  | .em => { kind := .em, width := width 48 l.size, before := 0, x := 0 }
  | .thin => { kind := .thin, width := width 12 l.size, before := 0, x := 0 }

/-- A code that has acted: the step is over, and a stall it was held in is forgotten. -/
def codeDone (c : Composer) (s : State) : State := s.withCmp { c with task := none, stallCause := none }

/-- An element of a width-producing code enters the word (R38), or the step stalls for want of a lens (R33). -/
def pushElem (byte : Byte) (mk : Fin 8 → LensSel → Elem) (s : State) : State :=
  match s.cmp.withLens s.opc with
  | none => stallSetup .lens s
  | some (c, l) => codeDone (c.push (.elem byte (mk c.face l) { face := c.face, lens := some l })).count s

/-- A code acts (R16 to R26). Codes that end a word make it complete. -/
def actCode (byte : Byte) (code : Code) (s : State) : State :=
  let c := s.cmp
  match code with
  | .fill => codeDone c s
  | .undefined => codeDone (c.flagLine .code) s
  | .face m => codeDone { c with face := m }.count s
  | .size n =>
    match c.resolveSize s.opc n with
    | none => stallSetup .lens s
    | some c1 => codeDone c1.count s
  | .lead l => codeDone (c.setParam fun p => { p with leading := l }).count s
  | .quad q => codeDone (c.setParam fun p => { p with quad := q }).count s
  | .measure m => codeDone (c.setParam fun p => { p with measure := m }.agree).count s
  | .indent l r => codeDone (c.setParam fun p => { p with left := l, right := r }.agree).count s
  | .fixed f => pushElem byte (fun _ l => fixedElem f l) s
  | .ending k => setTask (some (.fit (.ending k))) s
  | .soft => codeDone (c.push (.soft c.env)).count s
  | .tie => codeDone (c.push (.tie c.env)).count s
  | .hyph on => codeDone { c with hyph := on }.count s
  | .mark k => codeDone (c.onLine (OpenLine.addMark k)).count s
  | .ret k => codeDone (c.setReturn k).count s
  | .space => setTask (some (.fit (.space c.sizeNow))) s
  | .char slot =>
    if (s.opc.mount c.face).state = .empty then stallSetup .mount s
    else pushElem byte (fun m l => charElem s.opc m slot l) s

/-- A code that has been read acts against the open line (R28), but for the 49th counted code of a word, which makes the
word complete at a split point first (R27). -/
def codeStep (byte : Byte) (ps : Text) (s : State) : State :=
  let s1 := ensureOpen s
  let code := readCode byte ps
  if code.counted && decide (s1.cmp.word.count ≥ Config.wordCodes) then setTask (some (.fit (.split byte ps))) s1
  else actCode byte code s1

/-! ### Closing a line (R50, R51) -/

/-- The vertical move of a closing line (R21, R25). -/
def OpenLine.move (l : OpenLine) (cut : Bool) : Move :=
  if cut && !l.nonEmpty then .lead 0
  else
    match l.ret with
    | some k => .toMark k l.set.leading
    | none => .lead l.set.leading

/-- The quad a line is spaced with (R51). -/
def spacedQuad (q : Quad) (brk : BreakKind) : Quad :=
  match brk, q with
  | .overset, _ => .left
  | .para, .justify => .left
  | _, q => q

/-- The line as a record (R50, R51, R57, R83). -/
def OpenLine.close (j : Job) (l : OpenLine) (brk : BreakKind) (cut : Bool) : LineRecord :=
  let quad := spacedQuad l.set.quad brk
  let glue := l.glue.getD { min := 0, opt := 0, max := 0 }
  let sp := spacingOf quad (brk == .overset) glue j.lsMax l.set.available l.elems
  { number := l.number, exp := l.exp, proof := l.proof, quad := quad, measure := l.set.measure, left := l.set.left,
    right := l.set.right, move := l.move cut, marks := l.marks, cutAfter := cut, brk := brk, glue := sp.result,
    flags := flagIf sp.loose .loose l.flags
    elems := placeFrom sp.result (l.set.left + sp.offset) 0 none l.elems
    exposed := 0, misses := 0, band := none, galley := none, discard := false }

/-- The open line closes (R50); `rest` is the word buffer after the close, and `carried` what ended its word. -/
def closeLine (brk : BreakKind) (cut : Bool) (flags : List LineFlag) (rest : WordBuf) (carried : Option BreakOpp)
    (s : State) : State :=
  match s.cmp.line with
  | none => setTask none s
  | some l =>
    let r := { l with flags := addLineFlags flags l.flags }.close s.cmp.job brk cut
    s.withCmp { s.cmp with line := none, held := none, word := rest, task := some (.offer r carried), stallCause := none }

/-- The ladder count after a record's entry (R49). -/
def ladderAfter (brk : BreakKind) (ladder : Nat) : Nat :=
  match brk with
  | .hyphen | .hardHyphen => min 255 (ladder + 1)
  | _ => 0

/-- The store takes a record as its youngest (R87), the ladder count follows (R49), and a record to be exposed wakes a
resting drum (R185). -/
def enterStore (r : LineRecord) (s : State) : State :=
  let s1 := (s.withSls { s.sls with records := s.sls.records ++ [r] }).withCmp
    { s.cmp with ladder := ladderAfter r.brk s.cmp.ladder }
  if r.exp = .pending then wake s1 else s1

/-- The closed line is offered (R50): the store takes it, and a part carried opens the next line and is fitted there (R48);
or the composer stalls with the line held (R35). -/
def offerStep (r : LineRecord) (carried : Option BreakOpp) (s : State) : State :=
  if s.sls.records.length ≥ Config.storeRecords then stallRoom s
  else
    let s1 := enterStore r s
    match carried with
    | none => setTask none s1
    | some opp =>
      if (itemElems s1.cmp.word.items).isEmpty then setTask (some (.after opp)) s1
      else setTask (some (.fit opp)) (openLine s1)

/-! ### Fitting, placing, breaking -/

/-- What ended a word acts once the word is placed or was empty (R25, R26, R27, R39, R43). A space held before a word
without elements that a split point ends stays held, by R39 (DESIGN CHOICE against R27 and R42, log 30). -/
def afterStep (opp : BreakOpp) (s : State) : State :=
  match opp with
  | .space size =>
    let keep := (s.cmp.line.map OpenLine.nonEmpty).getD false
    s.withCmp { s.cmp with
      word := .empty, task := none
      held := if keep then (match s.cmp.held with | some h => some h | none => some size) else none }
  | .ending k =>
    let s1 := ensureOpen s
    match k with
    | .line => closeLine .forced false [] .empty none s1
    | .para => closeLine .para false [] .empty none s1
    | .cut => closeLine .para true [] .empty none s1
  | .split byte ps =>
    let s1 := ensureOpen s
    s1.withCmp { s1.cmp with word := { WordBuf.empty with atSplit := true }, task := some (.code byte ps) }

/-- Hyphenation is attempted (R44, R67). -/
def Composer.attempt (c : Composer) : Bool :=
  c.job.hyph && c.hyph && (c.job.ladder == 0 || decide (c.ladder < c.job.ladder))

/-- The Hyphenation Unit makes a referral (R75, R76). -/
def makeReferral (x : Exam) (opp : BreakOpp) (s : State) : State :=
  let s1 := s.withHyu { s.hyu with
    referral := some (x.record s.cmp.job.refer), lastEnd := .none
    timer := if s.cmp.job.timeout = 0 then none else some s.cmp.job.timeout }
  (s1.withLink { s1.link with refer := some (x.notice s.cmp.job.refer) }).withCmp
    { s1.cmp with st := .referring, task := some (.decision opp), stallCause := none }

/-- The step an outcome of the Hyphenation Unit leads to (R73, R77, R79): a break, or no break. -/
def outcome (p : Option Position) (flags : List LineFlag) (opp : BreakOpp) : Task :=
  match p with
  | some p => .brk p.brk flags opp
  | none => .noBreak flags opp

/-- The word is handed to the Hyphenation Unit (R44, R73, R74). -/
def examineStep (l : OpenLine) (opp : BreakOpp) (s : State) : State :=
  let c := s.cmp
  if hyphenWanting s.opc c.word.items then stallSetup .hyphen s
  else
    let x := examine s.opc s.hyu c.job l c.held c.word.items
    if x.referred c.job.refer then makeReferral x opp s
    else s.withCmp { c with
      task := some (outcome ((x.record c.job.refer).breakAt x.own) [] opp), stallCause := none }

/-- The open line closes before the word (R46). -/
def closeBefore (flags : List LineFlag) (opp : BreakOpp) (s : State) : State :=
  let w := s.cmp.word
  closeLine (if w.atSplit then .split else .word) false flags { w with atSplit := false } (some opp) s

/-- A complete word is fitted (R42); one that is not accepted is decided on (R44). -/
def fitStep (opp : BreakOpp) (s : State) : State :=
  let s1 := ensureOpen s
  let c := s1.cmp
  match c.line with
  | none => s1
  | some l =>
    if (itemElems c.word.items).isEmpty then setTask (some (.after opp)) s1
    else if l.fits c.job c.held c.word.items none then setTask (some (.place opp)) s1
    else if l.elems.length ≥ Config.lineElements then closeBefore [] opp s1
    else if c.attempt then examineStep l opp s1
    else setTask (some (.noBreak [] opp)) s1

/-- An accepted word is placed (R43), once the pool can supply it (R35). -/
def placeStep (opp : BreakOpp) (s : State) : State :=
  let c := s.cmp
  match c.line with
  | none => setTask none s
  | some l =>
    if freePool s < (itemElems c.word.items).length then stallRoom s
    else s.withCmp { c with
      line := some (l.append c.job c.held c.word.items none), held := none, word := .empty, task := some (.after opp) }

/-- A chosen break is made (R45), once the pool can supply the prefix and the hyphen box (R35). -/
def breakStep (b : Break) (flags : List LineFlag) (opp : BreakOpp) (s : State) : State :=
  let c := s.cmp
  match c.line with
  | none => setTask none s
  | some l =>
    let stays := c.word.items.take b.cut
    if freePool s < (itemElems stays).length + b.hyph.toList.length then stallRoom s
    else
      let s1 := s.withCmp { c with line := some (l.append c.job c.held stays b.hyph) }
      closeLine (if b.hyph.isSome then .hyphen else .hardHyphen) false flags
        { items := c.word.items.drop b.next, count := c.word.count, atSplit := false } (some opp) s1

/-- Elements of the longest leading run whose widths total at most `room` and whose number is at most `n` (R47). -/
def runLength : (room n : Nat) → List Elem → Nat
  | _, _, [] => 0
  | _, 0, _ => 0
  | room, n + 1, e :: es => if e.width ≤ room then runLength (room - e.width) n es + 1 else 0

/-- Leading elements that keep R6's bounds on x and on the right end, where the first stands at `start` and word spaces count
0 (R57). -/
def boundedLength : (start : Nat) → List Elem → Nat
  | _, [] => 0
  | start, e :: es =>
    if start ≤ Config.largestX ∧ start + e.width ≤ Config.largestEnd then boundedLength (start + e.width) es + 1 else 0

/-- The run an overset word is cut to (R47), as a number of its elements: the longest that fits, extended through the
word's first box, or to the first element, as far as the bounds of R6 on x and on an OVERSET line's end let it. It is never
empty on a line without elements (DEDUCED from R6, R47 and R129, log 29). -/
def oversetRun (l : OpenLine) (es : List Elem) : Nat :=
  let free := Config.lineElements - l.elems.length
  let k := runLength (l.set.available - widthSum l.elems) free es
  let k1 :=
    if (es.take k).any Elem.isBox then k
    else
      match es.findIdx? Elem.isBox with
      | some i => max k (min free (i + 1))
      | none => k
  max (if l.elems.isEmpty then max k 1 else k) (min (boundedLength (l.set.left + widthSum l.elems) es) (max k1 1))

/-- Items of a word up to and including its `k`-th element. -/
def takeElems : (k : Nat) → List WordItem → List WordItem
  | 0, _ => []
  | _, [] => []
  | k + 1, i :: is => i :: takeElems (if i.isElem then k else k + 1) is

/-- An overset word's run is placed and its line closed (R47), once the pool can supply it (R35). -/
def oversetStep (flags : List LineFlag) (opp : BreakOpp) (s : State) : State :=
  let c := s.cmp
  match c.line with
  | none => setTask none s
  | some l =>
    let k := oversetRun l (itemElems c.word.items)
    let run := takeElems k c.word.items
    if freePool s < k then stallRoom s
    else
      let s1 := s.withCmp { c with line := some (l.append c.job c.held run none) }
      closeLine .overset false (addLineFlag .overset flags)
        { items := c.word.items.drop run.length, count := c.word.count, atSplit := false } (some opp) s1

/-- The outcome no break (R46, R47): the line closes before the word, or the word is overset. -/
def noBreakStep (flags : List LineFlag) (opp : BreakOpp) (s : State) : State :=
  match s.cmp.line with
  | none => setTask none s
  | some l => if l.elems.any Elem.isBox then closeBefore flags opp s else setTask (some (.overset flags opp)) s

/-- One micro-step of the composer in READING (R32 to R50). -/
def taskStep (t : Task) (s : State) : State :=
  match t with
  | .code byte ps => codeStep byte ps s
  | .fit opp => fitStep opp s
  | .place opp => placeStep opp s
  | .brk b flags opp => breakStep b flags opp s
  | .noBreak flags opp => noBreakStep flags opp s
  | .overset flags opp => oversetStep flags opp s
  | .offer r carried => offerStep r carried s
  | .after opp => afterStep opp s
  | .decision _ => s

/-- The step held in STALL_ROOM can be completed now (R35). -/
def roomFor (t : Task) (s : State) : Bool :=
  match t with
  | .offer _ _ => decide (s.sls.records.length < Config.storeRecords)
  | .place _ => decide ((itemElems s.cmp.word.items).length ≤ freePool s)
  | .brk b _ _ => decide ((itemElems (s.cmp.word.items.take b.cut)).length + b.hyph.toList.length ≤ freePool s)
  | .overset _ _ =>
    match s.cmp.line with
    | some l => decide (oversetRun l (itemElems s.cmp.word.items) ≤ freePool s)
    | none => true
  | _ => true

/-- One micro-step of the composer, where it has one to make: a step in hand in READING, or a held step that a release has
made possible. -/
def composerStep (s : State) : Option State :=
  match s.cmp.st, s.cmp.task with
  | .reading, some (.decision _) => none
  | .reading, some t => some (taskStep t s)
  | .stallRoom, some t => if roomFor t s then some (s.withCmp { s.cmp with st := .reading }) else none
  | _, _ => none

/-- The composer holds something that makes it wait for text (R32). -/
def Composer.holds (c : Composer) : Bool :=
  c.partCode.isSome || decide (c.word.count > 0) || !c.word.items.isEmpty || c.held.isSome ||
    (c.line.map OpenLine.nonEmpty).getD false

/-- The composer moves between IDLE, READING and WAIT_TEXT (R32). -/
def composerRest (s : State) : Option State :=
  match s.cmp.st with
  | .reading =>
    if s.cmp.task.isNone && s.txq.bytes.isEmpty then
      some (s.withCmp { s.cmp with st := if s.cmp.holds then .waitText else .idle })
    else none
  | .idle | .waitText => if s.txq.bytes.isEmpty then none else some (s.withCmp { s.cmp with st := .reading })
  | _ => none

/-- The composer takes the next code, with as many of its parameter bytes as the queue holds (R11, R13). A code whose
parameter bytes have not all arrived stays partial. -/
def takeCode (s : State) : State :=
  match s.cmp.partCode, s.txq.bytes with
  | _, [] => s
  | some (c, ps), b :: bs => gather c ps (b :: bs)
  | none, b :: bs => gather b [] bs
where
  /-- The parameter bytes gathered from the queue. -/
  gather (c : Byte) (ps bytes : Text) : State :=
    let want := paramCount c - ps.length
    let got := ps ++ bytes.take want
    let s1 := drainTo (bytes.drop want) s
    if got.length < paramCount c then s1.withCmp { s1.cmp with partCode := some (c, got) }
    else s1.withCmp { s1.cmp with partCode := none, task := some (.code c got) }

/-! ### Decisions handed back and abort -/

/-- The referral ends with an outcome (R77, R79): the composer returns to READING with it. -/
def endReferral (how : LastEnd) (p : Option Position) (flags : List LineFlag) (s : State) : State :=
  let s1 := s.withHyu { s.hyu with referral := none, timer := none, lastEnd := how }
  let s2 := s1.withLink { s1.link with refer := none }
  match s2.cmp.task with
  | some (.decision opp) => s2.withCmp { s2.cmp with st := .reading, task := some (outcome p flags opp) }
  | _ => s2

/-- The referral is withdrawn (R81, R97): the notice that still waits is discarded. -/
def withdrawReferral (s : State) : State :=
  let s1 := s.withHyu { s.hyu with referral := none, timer := none, lastEnd := .withdrawn }
  s1.withLink { s1.link with refer := none }

/-- The composer discards its work in hand and enters ABORTING (R36). -/
def Composer.abandon (c : Composer) : Composer :=
  { c with st := .aborting, line := none, word := .empty, held := none, partCode := none, pendingRet := none,
           task := none, stallCause := none }

/-- A FACE or LENS command taken lets the composer try the step held in STALL_SETUP (R34). -/
def retrySetup (s : State) : State :=
  if s.cmp.st = .stallSetup then s.withCmp { s.cmp with st := .reading } else s

end Sys2Proof.Machine
end

