-- ==== Sys2Proof/Machine/ProofPort.lean ====
section
/-! DEFINITION. The Proof Controller: proof rows and headers, sending, room, silence, skipping, printer faults, its part of
an abort (R165 to R178). -/

namespace Sys2Proof.Machine

/-! ### Rows (9.4, R171 to R173) -/

/-- A cell in style 0. -/
def plain (b : Byte) : Cell := { code := b, style := 0 }

/-- A blank cell. -/
def blank : Cell := plain 0x20#8

/-- The cell style of a proof style (R103). -/
def ProofStyle.cell : ProofStyle → Fin 4
  | .plain => 0
  | .under => 1
  | .bold => 2
  | .both => 3

/-- The cells of an element itself (R171). -/
def Elem.cells (o : Optics) (e : Elem) : List Cell :=
  match e.kind with
  | .box m slot _ => [{ code := BitVec.ofNat 8 (slot + 0x20), style := (o.mount m).style.cell }]
  | .en => [blank]
  | .thin => [blank]
  | .em => [blank, blank]
  | .absent => [plain 0x23#8]

/-- The text cells of a record (R171). -/
def textCells (o : Optics) (es : List Elem) : List Cell :=
  (es.map fun e => List.replicate e.before blank ++ e.cells o).flatten

/-- Rows of `n` text cells (R171). -/
def rowsFor (n : Nat) : Nat := max 1 ((n + 119) / 120)

/-- Rows of a record (R171). -/
def rowCount (o : Optics) (r : LineRecord) : Nat := rowsFor (textCells o r.elems).length

/-- Cells brought to `n` by blanks on the right. -/
def padRight (n : Nat) (cs : List Cell) : List Cell := cs ++ List.replicate (n - cs.length) blank

/-- Cells brought to `n` by blanks on the left. -/
def padLeft (n : Nat) (cs : List Cell) : List Cell := List.replicate (n - cs.length) blank ++ cs

/-- A text as cells in style 0. -/
def textOf (t : Text) : List Cell := t.map plain

/-- The break mark of column 7 (R172). -/
def BreakKind.mark : BreakKind → Byte
  | .hyphen => 0x48
  | .hardHyphen => 0x3D
  | .overset => 0x21
  | .forced => 0x3E
  | .word | .para | .split => 0x20

/-- The first of several marks whose flag is set, or a blank (R172). -/
def firstMark (fs : List LineFlag) : List (LineFlag × Byte) → Byte
  | [] => 0x20
  | (f, b) :: ms => if fs.contains f then b else firstMark fs ms

/-- Columns 1 to 11 of row `j` (R172). -/
def rowHead (r : LineRecord) (j : Nat) : List Cell :=
  padLeft 5 (textOf (decimal r.number)) ++
    if j = 1 then
      textOf [0x20#8, r.brk.mark, firstMark r.flags [(.loose, 0x4C)],
        firstMark r.flags [(.lapsed, 0x54), (.referred, 0x52)],
        firstMark r.flags [(.missing, 0x4D), (.code, 0x3F), (.sizeSubst, 0x53)], 0x20#8]
    else textOf [0x20#8, 0x20#8, 0x20#8, 0x20#8, 0x20#8, 0x2B#8]

/-- Row `j` of a record, its 132 cells (9.4, R171, R172). -/
def rowCellsOf (o : Optics) (r : LineRecord) (j : Nat) : List Cell :=
  padRight Config.rowCells
    (rowHead r j ++ ((textCells o r.elems).drop (Config.rowTextCells * (j - 1))).take Config.rowTextCells)

/-- A header row, its 132 cells (R173). -/
def headerCells (galley : Nat) (name : Text) : List Cell :=
  padRight Config.rowCells
    (textOf (ascii "GALLEY ") ++ padLeft 5 (textOf (decimal galley)) ++ textOf (ascii " JOB ") ++ textOf (name.take 16))

/-! ### Proof states of records -/

/-- A record's proof state became DONE or SKIPPED (R96, R173): last line proofed, and, with cut-after, the next proof
galley with its header due and the galley wait ended, once for each such record (DESIGN CHOICE, log 34). -/
def proofEnded (r : LineRecord) (s : State) : State :=
  let s1 := s.withSls { s.sls with lastProofed := r.number }
  if r.cutAfter then
    s1.withPrc { s1.prc with
      galley := nextCount s1.prc.galley, headerDue := true,
      galleyWait := if s1.prc.galleyWait = some r.number then none else s1.prc.galleyWait }
  else s1

/-- A record is given up (R86): SKIPPED, with its flag. -/
def skipRecord (r : LineRecord) (s : State) : State :=
  proofEnded r (updateRecord r.number
    (fun r => { r with proof := .skipped, flags := addLineFlag .skipped r.flags }) s)

/-- A record's last row is printed (R170): DONE, with PROOF. -/
def proofDone (r : LineRecord) (s : State) : State :=
  raise .proof (proofEnded r (updateRecord r.number (fun r => { r with proof := .done }) s))

/-- Records given up one after another. -/
def skipAll (rs : List LineRecord) (s : State) : State := rs.foldl (fun s r => skipRecord r s) s

/-- The records whose proof is IN_PROGRESS, in store order. -/
def Store.proofing (st : Store) : List LineRecord := st.records.filter fun r => r.proof == .inProgress

/-- The outstanding row is a header. -/
def ProofRow.isHeader : ProofRow → Bool
  | .header => true
  | .row _ _ => false

/-- The outstanding row belongs to record `n`. -/
def ProofRow.ofRecord (n : Nat) : ProofRow → Bool
  | .header => false
  | .row m _ => m == n

/-- The record to begin (R167): the oldest PENDING one without discard mark, where the proof pointer is none and no galley
wait stands. -/
def recordToBegin (s : State) : Option LineRecord :=
  if s.prc.ptr.isNone && s.prc.galleyWait.isNone then s.sls.nextProof else none

/-- The line number a proof fault is given (R175, R176): that of the record of the oldest outstanding row, else of the record
to begin, else 0. A header row has no record (log 18). -/
def proofFaultLine (s : State) : Nat :=
  match s.prc.out.head? with
  | some (.row n _) => n
  | _ =>
    match recordToBegin s with
    | some r => r.number
    | none => 0

/-! ### Sending -/

/-- Rows outstanding are given up and nothing more of them is sent (R174, R176). -/
def Proof.giveUp (p : Proof) : Proof :=
  { p with out := [], ptr := none, room := 0, afterZero := false,
           headerDue := p.headerDue || p.out.any ProofRow.isHeader }

/-- A row could be sent but for the PRC's state (R167). -/
def rowWanted (s : State) : Bool :=
  !aborting s && (s.prc.ptr.isSome || (recordToBegin s).isSome)

/-- The PRC is in SKIPPING or FAULTED, where it sends no row. -/
def Proof.silent (p : Proof) : Bool := p.st == .skipping || p.st == .faulted

/-- A row is ready (R167). -/
def rowReady (s : State) : Bool := !s.prc.silent && rowWanted s

/-- An ASK is called for (R168, R169): it is begun if the port is free, and otherwise waits for the port (R166). Its
beginning sets ASK outstanding and restarts the grant timer. -/
def Proof.beginAsk (p : Proof) : Proof :=
  match p.port with
  | none => { p with port := some .ask, ask := true, askDue := false, timer := some p.grant }
  | some _ => { p with askDue := true, timer := some p.grant }

/-- A row is appended to the outstanding-row list (R167). -/
def Proof.send (p : Proof) (row : ProofRow) (cells : List Cell) : Proof :=
  { p with port := some (.row cells), room := p.room - 1, out := p.out ++ [row],
           timer := match p.timer with
             | some t => some t
             | none => some p.grant }

/-- The header row begun (R167, R173). -/
def sendHeader (s : State) : State :=
  s.withPrc { s.prc.send .header (headerCells s.prc.galley s.cmp.job.name) with headerDue := false }

/-- Row `j` of a record begun (R167, R173). -/
def sendRow (r : LineRecord) (j : Nat) (s : State) : State :=
  let p := s.prc.send (.row r.number j) (rowCellsOf s.opc r j)
  let s1 := updateRecord r.number (fun r => { r with proof := .inProgress }) s
  if j < rowCount s.opc r then s1.withPrc { p with ptr := some (r.number, j + 1) }
  else s1.withPrc { p with ptr := none, galleyWait := if r.cutAfter then some r.number else p.galleyWait }

/-- The ready row begun (R167). -/
def sendReady (s : State) : State :=
  match s.prc.ptr with
  | some (n, j) =>
    match s.sls.find n with
    | some r => sendRow r j s
    | none => s
  | none =>
    match s.sls.nextProof with
    | some r => if s.prc.headerDue then sendHeader s else sendRow r 1 s
    | none => s

/-- The PRC's state decided afresh, outside SKIPPING and FAULTED (R167): WAITING while an ASK is outstanding, room or not
(DESIGN CHOICE, log 17). -/
def Proof.decided (ready : Bool) (p : Proof) : PrcState :=
  if p.ask || p.askDue then .waiting
  else if ready then
    if p.room > 0 ∧ p.out.length < Config.printerRows then .sending else .waiting
  else .idle

/-- What the PRC does in the state decided: an ASK that waits for the port is begun; in SENDING the ready row; in WAITING
for want of room an ASK (R166 to R168). -/
def proofAct (s : State) : State :=
  let p := s.prc
  if p.port.isSome || aborting s then s
  else if p.askDue then s.withPrc p.beginAsk
  else if p.silent || p.ask || !rowReady s || decide (p.out.length ≥ Config.printerRows) then s
  else if p.room > 0 then sendReady s
  else if p.afterZero then s
  else s.withPrc { p.beginAsk with st := .waiting }

/-- The grant timer's conditions (R169, R178). -/
def timerWanted (s : State) : Bool :=
  if aborting s then !s.prc.out.isEmpty
  else s.prc.ask || s.prc.askDue || !s.prc.out.isEmpty || (s.prc.afterZero && rowReady s) ||
    (s.prc.st == .faulted && s.prc.mode == .best)

/-- The grant timer after an event (R169): stopped where nothing remains to wait for, running otherwise. -/
def timerService (s : State) : State :=
  if timerWanted s then
    match s.prc.timer with
    | some _ => s
    | none => s.withPrc { s.prc with timer := some s.prc.grant }
  else s.withPrc { s.prc with timer := none }

/-- The PRC after an event: its state decided, one message begun if the port is free, the grant timer as R169 gives. -/
def proofService (s : State) : State :=
  let s1 := if s.prc.silent then s else s.withPrc { s.prc with st := s.prc.decided (rowReady s) }
  timerService (proofAct s1)

/-- In SKIPPING, the oldest record whose proof is PENDING and carries no discard mark is given up (R174). -/
def skipReact (s : State) : Option State :=
  if s.prc.st == .skipping then s.sls.nextProof.map fun r => skipRecord r s else none

/-! ### Messages of the printer and the grant timer -/

/-- The grant timer restarted, but not in an abort (R169, R178). -/
def restartGrant (s : State) : State :=
  if aborting s then s else s.withPrc { s.prc with timer := some s.prc.grant }

/-- READY with count `n` acts (R168, R174, R176): the PRC leaves SKIPPING or FAULTED. -/
def readyTaken (n : Nat) (s : State) : State :=
  restartGrant (s.withPrc { s.prc with
    st := if s.prc.silent then .idle else s.prc.st, ask := false, askDue := false, room := n,
    afterZero := n == 0 && rowWanted s })

/-- READY n (R166, R168): discarded with no ASK outstanding, but for FAULTED. -/
def takeReady (n : Byte) (s : State) : State :=
  if s.prc.ask || s.prc.st == .faulted then readyTaken (min n.toNat Config.printerRows) s else s

/-- An outstanding row reported printed (R170). -/
def rowPrinted (w : ProofRow) (s : State) : State :=
  match w with
  | .header => s
  | .row n j =>
    match s.sls.find n with
    | none => s
    | some r => if j ≥ rowCount s.opc r then proofDone r s else s

/-- PRINTED (R170). -/
def takePrinted (s : State) : State :=
  match s.prc.out with
  | [] => s
  | w :: ws => rowPrinted w (restartGrant (s.withPrc { s.prc with out := ws, afterZero := false }))

/-- Records in progress return to PENDING at a printer fault in REQUIRED mode (R176). -/
def returnToPending (s : State) : State :=
  s.withSls { s.sls with
    records := s.sls.records.map fun r => if r.proof = .inProgress then { r with proof := .pending } else r }

/-- The galley wait ended where its record returned to PENDING (R173, R176). -/
def endWaitReturned (s : State) : State :=
  match s.prc.galleyWait with
  | none => s
  | some n =>
    if (s.sls.find n).any fun r => r.proof == .pending then s.withPrc { s.prc with galleyWait := none } else s

/-- FAULT c (R176), in REQUIRED mode too where an abort is in progress (DESIGN CHOICE, log 19). -/
def takeFault (c : Byte) (s : State) : State :=
  let s1 := proofFault .printer (proofFaultLine s) (s.withPrc { s.prc with lastCode := some c })
  let gone := s1.sls.proofing
  let s2 :=
    match s1.prc.mode with
    | .best => if gone.isEmpty then s1 else raise .skip (skipAll gone s1)
    | .required => endWaitReturned (returnToPending s1)
  s2.withPrc { s2.prc.giveUp with
    st := .faulted, ask := false, askDue := false,
    timer := if s2.prc.mode = .best && !aborting s2 then some s2.prc.grant else none }

/-- The PRC enters SKIPPING (R174, R176): SKIP raised, an ASK begun; one already outstanding is kept so. -/
def enterSkipping (s : State) : State :=
  raise .skip (s.withPrc { s.prc.giveUp with st := .skipping }.beginAsk)

/-- Silence in REQUIRED mode (R175). -/
def requiredSilence (s : State) : State :=
  let r := s.link.proof
  let s1 := if r.first = some .silent ∨ r.also.contains .silent then s else proofFault .silent (proofFaultLine s) s
  let s2 := raise .pfault s1
  s2.withPrc s2.prc.beginAsk

/-- The abort's grant timeout gives up the rows still outstanding (R178). -/
def abortGiveUp (s : State) : State :=
  let gone := s.sls.records.filter fun r => s.prc.out.any (ProofRow.ofRecord r.number)
  let s1 := if gone.isEmpty then s else raise .skip (skipAll gone s)
  s1.withPrc { s1.prc with out := [], timer := none, headerDue := s1.prc.headerDue || s1.prc.out.any ProofRow.isHeader }

/-- The grant timer expires (R169, R174 to R176, R178). -/
def grantExpires (s : State) : State :=
  match s.prc.timer with
  | none => s
  | some _ =>
    if aborting s then abortGiveUp s
    else
      match s.prc.st with
      | .faulted => enterSkipping s
      | .skipping => s.withPrc s.prc.beginAsk
      | _ =>
        if s.prc.ask then
          match s.prc.mode with
          | .best => enterSkipping (skipAll s.sls.proofing s)
          | .required => requiredSilence s
        else s.withPrc { s.prc.beginAsk with st := .waiting, afterZero := false }

/-- An ASK called for by CLEARFAULT PROOF (R177); in an abort nothing is sent and its limit runs on, so the ASK waits for the
abort's end (R178, log 19). -/
def askAfresh (s : State) (p : Proof) : Proof := if aborting s then { p with askDue := true } else p.beginAsk

/-- CLEARFAULT PROOF in the PRC (R177). -/
def proofRetry (s : State) : State :=
  match s.prc.st with
  | .faulted => s.withPrc { askAfresh s { s.prc with room := 0 } with st := .waiting }
  | .waiting => if s.prc.ask then s.withPrc (askAfresh s s.prc) else s
  | _ => s

/-- The PRC's part in an abort begins (R178): the grant timer is the abort's limit, and stands stopped where no row is
outstanding (DESIGN CHOICE, log 19). -/
def proofAbort (s : State) : State :=
  s.withPrc { s.prc with timer := if s.prc.out.isEmpty then none else some s.prc.grant, afterZero := false }

/-- The PRC at abort completion (R178). -/
def proofAbortEnds (s : State) : State :=
  s.withPrc { s.prc with
    ptr := none, galleyWait := none, headerDue := true,
    timer := if s.prc.ask || (s.prc.st == .faulted && s.prc.mode == .best) then some s.prc.grant else none }

/-- A byte of the printer (R166): it begins a READY or a FAULT, is a PRINTED, is the value of a message half received, or is
discarded. -/
def printerByte (s : State) (b : Byte) : State :=
  match s.prc.half with
  | some .ready => takeReady b (s.withPrc { s.prc with half := none })
  | some .fault => takeFault b (s.withPrc { s.prc with half := none })
  | none =>
    if b = 0x50#8 then takePrinted s
    else if b = 0x52#8 then s.withPrc { s.prc with half := some .ready }
    else if b = 0x46#8 then s.withPrc { s.prc with half := some .fault }
    else s

/-- The byte completes a message of the printer (R166): a PRINTED, or the value of a message half received. -/
def completesMessage (b : Byte) (s : State) : Bool := s.prc.half.isSome || b == 0x50#8

/-- The bytes that bring a message of the printer with a value: its first byte, unless that has come already, and the value
(R166). -/
def messageRest (head : PrinterHead) (value : Byte) (s : State) : Text :=
  if s.prc.half = some head then [value]
  else
    match head with
    | .ready => [0x52#8, value]
    | .fault => [0x46#8, value]

/-- A new proof mode applies (R177). -/
def Proof.setMode (m : ProofMode) (p : Proof) : Proof :=
  let p1 := { p with mode := m }
  if p.mode = m then p1
  else
    match m, p.st with
    | .required, .skipping => { p1 with st := .waiting }
    | .required, .faulted => { p1 with timer := none }
    | .best, .faulted => { p1 with timer := some p1.grant }
    | _, _ => p1

end Sys2Proof.Machine
end

