-- ==== Sys2Proof/Machine/Reactions.lean ====
section
/-! DEFINITION. What an event sets off in the blocks until nothing more follows (00 Overview: a step is whole and
indivisible): release (R92, R93), abort completion (R100), the settling of the reactions, and what is decided once after
them: spin-up (R180), rest timer (R183), Proof Controller (R167), the IDLE flag (R191). -/

namespace Sys2Proof.Machine

/-- The oldest record is released when it is terminal in both states (R92, R93). -/
def releaseOldest (s : State) : Option State :=
  match s.sls.records with
  | r :: rs => if r.finished then some (s.withSls { s.sls with records := rs }) else none
  | [] => none

/-- The conditions of abort completion (R100). -/
def abortDone (s : State) : Bool :=
  aborting s && s.exc.ptr.isNone && !s.exc.cutWait && s.prc.out.isEmpty

/-- The composer at abort completion (R36, R100). -/
def Composer.abortEnds (c : Composer) : Composer := { c with st := .idle, ladder := 0 }

/-- The line store at abort completion (R84, R96, R100). -/
def Store.abortEnds (st : Store) : Store := { st with records := [], counter := 1, lastOpened := 0, abort := none }

/-- An abort completes (R100). -/
def completeAbort (s : State) : State :=
  raise .idle (proofAbortEnds ((s.withSls s.sls.abortEnds).withCmp s.cmp.abortEnds))

/-- Abort completion as a reaction (R100). -/
def abortReact (s : State) : Option State := if abortDone s then some (completeAbort s) else none

/-- The reactions in the order they are looked for (log 3). -/
def reactions : List (State → Option State) :=
  [exposureReact, surveyReact, releaseOldest, skipReact, composerStep, exposureTake, composerRest, abortReact]

/-- The first reaction that stands. -/
def react (s : State) : Option State := reactions.findSome? fun f => f s

/-- Reactions carried out until none stands, `fuel` at most (log 3). -/
def settle : (fuel : Nat) → State → State
  | 0, s => s
  | fuel + 1, s =>
    match react s with
    | none => s
    | some t => settle fuel t

/-- The conditions of the IDLE flag (R191). -/
def idleHolds (s : State) : Bool :=
  s.cmp.st == .idle && s.hyu.referral.isNone && s.sls.records.isEmpty && s.exc.st == .idle &&
    s.ftc.st != .moving && s.ftc.st != .cutting

/-- IDLE raised at an event after which its conditions hold and before which they did not (R191). -/
def idleService (before : Bool) (s : State) : State := if idleHolds s && !before then raise .idle s else s

/-- What follows an event that found the IDLE conditions at `before`. -/
def afterEvent (before : Bool) (s : State) : State :=
  idleService before (proofService (restService (spinUp (settle Config.cascade s))))

end Sys2Proof.Machine
end

