-- ==== Sys2Proof/Machine/CompositionCommands.lean ====
section
/-! DEFINITION. TEXT records and the commands of the text queue, the composer, the Hyphenation Unit and the line store: what
each does and replies when it is taken (R12, R29, R30, R62 to R66, R77 to R81, R95, R97 to R99). -/

namespace Sys2Proof.Machine

/-- What taking a record brings: the state after it and its reply. -/
abbrev Taken := State × Text

/-- A refusal changes no state of any block (R189). -/
def refuse (r : Reason) (s : State) : Taken := (s, no r)

/-! ### TEXT -/

/-- The `room=n` field of a TEXT reply (R12). -/
def roomField (q : TextQueue) : Text := field "room" (decimal q.room)

/-- The text queue with a payload appended (R11). -/
def TextQueue.append (q : TextQueue) (payload : Text) : TextQueue := { q with bytes := q.bytes ++ payload }

/-- A TEXT record (R12, R14, R185). -/
def textBody (payload : Text) (s : State) : Taken :=
  if aborting s then (s, no .state ++ fields [roomField s.txq])
  else if payload.length ≤ s.txq.room then
    let q := s.txq.append payload
    let s1 := s.withTxq q
    (if payload.isEmpty then s1 else wake s1, okWith [roomField q])
  else (s.withTxq { s.txq with watch := true }, no .full ++ fields [roomField s.txq])

/-! ### JOB -/

/-- The pending set with the pairs of a JOB entered (R29). -/
def PendingJob.enterAll (ps : List (JobKey × JobValue)) (p : PendingJob) : PendingJob := ps.foldl PendingJob.enter p

/-- A JOB that gives glue keys leaves the merged glue in order (R30). -/
def glueTest (ps : List (JobKey × JobValue)) (c : Composer) : Bool :=
  !(ps.any fun p => p.1.isGlue) || (c.job.apply (c.pend.enterAll ps)).glueOk

/-- JOB (R29, R30). -/
def jobBody (params : List Text) (s : State) : Taken :=
  match parseJob params with
  | none => refuse .badSyntax s
  | some ps =>
    if ps.all jobInRange && glueTest ps s.cmp then
      (s.withCmp { s.cmp with pend := s.cmp.pend.enterAll ps }, ok)
    else refuse .range s

/-! ### PAIRS and the dictionary -/

/-- The single letter that names a row (R62). -/
def parseLetter : Text → Option (Fin 26)
  | [b] => letterClass b
  | _ => none

/-- A row of the pair table replaced (R62). -/
def Hyphenation.setRow (c : Fin 26) (vs : List Nat) (h : Hyphenation) : Hyphenation :=
  { h with pairs := h.pairs.set c.val (Vector.ofFn fun i => vs.getD i.val 0) c.isLt }

/-- PAIRS (R62). -/
def pairsBody (params : List Text) (s : State) : Taken :=
  match params with
  | [] => refuse .badSyntax s
  | l :: vs =>
    match parseLetter l, parseNumbers vs with
    | some c, some ns =>
      if ns.length ≠ 26 then refuse .badSyntax s
      else if ns.all (inRange 0 3) then (s.withHyu (s.hyu.setRow c (ns.map Int.toNat)), ok)
      else refuse .range s
    | _, _ => refuse .badSyntax s

/-- The positions of an entry are strictly ascending, each above `low` and below `len` (R64). -/
def ascending (low len : Nat) : List Int → Bool
  | [] => true
  | p :: ps => inRange (low + 1) ((len : Int) - 1) p && ascending p.toNat len ps

/-- The dictionary has room for a word of `len` letters more (R64). -/
def Hyphenation.roomFor (len : Nat) (h : Hyphenation) : Bool :=
  decide (h.dict.length < Config.dictEntries ∧ h.lettersUsed + len ≤ Config.dictLetters)

/-- An entry written (R64). -/
def Hyphenation.put (e : DictEntry) (h : Hyphenation) : Hyphenation := { h with dict := dictInsert e h.dict }

/-- DICTADD (R64). -/
def dictAddBody (params : List Text) (s : State) : Taken :=
  match params with
  | [] => refuse .badSyntax s
  | w :: ps =>
    match parseWord w, parseNumbers ps with
    | some word, some ns =>
      if word.length < 2 ∨ word.length > 24 ∨ ascending 0 word.length ns = false then refuse .range s
      else if (s.hyu.lookup word).isSome || s.hyu.roomFor word.length then
        let h := s.hyu.put { word := word, positions := ns.map Int.toNat }
        (s.withHyu h, okWith h.counts)
      else refuse .full s
    | _, _ => refuse .badSyntax s

/-- The one word of a DICTDEL or DICTGET, or the reason it is refused (R65, R66). -/
def oneWord (params : List Text) : Except Reason (List (Fin 26)) :=
  match params with
  | [w] =>
    match parseWord w with
    | none => .error .badSyntax
    | some word => if word.length < 2 ∨ word.length > 24 then .error .range else .ok word
  | _ => .error .badSyntax

/-- DICTDEL (R65). -/
def dictDelBody (params : List Text) (s : State) : Taken :=
  match oneWord params with
  | .error r => refuse r s
  | .ok word =>
    if (s.hyu.lookup word).isSome then
      let h := { s.hyu with dict := s.hyu.dict.filter fun e => e.word != word }
      (s.withHyu h, okWith h.counts)
    else refuse .notFound s

/-- DICTCLEAR (R65). -/
def dictClearBody (params : List Text) (s : State) : Taken :=
  match params with
  | [] =>
    let h := { s.hyu with dict := [] }
    (s.withHyu h, okWith h.counts)
  | _ => refuse .badSyntax s

/-- DICTGET (R66). -/
def dictGetBody (params : List Text) (s : State) : Taken :=
  match oneWord params with
  | .error r => refuse r s
  | .ok word =>
    match s.hyu.lookup word with
    | some e => (s, okWith [e.text])
    | none => refuse .notFound s

/-- The reply to a DICTLIST with `m` entries from index `i` on (R66). -/
def Hyphenation.listing (i m : Nat) (h : Hyphenation) : Text :=
  let n := h.dict.length
  okWith ([field "total" (decimal n), field "letters" (decimal h.lettersUsed),
    field "next" (decimal (if i ≥ n then n else i + m))] ++ ((h.dict.drop i).take m).map DictEntry.text)

/-- The reply with as many entries, `m` at most, as the payload of a reply record allows (R66). -/
def Hyphenation.longestListing (i : Nat) (h : Hyphenation) : (m : Nat) → Text
  | 0 => h.listing i 0
  | m + 1 => if (h.listing i (m + 1)).length ≤ Config.framePayload then h.listing i (m + 1) else h.longestListing i m

/-- The reply to a DICTLIST from index `i` on: at most 8 entries (R66). -/
def Hyphenation.list (i : Nat) (h : Hyphenation) : Text := h.longestListing i (min 8 (h.dict.length - i))

/-- DICTLIST (R66). -/
def dictListBody (params : List Text) (s : State) : Taken :=
  match params with
  | [w] =>
    match parseNumber w with
    | none => refuse .badSyntax s
    | some i => if inRange 0 255 i then (s, s.hyu.list i.toNat) else refuse .range s
  | _ => refuse .badSyntax s

/-! ### DECIDE -/

/-- DECIDE (R77, R78, R80). -/
def decideBody (params : List Text) (s : State) : Taken :=
  match params with
  | [w] =>
    match parseNumber w with
    | none => refuse .badSyntax s
    | some k =>
      match s.hyu.referral with
      | none => if s.hyu.lastEnd = .lapsed then refuse .late s else refuse .noRefer s
      | some r =>
        if k = 0 then (endReferral .decided none [.referred] s, ok)
        else if k < 0 then refuse .range s
        else
          match r.breakAt k.toNat with
          | some p => if p.fits then (endReferral .decided (some p) [.referred] s, ok) else refuse .range s
          | none => refuse .range s
  | _ => refuse .badSyntax s

/-! ### LINE -/

/-- A move as LINE reports it (R95). -/
def Move.text : Move → Text
  | .lead l => ascii "LEAD:" ++ depth l
  | .toMark k l => ascii "MARK:" ++ decimal k.val ++ [0x2F#8] ++ depth l

/-- An exposure state as LINE reports it (R95). -/
def ExpState.text (e : ExpState) (exposed : Nat) : Text :=
  match e with
  | .pending => ascii "PENDING"
  | .inProgress => ascii "IN_PROGRESS:" ++ decimal exposed
  | .done => ascii "DONE"
  | .part => ascii "PARTIAL:" ++ decimal exposed
  | .notRequired => ascii "NOT_REQUIRED"

/-- A proof state as LINE reports it (R95). -/
def ProofState.text : ProofState → Text
  | .pending => ascii "PENDING"
  | .inProgress => ascii "IN_PROGRESS"
  | .done => ascii "DONE"
  | .skipped => ascii "SKIPPED"
  | .notRequired => ascii "NOT_REQUIRED"

/-- The summary of a record (R95). -/
def LineRecord.summary (r : LineRecord) : Text :=
  okWith
    [field "LINE" (decimal r.number), field "QUAD" r.quad.name, field "MEAS" (depthNat r.measure),
     field "IND" (depthNat r.left ++ [0x2C#8] ++ depthNat r.right), field "MOVE" r.move.text,
     field "MARKS" (if r.marks.isEmpty then dash else (r.marks.map fun k => decimal k.val).flatten),
     field "CUT" (yesNo r.cutAfter), field "BREAK" r.brk.name,
     field "GLUE" (joinText [0x2C#8] [decimal r.glue.n, depthNat r.glue.base, decimal r.glue.r, depthNat r.glue.ls]),
     field "FLAGS" (if r.flags.isEmpty then dash else r.flags.map LineFlag.letter),
     field "ELEM" (decimal r.elems.length), field "EXP" (r.exp.text r.exposed), field "PROOF" r.proof.text,
     field "MISS" (decimal r.misses), field "BAND" (orElse dash (r.band.map fun b => decimal b.val)),
     field "GALLEY" (orElse dash (r.galley.map decimal))]

/-- LINE (R95). -/
def lineBody (params : List Text) (s : State) : Taken :=
  match params with
  | [w] =>
    match parseNumber w with
    | none => refuse .badSyntax s
    | some n =>
      if inRange 1 65535 n then
        match s.sls.find n.toNat with
        | some r => (s, r.summary)
        | none => refuse .notFound s
      else refuse .range s
  | _ => refuse .badSyntax s

/-! ### ABORT -/

/-- Every record but the one the Exposure Controller has IN_PROGRESS is marked, and the form recorded (R97). -/
def Store.beginAbort (form : HaltForm) (keep : Option Nat) (st : Store) : Store :=
  { st with
    records := st.records.map fun r => if keep = some r.number then r else { r with discard := true }
    abort := some form }

/-- The Exposure Controller's part where it has neither a line nor a cut wait (R146): no stop request, STOPPED left. -/
def exposureAbort (s : State) : State :=
  if s.exc.ptr.isNone && !s.exc.cutWait then
    let e := { s.exc with stopReq := none }
    s.withExc (if e.st = .stopped then e.enter .idle else e)
  else s

/-- An abort starts (R97, R98). -/
def startAbort (form : HaltForm) (s : State) : State :=
  let s1 := withdrawReferral (drainTo [] s)
  let s2 := (s1.withCmp s1.cmp.abandon).withSls (s1.sls.beginAbort form s1.exc.ptr)
  proofAbort (exposureAbort s2)

/-- ABORT (R97, R99). -/
def abortBody (params : List Text) (s : State) : Taken :=
  match params with
  | [w] =>
    match parseHalt w with
    | none => refuse .badSyntax s
    | some form =>
      if aborting s then
        if form = .hard then (s.withSls { s.sls with abort := some .hard }, ok) else (s, ok)
      else (startAbort form s, ok)
  | _ => refuse .badSyntax s

end Sys2Proof.Machine
end

