-- ==== Sys2Proof/Machine/OpticsCommands.lean ====
section
/-! DEFINITION. The commands of the Optics Controller: the mount and lens tables, survey, rest and wake (R105 to R107, R109,
R119, R122, R184, R185). -/

namespace Sys2Proof.Machine

/-- A mount state's name (R105). -/
def MountState.name : MountState → Text
  | .empty => ascii "EMPTY"
  | .unverified => ascii "UNVERIFIED"
  | .mismatch => ascii "MISMATCH"
  | .ready => ascii "READY"

/-- A mount state's letter (R122). -/
def MountState.letter : MountState → Text
  | .empty => [0x45#8]
  | .unverified => [0x55#8]
  | .mismatch => [0x58#8]
  | .ready => [0x52#8]

/-- A number as an index below `n`. -/
def asFin (n : Nat) (v : Int) : Option (Fin n) := if h : 0 ≤ v ∧ v.toNat < n then some ⟨v.toNat, h.2⟩ else none

/-- A mount declared (R105). -/
def Mount.declare (code : Nat) (style : ProofStyle) (phase : Int) (m : Mount) : Mount :=
  { m with expected := code, style := style, phase := phase, widths := Vector.replicate 95 0 }

/-- FACE (R105, R34). -/
def faceBody (params : List Text) (s : State) : Taken :=
  match params with
  | [wm, wc, ws, wp] =>
    match parseNumber wm, parseNumber wc, parseStyle ws, parseNumber wp with
    | some m, some code, some style, some phase =>
      match asFin 8 m with
      | none => refuse .range s
      | some m =>
        if !(inRange 1 255 code && inRange (-16) 15 phase) then refuse .range s
        else if mountReferenced m s then refuse .inUse s
        else
          let x := (s.opc.mount m).declare code.toNat style phase
          (retrySetup (s.withOpc (s.opc.setMount m x)),
            okWith [field "MOUNT" (decimal m.val), field "STATE" x.state.name])
    | _, _, _, _ => refuse .badSyntax s
  | _ => refuse .badSyntax s

/-- Width entries written from slot index `i` on (R106). -/
def writeWidths : (i : Nat) → List Nat → Vector Nat 95 → Vector Nat 95
  | _, [], v => v
  | i, w :: ws, v => writeWidths (i + 1) ws (v.setIfInBounds i w)

/-- Entries of a mount that are nonzero (R106). -/
def Mount.defined (m : Mount) : Nat := (m.widths.toList.filter fun w => w != 0).length

/-- WIDTHS (R106). -/
def widthsBody (params : List Text) (s : State) : Taken :=
  if params.length < 3 ∨ params.length > 42 then refuse .badSyntax s
  else
    match parseNumbers params with
    | some (m :: first :: vs) =>
      match asFin 8 m with
      | none => refuse .range s
      | some m =>
        if !(inRange 1 95 first && decide (first + vs.length - 1 ≤ 95) && vs.all (inRange 0 96)) then refuse .range s
        else if (s.opc.mount m).state = .empty then refuse .state s
        else if mountReferenced m s then refuse .inUse s
        else
          let x := { s.opc.mount m with
            widths := writeWidths (first.toNat - 1) (vs.map Int.toNat) (s.opc.mount m).widths }
          (s.withOpc (s.opc.setMount m x),
            okWith [field "MOUNT" (decimal m.val), field "DEFINED" (decimal x.defined)])
    | _ => refuse .badSyntax s

/-- UNMOUNT (R107). -/
def unmountBody (params : List Text) (s : State) : Taken :=
  match params with
  | [w] =>
    match parseNumber w with
    | none => refuse .badSyntax s
    | some m =>
      match asFin 8 m with
      | none => refuse .range s
      | some m =>
        if mountReferenced m s then refuse .inUse s
        else
          (s.withOpc (s.opc.setMount m ((s.opc.mount m).declare 0 .plain 0)),
            okWith [field "MOUNT" (decimal m.val), field "STATE" (ascii "EMPTY")])
  | _ => refuse .badSyntax s

/-- The lens table with position `p` written (R109). -/
def Optics.setLens (o : Optics) (p : Fin 8) (size : Nat) : Optics := { o with lenses := o.lenses.set p.val size p.isLt }

/-- LENS (R109, R34). -/
def lensBody (params : List Text) (s : State) : Taken :=
  match params with
  | [wp, ws] =>
    match parseNumber wp, parseNumber ws with
    | some p, some size =>
      match asFin 8 p with
      | none => refuse .range s
      | some p =>
        if !(size == 0 || inRange 10 144 size) then refuse .range s
        else if lensReferenced p s then refuse .inUse s
        else
          (retrySetup (s.withOpc (s.opc.setLens p size.toNat)),
            okWith [field "LENS" (decimal p.val), field "SIZE" (decimal size.toNat)])
    | _, _ => refuse .badSyntax s
  | _ => refuse .badSyntax s

/-- The effect of a SURVEY by the drum's state (R119, R185). -/
def takeSurvey (s : State) : State :=
  match s.opc.drum with
  | .atSpeed => wake (beginSurvey s)
  | .surveying => wake s
  | .spinningUp | .stopped => wake (s.withOpc { s.opc with surveyRequest := true })

/-- SURVEY (R119). -/
def surveyBody (params : List Text) (s : State) : Taken :=
  match params with
  | [] => if s.exc.ptr.isSome then refuse .busy s else (takeSurvey s, ok)
  | _ => refuse .badSyntax s

/-- A held position, or `?` while UNKNOWN (R122). -/
def heldText (h : Option Nat) : Text := orElse [0x3F#8] (h.map decimal)

/-- A mount's field of OPTICS (R122). -/
def Mount.text (i : Nat) (m : Mount) : Text :=
  [0x4D#8] ++ decimal i ++ [0x3D#8] ++
    joinText [0x2F#8] [decimal m.expected, heldText m.observed, m.state.letter]

/-- A door state's name (R122). -/
def DoorState.name : DoorState → Text
  | .unknown => ascii "UNKNOWN"
  | .opened => ascii "OPEN"
  | .closed => ascii "CLOSED"

/-- The reply to OPTICS (R122). -/
def Optics.report (o : Optics) : Text :=
  okWith
    ([field "DOOR" o.door.name, field "DRUM" o.drum.name, field "STRIP" (heldText o.strip.held),
      field "PRISM" (heldText o.prism.held), field "TURRET" (heldText o.turret.held),
      field "SURVEY" (yesNo o.surveyRequest)] ++
     (lensPositions.map fun m => (o.mount m).text m.val) ++
     [field "L" (joinText [0x2C#8] (o.lenses.toList.map decimal))])

/-- OPTICS (R122). -/
def opticsBody (params : List Text) (s : State) : Taken :=
  match params with
  | [] => (s, s.opc.report)
  | _ => refuse .badSyntax s

/-- REST (R184). -/
def restBody (params : List Text) (s : State) : Taken :=
  match params with
  | [] => if restConditions s then (if s.opc.resting then s else restDrum s, ok) else refuse .busy s
  | _ => refuse .badSyntax s

/-- WAKE (R185). -/
def wakeBody (params : List Text) (s : State) : Taken :=
  match params with
  | [] => (wake s, ok)
  | _ => refuse .badSyntax s

end Sys2Proof.Machine
end

