-- ==== Sys2Proof/Machine/ExposureCommands.lean ====
section
/-! DEFINITION. The commands of the Exposure and Film Transport Controllers and the report of the Proof Controller (R130,
R131, R142 to R144, R149, R161, R162, R179). -/

namespace Sys2Proof.Machine

/-! ### STOP and RESUME -/

/-- A HARD stop recorded (R143): an armed countdown is cancelled, and nothing new starts. -/
def stopHard (s : State) : State :=
  withdrawRequests (cancelCountdown .preparing (s.withExc { s.exc with stopReq := some .hard }))

/-- A STOP taken (R143). -/
def takeStop (form : HaltForm) (s : State) : State :=
  if s.exc.st = .stopped then s
  else
    match s.exc.stopReq, form with
    | none, .soft => s.withExc { s.exc with stopReq := some .soft }
    | none, .hard => stopHard s
    | some .soft, .hard => stopHard s
    | some _, _ => s

/-- STOP (R143). -/
def stopBody (params : List Text) (s : State) : Taken :=
  match params with
  | [w] =>
    match parseHalt w with
    | none => refuse .badSyntax s
    | some form => (takeStop form s, ok)
  | _ => refuse .badSyntax s

/-- The STOPPED Exposure Controller resumes (R144); where it waits for a cut, the wait goes on in HELD (R137). -/
def resume (s : State) : State :=
  let s1 := s.withExc { s.exc with stopReq := none }
  if s1.exc.ptr.isNone then s1.withExc (s1.exc.enter (if s1.exc.cutWait then .held else .idle))
  else if s1.exc.moveOut then
    s1.withExc (s1.exc.enter (if s1.ftc.st = .moving then .movingFilm else .held))
  else beginStage s1

/-- RESUME (R144). -/
def resumeBody (params : List Text) (s : State) : Taken :=
  match params with
  | [] => if s.exc.st != .stopped || aborting s then refuse .state s else (resume s, ok)
  | _ => refuse .badSyntax s

/-! ### TEMPS and INTENSITY -/

/-- The reply to TEMPS without parameters at a reading (R130). -/
def Exposure.tempsReport (e : Exposure) (now : Int) : Text :=
  okWith
    [field "T" (joinText [0x2C#8] [signedDecimal e.t1, signedDecimal e.t2, signedDecimal e.t3]),
     field "NOW" (signedDecimal now), field "BAND" (decimal (bandOf e.t1 e.t2 e.t3 now).val)]

/-- TEMPS (R130). -/
def tempsBody (params : List Text) (s : State) : Taken :=
  match params with
  | [] => (s.withReads (s.thermReads + 1), s.exc.tempsReport (Config.reading s.thermReads))
  | [w1, w2, w3] =>
    match parseNumber w1, parseNumber w2, parseNumber w3 with
    | some a, some b, some c =>
      if inRange 0 100 a && inRange 0 100 b && inRange 0 100 c && decide (a < b ∧ b < c) then
        (s.withExc { s.exc with t1 := a, t2 := b, t3 := c }, ok)
      else refuse .range s
    | _, _, _ => refuse .badSyntax s
  | _ => refuse .badSyntax s

/-- A number or ALL lies in a range (R131). -/
def allInRange (low high : Int) : Option Int → Bool
  | none => true
  | some v => inRange low high v

/-- An index is meant by a number or ALL (R131). -/
def meant (v : Option Int) (i : Nat) : Bool :=
  match v with
  | none => true
  | some v => v == (i : Int)

/-- Entries of the intensity table written (R131). -/
def writeIntensity (b p : Option Int) (value : Nat) (t : Vector (Vector Nat 8) 4) : Vector (Vector Nat 8) 4 :=
  t.mapIdx fun i row => row.mapIdx fun k old => if meant b i && meant p k then value else old

/-- INTENSITY (R131). -/
def intensityBody (params : List Text) (s : State) : Taken :=
  match params with
  | [wb, wp] =>
    match parseNumber wb, parseNumber wp with
    | some b, some p =>
      match asFin 4 b, asFin 8 p with
      | some b, some p =>
        (s, okWith [field "BAND" (decimal b.val), field "LENS" (decimal p.val),
          field "VALUE" (decimal ((s.exc.intensity.get b).get p))])
      | _, _ => refuse .range s
    | _, _ => refuse .badSyntax s
  | [wb, wp, wv] =>
    match parseNumberOrAll wb, parseNumberOrAll wp, parseNumber wv with
    | some b, some p, some v =>
      if allInRange 0 3 b && allInRange 0 7 p && inRange 1 255 v then
        (s.withExc { s.exc with intensity := writeIntensity b p v.toNat s.exc.intensity }, ok)
      else refuse .range s
    | _, _, _ => refuse .badSyntax s
  | _ => refuse .badSyntax s

/-! ### The film transport -/

/-- The Exposure Controller has a line IN_PROGRESS whose vertical move has been requested (R145, R149). -/
def moveRequested (s : State) : Bool := s.exc.ptr.isSome && (s.exc.moveOut || s.exc.stage != .move)

/-- A CASSETTE is refused BUSY (R149). -/
def cassetteBusy (s : State) : Bool :=
  s.ftc.st == .moving || s.ftc.st == .cutting || moveRequested s || s.exc.cutWait

/-- A cassette loaded (R149, R156); a line held at film out may have its move requested again (R126). -/
def loadCassette (inches : Nat) (s : State) : State :=
  testLowFilm ((s.withFtc (s.ftc.load inches)).withExc { s.exc with filmOut := false })

/-- CASSETTE (R149). -/
def cassetteBody (params : List Text) (s : State) : Taken :=
  match params with
  | [w] =>
    match parseNumber w with
    | none => refuse .badSyntax s
    | some n =>
      if !inRange 12 2400 n then refuse .range s
      else if s.ftc.sensor ≠ .present then refuse .state s
      else if cassetteBusy s then refuse .busy s
      else
        let s1 := loadCassette n.toNat s
        (s1, okWith [field "CAP" (depthNat s1.ftc.cap), field "GALLEY" (decimal s1.ftc.galley)])
  | _ => refuse .badSyntax s

/-- FEEDCUT (R161). -/
def feedCutBody (params : List Text) (s : State) : Taken :=
  match params with
  | [] =>
    if s.ftc.st = .noCassette ∨ s.ftc.st = .faulted then refuse .state s
    else if s.ftc.st ≠ .ready ∨ s.exc.st ≠ .idle ∨ s.sls.nextExposure.isSome then refuse .busy s
    else (startCut 0 s, ok)
  | _ => refuse .badSyntax s

/-- A cassette sensor's name (R162). -/
def Sensor.name : Sensor → Text
  | .unknown => ascii "UNKNOWN"
  | .present => ascii "PRESENT"
  | .absent => ascii "ABSENT"

/-- The reply to TRANSPORT (R162). -/
def Film.report (f : Film) : Text :=
  okWith
    [field "STATE" f.st.name, field "SENSOR" f.sensor.name, field "CAP" (depthNat f.cap), field "P" (depthNat f.p),
     field "G" (depthNat f.g), field "DMAX" (depthNat f.dmax), field "REM" (depthNat f.remaining),
     field "MARKS" (joinText [0x2C#8] (f.marks.toList.map fun m => orElse dash (m.map depthNat))),
     field "FEED" (signedDecimal f.feed), field "E" (signedDecimal f.e), field "OUT" (yesNo f.filmOut),
     field "LOW" (if f.lowMatched then ascii "MATCHED" else ascii "ARMED"), field "GALLEY" (decimal f.galley)]

/-- TRANSPORT (R162). -/
def transportBody (params : List Text) (s : State) : Taken :=
  match params with
  | [] => (s, s.ftc.report)
  | _ => refuse .badSyntax s

/-! ### The Proof Controller's report -/

/-- A proof mode's name (R179, R190). -/
def ProofMode.name : ProofMode → Text
  | .required => ascii "REQUIRED"
  | .best => ascii "BEST"

/-- The reply to PRINTER (R179). -/
def Proof.report (p : Proof) : Text :=
  okWith
    [field "STATE" p.st.name, field "MODE" p.mode.name, field "GRANT" (decimal p.grant), field "ROOM" (decimal p.room),
     field "OUT" (decimal p.out.length), field "ASK" (yesNo p.ask), field "HEADER" (yesNo p.headerDue),
     field "WAIT" (orElse dash (p.galleyWait.map decimal)), field "GALLEY" (decimal p.galley),
     field "CODE" (orElse dash (p.lastCode.map fun c => decimal c.toNat))]

/-- PRINTER (R179). STATE is the one the event before left, which this event decides afresh after it (DESIGN CHOICE, log 36). -/
def printerBody (params : List Text) (s : State) : Taken :=
  match params with
  | [] => (s, s.prc.report)
  | _ => refuse .badSyntax s

end Sys2Proof.Machine
end

