-- ==== Sys2Proof/Machine/LinkCommands.lean ====
section
/-! DEFINITION. The commands of the Link Interface: RESET, TUNE, CLEAR, STATUS, FAULTS, CLEARFAULT, CAPS (R142, R160, R177,
R180, R186, R190, R192 to R196). -/

namespace Sys2Proof.Machine

/-! ### RESET -/

/-- RESET (R186): its OK is answered, and the reset follows when that reply has been sent. -/
def resetBody (params : List Text) (s : State) : Taken :=
  match params with
  | [] => (s.withLink { s.link with resetTaken := true }, ok)
  | _ => refuse .badSyntax s

/-! ### TUNE -/

/-- The rest interval set (R183): a running timer is started again, or stopped by 0. -/
def Optics.setRest (n : Nat) (o : Optics) : Optics :=
  { o with
    restInterval := n
    restTimer := match o.restTimer with
      | none => none
      | some _ => if n = 0 then none else some n }

/-- One pair of a TUNE takes effect (R114, R132, R154, R156, R158, R169, R177, R183, R190). -/
def tune (s : State) : TuneKey × TuneValue → State
  | (.debounce, .num v _) => s.withOpc { s.opc with debounce := v.toNat }
  | (.density, .num v _) => s.withExc { s.exc with density := v.toNat }
  | (.feed, .num v _) => s.withFtc { s.ftc with feed := v }
  | (.lowFilm, .num v _) => testLowFilm (s.withFtc { s.ftc with lowFilm := v.toNat })
  | (.autoCut, .num v _) => s.withFtc { s.ftc with autoCut := v.toNat }
  | (.margin, .num v _) => s.withFtc { s.ftc with margin := v.toNat }
  | (.grant, .num v _) => s.withPrc { s.prc with grant := v.toNat }
  | (.rest, .num v _) => s.withOpc (s.opc.setRest v.toNat)
  | (.proof, .mode m) => s.withPrc (s.prc.setMode m)
  | _ => s

/-- The pair gives the proof mode. -/
def TuneKey.isProof (k : TuneKey) : Bool := k == .proof

/-- The pairs of a TUNE in the one event (R190): PROOF last, so that a timer it restarts runs for a GRANT given with it
(R177, log 19). -/
def tuneAll (ps : List (TuneKey × TuneValue)) (s : State) : State :=
  ((ps.filter fun p => !p.1.isProof) ++ ps.filter fun p => p.1.isProof).foldl tune s

/-- The settings as TUNE reports them (R190). -/
def tuneReport (s : State) : Text :=
  okWith
    [field "DEBOUNCE" (decimal s.opc.debounce), field "DENSITY" (decimal s.exc.density),
     field "FEED" (signedDecimal s.ftc.feed), field "LOWFILM" (decimal s.ftc.lowFilm),
     field "AUTOCUT" (decimal s.ftc.autoCut), field "MARGIN" (decimal s.ftc.margin), field "PROOF" s.prc.mode.name,
     field "GRANT" (decimal s.prc.grant), field "REST" (decimal s.opc.restInterval)]

/-- TUNE (R190). -/
def tuneBody (params : List Text) (s : State) : Taken :=
  match params with
  | [] => (s, tuneReport s)
  | _ =>
    match parseTune params with
    | none => refuse .badSyntax s
    | some ps => if ps.all tuneInRange then (tuneAll ps s, ok) else refuse .range s

/-! ### CLEAR -/

/-- A flag's name read. -/
def Flag.ofText (t : Text) : Option Flag := Flag.all.find? fun f => f.name == t

/-- A text stands twice among texts. -/
def twice : List Text → Bool
  | [] => false
  | t :: ts => ts.contains t || twice ts

/-- The flags a CLEAR names (R192). -/
def parseClear (params : List Text) : Option (List Flag) :=
  if params == [ascii "ALL"] then some Flag.all
  else if params.isEmpty || twice params then none
  else params.mapM Flag.ofText

/-- Flags cleared one after another (R192). -/
def Link.clearAll (fs : List Flag) (l : Link) : Link := fs.foldl (fun l f => l.clearFlag f) l

/-- CLEAR (R192). -/
def clearBody (params : List Text) (s : State) : Taken :=
  match parseClear params with
  | none => refuse .badSyntax s
  | some fs =>
    let l := s.link.clearAll fs
    (s.withLink l, okWith [field "FLAGS" (flagLetters l.flags)])

/-! ### STATUS, FAULTS, CAPS -/

/-- The reply to STATUS (R195). PR is the Proof Controller's state as the event before left it, which this event decides
afresh after the reply (DESIGN CHOICE, log 36). -/
def statusReport (s : State) : Text :=
  okWith
    [field "C" s.cmp.st.name, field "LO" (decimal s.sls.lastOpened), field "LE" (decimal s.sls.lastExposed),
     field "LP" (decimal s.sls.lastProofed), field "ST" (decimal s.sls.records.length), field "PL" (decimal (freePool s)),
     field "RM" (decimal s.txq.room), field "X" s.exc.st.name, field "F" s.ftc.st.name, field "PR" s.prc.st.name,
     field "D" s.opc.drum.name, field "RS" (yesNo s.opc.resting), field "P" (depthNat s.ftc.p),
     field "G" (depthNat s.ftc.g), field "DM" (depthNat s.ftc.dmax), field "FR" (depthNat s.ftc.remaining),
     field "GF" (decimal s.ftc.galley), field "GP" (decimal s.prc.galley), field "RF" (yesNo s.hyu.referral.isSome),
     field "FL" (flagLetters s.link.flags)]

/-- STATUS (R195). -/
def statusBody (params : List Text) (s : State) : Taken :=
  match params with
  | [] => (s, statusReport s)
  | _ => refuse .badSyntax s

/-- The reply to FAULTS (R193). -/
def Link.faultsReport (l : Link) : Text :=
  okWith
    [field "EXPOSURE" (l.exposure.report ExposureKind.name), field "FILM" (l.film.report FilmKind.name),
     field "PROOF" (l.proof.report ProofKind.name)]

/-- FAULTS (R193). -/
def faultsBody (params : List Text) (s : State) : Taken :=
  match params with
  | [] => (s, s.link.faultsReport)
  | _ => refuse .badSyntax s

/-- The reply to CAPS (R196). -/
def capsReport : Text :=
  ascii "OK PART=410 REV=A TEXTQ=4096 LINES=24 ELEMENTS=2048 LINEELEM=200 WORDCODES=48 DICT=256/3072 MOUNTS=8 LENSES=8" ++
    ascii " SLOTS=95 MEASURE=17280"

/-- CAPS (R196). -/
def capsBody (params : List Text) (s : State) : Taken :=
  match params with
  | [] => (s, capsReport)
  | _ => refuse .badSyntax s

/-! ### CLEARFAULT -/

/-- The fault records (11.5). -/
inductive FaultBlock where
  | exposure | film | proof
  deriving DecidableEq, Repr

/-- A fault record's name read (R194). -/
def FaultBlock.ofText : Text → Option FaultBlock :=
  wordValue [("EXPOSURE", .exposure), ("FILM", .film), ("PROOF", .proof)]

/-- A FAULTED Exposure Controller retries its failed step, or stops where a HARD stop is requested (R142). A line that is
ending is not retried (R145, R146). -/
def exposureRetry (s : State) : State :=
  if s.exc.st = .faulted ∧ s.exc.ending.isNone then
    if s.exc.stopReq = some .hard then enterStopped s
    else if s.exc.stage = .arm then armTest (s.withExc { s.exc with misses := 0 })
    else goElement s
  else s

/-- A survey that waits after a failed shift requests it again (R120). -/
def surveyRetry (s : State) : State :=
  match s.opc.survey with
  | some { pos := p, stage := .failed } => surveyShift p s
  | _ => s

/-- A fault record emptied, and its block's retry (R120, R142, R160, R177, R180, R194). -/
def clearFault (b : FaultBlock) (s : State) : State :=
  match b with
  | .exposure =>
    let s1 := s.withLink { s.link with exposure := .empty }
    surveyRetry (exposureRetry (s1.withOpc { s1.opc with stallHold := false }))
  | .film => retryFilm (s.withLink { s.link with film := .empty })
  | .proof => proofRetry (s.withLink { s.link with proof := .empty })

/-- CLEARFAULT (R194). -/
def clearFaultBody (params : List Text) (s : State) : Taken :=
  match params with
  | [w] =>
    match FaultBlock.ofText w with
    | none => refuse .badSyntax s
    | some b => (clearFault b s, ok)
  | _ => refuse .badSyntax s

end Sys2Proof.Machine
end

