-- ==== Sys2Proof/WellFormed.lean ====
section
/-! DEFINITION. Which operands a command of the table can carry: the limits of a frame (11.1), words free of the space
that separates them (11.3), and the events' own conditions (R187, R188). -/

namespace Sys2Proof

/-- The keywords of R189. -/
def keywords : List Text :=
  ["JOB", "PAIRS", "DICTADD", "DICTDEL", "DICTCLEAR", "DICTGET", "DICTLIST", "DECIDE", "LINE", "ABORT", "FACE", "WIDTHS",
   "UNMOUNT", "LENS", "SURVEY", "OPTICS", "STOP", "RESUME", "TEMPS", "INTENSITY", "CASSETTE", "FEEDCUT", "TRANSPORT",
   "PRINTER", "REST", "WAKE", "RESET", "TUNE", "CLEAR", "STATUS", "FAULTS", "CLEARFAULT", "CAPS"].map ascii

/-- A word of a payload holds no space, the character that ends it. -/
def wordOk (w : Text) : Bool := w.all fun b => b != 0x20#8

/-- The payload length of a record whose first word has `n` characters. -/
def payloadLength (n : Nat) (params : List Text) : Nat := params.foldl (fun k w => k + 1 + w.length) n

/-- Parameters that a command with a keyword of `n` characters can carry in one frame. -/
def paramsOk (n : Nat) (params : List Text) : Bool :=
  params.all wordOk && decide (payloadLength n params ≤ Config.framePayload)

/-- The sum of a frame's bytes without its sync, mod 256 (R187). -/
def frameSum (kind : Byte) (payload : Text) (check : Byte) : Byte :=
  payload.foldl (· + ·) (kind + BitVec.ofNat 8 payload.length) + check

/-- Received bytes that leave the Link Interface inside a frame or hunting and complete no frame: what a gap timer can
end (R187). `got` is the number of bytes after the sync, `need` the frame's length once known. -/
def completesNoFrame : Option (Nat × Nat) → Text → Bool
  | _, [] => true
  | none, b :: bs => if b = 0xA5#8 then completesNoFrame (some (0, 0)) bs else completesNoFrame none bs
  | some (0, _), _ :: bs => completesNoFrame (some (1, 0)) bs
  | some (1, _), b :: bs =>
    if b.toNat > Config.framePayload then completesNoFrame none bs else completesNoFrame (some (2, b.toNat + 3)) bs
  | some (k, need), _ :: bs => if k + 1 = need then false else completesNoFrame (some (k + 1, need)) bs

/-- Bytes of the printer that complete no message of it (R166): each begins none, but for the last, which may begin one. -/
def completesNoMessage : Text → Bool
  | [] => true
  | [b] => b != 0x50#8
  | b :: bs => b != 0x50#8 && b != 0x52#8 && b != 0x46#8 && completesNoMessage bs

/-- The well-formed commands: what a sender can put on the lines of the 410. -/
def Instr.wf : Instr → Bool
  | .powerOnReset _ _ => true
  | .gapTimerExpiry received => completesNoFrame none received
  | .badFrame kind payload check =>
    decide (payload.length ≤ Config.framePayload) &&
      (frameSum kind payload check != 0#8 || (kind != 0x43#8 && kind != 0x54#8))
  | .transmitFrameEnd => true
  | .unknownKeyword word params =>
    wordOk word && !(keywords.contains word) && paramsOk word.length params
  | .text payload => decide (payload.length ≤ Config.framePayload)
  | .textCodeRead => true
  | .referralTimerExpiry => true
  | .job ps => paramsOk 3 ps
  | .pairs ps => paramsOk 5 ps
  | .dictAdd ps => paramsOk 7 ps
  | .dictDel ps => paramsOk 7 ps
  | .dictClear ps => paramsOk 9 ps
  | .dictGet ps => paramsOk 7 ps
  | .dictList ps => paramsOk 8 ps
  | .decideBreak ps => paramsOk 6 ps
  | .line ps => paramsOk 4 ps
  | .abort ps => paramsOk 5 ps
  | .face ps => paramsOk 4 ps
  | .widths ps => paramsOk 6 ps
  | .unmount ps => paramsOk 7 ps
  | .lens ps => paramsOk 4 ps
  | .survey ps => paramsOk 6 ps
  | .optics ps => paramsOk 6 ps
  | .stop ps => paramsOk 4 ps
  | .resume ps => paramsOk 6 ps
  | .temps ps => paramsOk 5 ps
  | .intensity ps => paramsOk 9 ps
  | .cassette ps => paramsOk 8 ps
  | .feedCut ps => paramsOk 7 ps
  | .transport ps => paramsOk 9 ps
  | .printer ps => paramsOk 7 ps
  | .rest ps => paramsOk 4 ps
  | .wake ps => paramsOk 4 ps
  | .reset ps => paramsOk 5 ps
  | .tune ps => paramsOk 4 ps
  | .clear ps => paramsOk 5 ps
  | .status ps => paramsOk 6 ps
  | .faults ps => paramsOk 6 ps
  | .clearFault ps => paramsOk 10 ps
  | .caps ps => paramsOk 4 ps
  | .encoderCount => true
  | .slotArrival => true
  | .photocellSense => true
  | .confirmationWindowExpiry => true
  | .chargeSense => true
  | .opticsOperationComplete _ => true
  | .opticsOperationTimeout _ => true
  | .escapementComplete => true
  | .escapementTimeout => true
  | .doorSensorChange _ => true
  | .doorDebounceExpiry => true
  | .drumIndex _ _ _ => true
  | .spinUpTimerExpiry => true
  | .stallMonitorExpiry => true
  | .restTimerExpiry => true
  | .cassetteSensorChange _ => true
  | .cassetteDebounceExpiry => true
  | .stepperComplete => true
  | .moveTimeout => true
  | .cutterComplete => true
  | .cutterTimeout => true
  | .proofMessageEnd => true
  | .printerReady n => completesNoMessage n.after
  | .printed => true
  | .printerFault c => completesNoMessage c.after
  | .grantTimerExpiry => true
  | .lengthByteAbove250 _ length => decide (Config.framePayload < length.toNat)

end Sys2Proof
end

