-- ==== Sys2Proof/Machine/Link.lean ====
section
/-! DEFINITION. The command link: frames received byte by byte or whole (R187), records taken and answered (R188, R189),
frames sent (R188, R192), and the resets (R186). -/

namespace Sys2Proof.Machine

/-! ### Taking a record -/

/-- Every word of a command is made of the manual's characters and none is empty (R189, step 1). -/
def cleanWords (ws : List Text) : Bool := ws.all cleanWord

/-- What a keyword's command does and replies (R189, steps 3 to 5). -/
def commandBody (k : Keyword) (params : List Text) (s : State) : Taken :=
  match k with
  | .job => jobBody params s
  | .pairs => pairsBody params s
  | .dictAdd => dictAddBody params s
  | .dictDel => dictDelBody params s
  | .dictClear => dictClearBody params s
  | .dictGet => dictGetBody params s
  | .dictList => dictListBody params s
  | .decideBreak => decideBody params s
  | .line => lineBody params s
  | .abort => abortBody params s
  | .face => faceBody params s
  | .widths => widthsBody params s
  | .unmount => unmountBody params s
  | .lens => lensBody params s
  | .survey => surveyBody params s
  | .optics => opticsBody params s
  | .stop => stopBody params s
  | .resume => resumeBody params s
  | .temps => tempsBody params s
  | .intensity => intensityBody params s
  | .cassette => cassetteBody params s
  | .feedCut => feedCutBody params s
  | .transport => transportBody params s
  | .printer => printerBody params s
  | .rest => restBody params s
  | .wake => wakeBody params s
  | .reset => resetBody params s
  | .tune => tuneBody params s
  | .clear => clearBody params s
  | .status => statusBody params s
  | .faults => faultsBody params s
  | .clearFault => clearFaultBody params s
  | .caps => capsBody params s

/-- A record taken (R12, R187, R189): the state it leaves and its reply. -/
def recordBody (r : LinkRecord) (s : State) : Taken :=
  match r with
  | .bad => refuse .badFrame s
  | .text payload => textBody payload s
  | .unknown word params => if cleanWords (word :: params) then refuse .unknown s else refuse .badSyntax s
  | .command k params => if cleanWords params then commandBody k params s else refuse .badSyntax s

/-- A reply put at the end of the reply queue (R188); the reply to a RESET just taken is marked. -/
def addReply (before : Bool) (p : Taken) : State :=
  p.1.withLink { p.1.link with
    replies := p.1.link.replies ++ [{ text := p.2, ofReset := p.1.link.resetTaken && !before }] }

/-- A record taken and answered in one event (R187, R188). -/
def takeRecord (r : LinkRecord) (s : State) : State := addReply s.link.resetTaken (recordBody r s)

/-- The receive buffer replaced. -/
def setRx (rx : Receiver) (s : State) : State := s.withLink { s.link with rx := rx }

/-- A complete frame (R187): not taken after a RESET command, discarded while another waits, taken while the reply queue
has room, else left to wait. -/
def receive (r : LinkRecord) (s : State) : State :=
  if s.link.resetTaken then setRx .hunting s
  else
    match s.link.rx with
    | .waiting _ => s
    | _ =>
      if s.link.replies.length < Config.replyQueue then takeRecord r (setRx .hunting s) else setRx (.waiting r) s

/-! ### Receiving bytes -/

/-- The record of a command's words (R189, step 2). -/
def commandRecord (word : Text) (params : List Text) : LinkRecord :=
  match Keyword.ofText word with
  | some k => .command k params
  | none => .unknown word params

/-- The record of a command payload (11.3). -/
def parseCommand (payload : Text) : LinkRecord :=
  match splitWords payload with
  | [] => .unknown [] []
  | w :: ws => commandRecord w ws

/-- A complete frame read by its kind and check (R187). -/
def frameRecord (kind : Byte) (payload : Text) (check : Byte) : LinkRecord :=
  if frameSum kind payload check != 0#8 then .bad
  else if kind = 0x43#8 then parseCommand payload
  else if kind = 0x54#8 then .text payload
  else .bad

/-- The bytes after the sync, complete as a frame when they are one check longer than kind, length and payload (11.1). -/
def frameOf : Text → Option LinkRecord
  | kind :: len :: rest =>
    if rest.length = len.toNat + 1 then
      some (frameRecord kind (rest.take len.toNat) ((rest.drop len.toNat).headD 0#8))
    else none
  | _ => none

/-- The bytes after the sync hold a length above 250 (R187). -/
def tooLong : Text → Bool
  | [_, len] => decide (Config.framePayload < len.toNat)
  | _ => false

/-- A byte arrives on the command link (R187). -/
def feedByte (s : State) (b : Byte) : State :=
  match s.link.rx with
  | .waiting _ => s
  | .hunting => if b = 0xA5#8 then setRx (.inFrame []) s else s
  | .inFrame got =>
    let got' := got ++ [b]
    if tooLong got' then setRx .hunting s
    else
      match frameOf got' with
      | some r => receive r (setRx .hunting s)
      | none => setRx (.inFrame got') s

/-- Bytes arrive one after another. -/
def feed (bs : Text) (s : State) : State := bs.foldl feedByte s

/-- The gap timer expires (R187): the partial frame is discarded without a reply. -/
def gapExpires (s : State) : State :=
  match s.link.rx with
  | .inFrame _ => setRx .hunting s
  | _ => s

/-! ### Sending -/

/-- Some notice waits (R188). -/
def Link.noticeWaits (l : Link) : Bool := l.refer.isSome || !l.pendingNames.isEmpty

/-- The waiting notice begun: a REFER notice before a FLAG notice, which names the pending names and empties them (R188,
R192). -/
def Link.beginNotice (l : Link) : Link :=
  match l.refer with
  | some t => { l with tx := some (.referNotice t), refer := none, lastSent := .notice }
  | none =>
    if l.pendingNames.isEmpty then l
    else { l with tx := some (.flagNotice l.pendingNames), pendingNames := [], lastSent := .notice }

/-- The oldest reply begun, which leaves the queue (R188). -/
def Link.beginReply (l : Link) : Link :=
  match l.replies with
  | [] => l
  | r :: rs => { l with tx := some (.reply r), replies := rs, lastSent := .reply }

/-- The transmitter chooses its next frame when it is free (R188). -/
def Link.pump (l : Link) : Link :=
  match l.tx with
  | some _ => l
  | none =>
    if l.replies.isEmpty then l.beginNotice
    else if l.noticeWaits && l.lastSent == .reply then l.beginNotice
    else l.beginReply

/-- The transmitter after an event. -/
def pumpTx (s : State) : State := s.withLink s.link.pump

/-- A frame that waited is taken when a reply has left the queue (R187). -/
def takeWaiting (s : State) : State :=
  match s.link.rx with
  | .waiting r =>
    if s.link.replies.length < Config.replyQueue then
      if s.link.resetTaken then setRx .hunting s else takeRecord r (setRx .hunting s)
    else s
  | _ => s

/-- The rest of an event that began in `before`: its reactions, and the transmitter. -/
def finish (before s : State) : State := pumpTx (afterEvent (idleHolds before) s)

/-! ### Frames and messages as bytes -/

/-- A HELLO's cause as it is written (R186). -/
def Cause.name : Cause → Text
  | .power => ascii "POWER"
  | .command => ascii "COMMAND"

/-- The payload of a frame the 410 sends (R75, R186, R189, R192). -/
def TxFrame.payload : TxFrame → Text
  | .hello c => ascii "HELLO cause=" ++ c.name ++ ascii " part=410 rev=A"
  | .reply r => r.text
  | .flagNotice fs => ascii "FLAG" ++ fields (fs.map Flag.name)
  | .referNotice t => t

/-- The kind byte of a frame the 410 sends (11.1). -/
def TxFrame.kind : TxFrame → Byte
  | .reply _ => 0x52
  | _ => 0x4E

/-- The check byte of a frame (11.1). -/
def checkOf (kind : Byte) (payload : Text) : Byte := -(frameSum kind payload 0#8)

/-- The bytes of a frame (11.1). -/
def frameBytes (kind : Byte) (payload : Text) : Text :=
  [0xA5#8, kind, BitVec.ofNat 8 payload.length] ++ payload ++ [checkOf kind payload]

/-- The bytes of a frame the 410 sends (11.1). -/
def TxFrame.bytes (f : TxFrame) : Text := frameBytes f.kind f.payload

/-- The bytes of a message on the proof port (9.2). -/
def PortMessage.bytes : PortMessage → Text
  | .ask => [0x41#8]
  | .row cells => 0x57#8 :: (cells.map fun c => [c.code, BitVec.ofNat 8 c.style.val]).flatten

/-! ### Reset -/

/-- A reset (R186): every block takes its reset values, the straps are sampled, the HELLO is being sent (log 8). The pins
and the thermometer are no state of a block. -/
def resetAll (cause : Cause) (s : State) : State :=
  { pending := s.pending, pins := s.pins, thermReads := s.thermReads
    link := .reset (Rate.ofStraps s.pins.strapB s.pins.strapA) cause
    txq := .reset, cmp := .reset, hyu := .reset, sls := .reset, opc := .reset, exc := .reset, ftc := .reset, prc := .reset }

/-- The frame being sent is the OK of a RESET command (R186). -/
def TxFrame.ofReset : TxFrame → Bool
  | .reply r => r.ofReset
  | _ => false

/-- The transmitter ends its frame (R186, R188): after the OK of a RESET the reset takes effect; otherwise the next frame is
begun, and a frame that waited for reply room is taken. -/
def frameEnds (s : State) : State :=
  match s.link.tx with
  | none => s
  | some f =>
    if f.ofReset then resetAll .command s
    else finish s (takeWaiting (pumpTx (s.withLink { s.link with tx := none })))

end Sys2Proof.Machine
end

