-- ==== Sys2Proof/Machine/LinkEvents.lean ====
section
/-! DEFINITION. The commands and events of the Link Interface (R186 to R196). -/

namespace Sys2Proof.Machine

/-- A complete frame arrives on the command link and is taken, or waits, or is discarded (R187, log 7). -/
def recordEvent (r : LinkRecord) (s : State) : Host.Outcome State Fault Refusal := .next (finish s (receive r s))

/-- An event that leaves `t`, with all that follows from it in the same event. -/
def event (s t : State) : Host.Outcome State Fault Refusal := .next (finish s t)

/-- POWER_ON_RESET (R186): the straps stand at the levels given and are sampled, and every block is reset. -/
def execPowerOnReset (strapB strapA : Bool) (s : State) : Host.Outcome State Fault Refusal :=
  .next (resetAll .power (s.withPins { s.pins with strapB := strapB, strapA := strapA }))

/-- GAP_TIMER_EXPIRY (R187): the bytes received, then the timer's expiry. -/
def execGapTimerExpiry (received : Text) (s : State) : Host.Outcome State Fault Refusal :=
  event s (gapExpires (feed received s))

/-- BAD_FRAME (R187). -/
def execBadFrame (kind : Byte) (payload : Text) (check : Byte) (s : State) : Host.Outcome State Fault Refusal :=
  recordEvent (frameRecord kind payload check) s

/-- TRANSMIT_FRAME_END (R186, R188). -/
def execTransmitFrameEnd (s : State) : Host.Outcome State Fault Refusal := .next (frameEnds s)

/-- UNKNOWN_KEYWORD (R189). -/
def execUnknownKeyword (word : Text) (params : List Text) (s : State) : Host.Outcome State Fault Refusal :=
  recordEvent (commandRecord word params) s

/-- LENGTH_BYTE_ABOVE_250 (R187): sync, kind and length arrive. -/
def execLengthByteAbove250 (kind length : Byte) (s : State) : Host.Outcome State Fault Refusal :=
  event s (feed [0xA5#8, kind, length] s)

/-- RESET (R186). -/
def execReset (params : List Text) (s : State) : Host.Outcome State Fault Refusal :=
  recordEvent (.command .reset params) s

/-- TUNE (R190). -/
def execTune (params : List Text) (s : State) : Host.Outcome State Fault Refusal :=
  recordEvent (.command .tune params) s

/-- CLEAR (R192). -/
def execClear (params : List Text) (s : State) : Host.Outcome State Fault Refusal :=
  recordEvent (.command .clear params) s

/-- STATUS (R195). -/
def execStatus (params : List Text) (s : State) : Host.Outcome State Fault Refusal :=
  recordEvent (.command .status params) s

/-- FAULTS (R193). -/
def execFaults (params : List Text) (s : State) : Host.Outcome State Fault Refusal :=
  recordEvent (.command .faults params) s

/-- CLEARFAULT (R194). -/
def execClearFault (params : List Text) (s : State) : Host.Outcome State Fault Refusal :=
  recordEvent (.command .clearFault params) s

/-- CAPS (R196). -/
def execCaps (params : List Text) (s : State) : Host.Outcome State Fault Refusal :=
  recordEvent (.command .caps params) s

end Sys2Proof.Machine
end

