-- ==== Sys2Proof/Machine/CompositionEvents.lean ====
section
/-! DEFINITION. The commands and events of the text queue, the composer, the Hyphenation Unit and the line store (chapters 2
to 5). -/

namespace Sys2Proof.Machine

/-- TEXT (R12). -/
def execText (payload : Text) (s : State) : Host.Outcome State Fault Refusal := recordEvent (.text payload) s

/-- The composer takes the next code where it is READING and free to take one (R13, R32). -/
def codeRead (s : State) : State := if s.cmp.st = .reading ∧ s.cmp.task = none then takeCode s else s

/-- TEXT_CODE_READ (R13). -/
def execTextCodeRead (s : State) : Host.Outcome State Fault Refusal := event s (codeRead s)

/-- The referral timer runs out (R79): the own choice acts. -/
def referralExpires (s : State) : State :=
  match s.hyu.timer, s.hyu.referral with
  | some _, some r => endReferral .lapsed (r.breakAt r.own) [.referred, .lapsed] s
  | _, _ => s

/-- REFERRAL_TIMER_EXPIRY (R79). -/
def execReferralTimerExpiry (s : State) : Host.Outcome State Fault Refusal := event s (referralExpires s)

/-- JOB (R29, R30). -/
def execJob (params : List Text) (s : State) : Host.Outcome State Fault Refusal :=
  recordEvent (.command .job params) s

/-- PAIRS (R62). -/
def execPairs (params : List Text) (s : State) : Host.Outcome State Fault Refusal :=
  recordEvent (.command .pairs params) s

/-- DICTADD (R64). -/
def execDictAdd (params : List Text) (s : State) : Host.Outcome State Fault Refusal :=
  recordEvent (.command .dictAdd params) s

/-- DICTDEL (R65). -/
def execDictDel (params : List Text) (s : State) : Host.Outcome State Fault Refusal :=
  recordEvent (.command .dictDel params) s

/-- DICTCLEAR (R65). -/
def execDictClear (params : List Text) (s : State) : Host.Outcome State Fault Refusal :=
  recordEvent (.command .dictClear params) s

/-- DICTGET (R66). -/
def execDictGet (params : List Text) (s : State) : Host.Outcome State Fault Refusal :=
  recordEvent (.command .dictGet params) s

/-- DICTLIST (R66). -/
def execDictList (params : List Text) (s : State) : Host.Outcome State Fault Refusal :=
  recordEvent (.command .dictList params) s

/-- DECIDE (R77, R78, R80). -/
def execDecideBreak (params : List Text) (s : State) : Host.Outcome State Fault Refusal :=
  recordEvent (.command .decideBreak params) s

/-- LINE (R95). -/
def execLine (params : List Text) (s : State) : Host.Outcome State Fault Refusal :=
  recordEvent (.command .line params) s

/-- ABORT (R97, R99). -/
def execAbort (params : List Text) (s : State) : Host.Outcome State Fault Refusal :=
  recordEvent (.command .abort params) s

end Sys2Proof.Machine
end

