-- ==== Sys2Proof/Machine/OpticsEvents.lean ====
section
/-! DEFINITION. The commands and events of the Optics Controller: tables, mechanisms, door, survey, drum, rest (chapters 6 and
10). -/

namespace Sys2Proof.Machine

/-- FACE (R105). -/
def execFace (params : List Text) (s : State) : Host.Outcome State Fault Refusal :=
  recordEvent (.command .face params) s

/-- WIDTHS (R106). -/
def execWidths (params : List Text) (s : State) : Host.Outcome State Fault Refusal :=
  recordEvent (.command .widths params) s

/-- UNMOUNT (R107). -/
def execUnmount (params : List Text) (s : State) : Host.Outcome State Fault Refusal :=
  recordEvent (.command .unmount params) s

/-- LENS (R109). -/
def execLens (params : List Text) (s : State) : Host.Outcome State Fault Refusal :=
  recordEvent (.command .lens params) s

/-- SURVEY (R119). -/
def execSurvey (params : List Text) (s : State) : Host.Outcome State Fault Refusal :=
  recordEvent (.command .survey params) s

/-- OPTICS (R122). -/
def execOptics (params : List Text) (s : State) : Host.Outcome State Fault Refusal :=
  recordEvent (.command .optics params) s

/-- REST (R184). -/
def execRest (params : List Text) (s : State) : Host.Outcome State Fault Refusal :=
  recordEvent (.command .rest params) s

/-- WAKE (R185). -/
def execWake (params : List Text) (s : State) : Host.Outcome State Fault Refusal :=
  recordEvent (.command .wake params) s

/-- OPTICS_OPERATION_COMPLETE (R111). -/
def execOpticsOperationComplete (m : Mechanism) (s : State) : Host.Outcome State Fault Refusal := event s (mechComplete m s)

/-- OPTICS_OPERATION_TIMEOUT (R113). -/
def execOpticsOperationTimeout (m : Mechanism) (s : State) : Host.Outcome State Fault Refusal := event s (mechTimeout m s)

/-- DOOR_SENSOR_CHANGE (R114). -/
def execDoorSensorChange (level : DoorLevel) (s : State) : Host.Outcome State Fault Refusal := event s (doorLevel level s)

/-- DOOR_DEBOUNCE_EXPIRY (R114 to R116). -/
def execDoorDebounceExpiry (s : State) : Host.Outcome State Fault Refusal := event s (doorTake s)

/-- DRUM_INDEX (R118, R181, R182). -/
def execDrumIndex (interval : Nat) (upper lower : Byte) (s : State) : Host.Outcome State Fault Refusal :=
  event s (indexArrives interval upper lower s)

/-- The spin-up timer runs out while it runs (R181). -/
def spinUpExpires (s : State) : State := if s.opc.spinTimer then drumStall s else s

/-- SPIN_UP_TIMER_EXPIRY (R181). -/
def execSpinUpTimerExpiry (s : State) : Host.Outcome State Fault Refusal := event s (spinUpExpires s)

/-- The stall monitor's timer runs out while it runs (R182). -/
def monitorExpires (s : State) : State := if s.opc.stallMonitor then drumStall s else s

/-- STALL_MONITOR_EXPIRY (R182). -/
def execStallMonitorExpiry (s : State) : Host.Outcome State Fault Refusal := event s (monitorExpires s)

/-- The rest timer runs out while it runs (R184). -/
def restExpires (s : State) : State := if s.opc.restTimer.isSome then restDrum s else s

/-- REST_TIMER_EXPIRY (R184). -/
def execRestTimerExpiry (s : State) : Host.Outcome State Fault Refusal := event s (restExpires s)

end Sys2Proof.Machine
end

