-- ==== Sys2Proof/Machine/ExposureEvents.lean ====
section
/-! DEFINITION. The commands and events of the Exposure Controller (chapter 7). -/

namespace Sys2Proof.Machine

/-- STOP (R143). -/
def execStop (params : List Text) (s : State) : Host.Outcome State Fault Refusal :=
  recordEvent (.command .stop params) s

/-- RESUME (R144). -/
def execResume (params : List Text) (s : State) : Host.Outcome State Fault Refusal :=
  recordEvent (.command .resume params) s

/-- TEMPS (R130). -/
def execTemps (params : List Text) (s : State) : Host.Outcome State Fault Refusal :=
  recordEvent (.command .temps params) s

/-- INTENSITY (R131). -/
def execIntensity (params : List Text) (s : State) : Host.Outcome State Fault Refusal :=
  recordEvent (.command .intensity params) s

/-- An encoder count arrives (R10, R134): an armed countdown falls by one, and at 0 the slot arrives in the same event. -/
def countArrives (s : State) : State :=
  let s1 := s.withPins { s.pins with encoder := (s.pins.encoder + 1) % Config.revolution }
  match s1.exc.armed with
  | none => s1
  | some a =>
    let s2 := s1.withExc { s1.exc with armed := some { a with count := a.count - 1 } }
    if a.count ≤ 1 then slotArrives s2 else s2

/-- ENCODER_COUNT (R134). -/
def execEncoderCount (s : State) : Host.Outcome State Fault Refusal := event s (countArrives s)

/-- The counts that remain to the armed slot have come in, and the slot arrives (R135, log 5). -/
def remainingCounts (s : State) : State :=
  match s.exc.armed with
  | none => s
  | some a =>
    let s1 := s.withPins { s.pins with encoder := (s.pins.encoder + a.count) % Config.revolution }
    slotArrives (s1.withExc { s1.exc with armed := some { a with count := 0 } })

/-- SLOT_ARRIVAL (R135). -/
def execSlotArrival (s : State) : Host.Outcome State Fault Refusal := event s (remainingCounts s)

/-- A photocell sense (R136): discarded outside a window. -/
def photocell (s : State) : State := if s.exc.st = .flashing then confirmFlash s else s

/-- PHOTOCELL_SENSE (R136). -/
def execPhotocellSense (s : State) : Host.Outcome State Fault Refusal := event s (photocell s)

/-- The confirmation window ends without a sense (R136): the FLASH fault. -/
def windowEnds (s : State) : State := if s.exc.st = .flashing then lineFault .flash .arm s else s

/-- CONFIRMATION_WINDOW_EXPIRY (R136). -/
def execConfirmationWindowExpiry (s : State) : Host.Outcome State Fault Refusal := event s (windowEnds s)

/-- The charge sense (R133). -/
def charged (s : State) : State := if s.exc.lamp = .charging then s.withExc { s.exc with lamp := .charged } else s

/-- CHARGE_SENSE (R133). -/
def execChargeSense (s : State) : Host.Outcome State Fault Refusal := event s (charged s)

/-- ESCAPEMENT_COMPLETE (R129). -/
def execEscapementComplete (s : State) : Host.Outcome State Fault Refusal := event s (escComplete s)

/-- ESCAPEMENT_TIMEOUT (R129). -/
def execEscapementTimeout (s : State) : Host.Outcome State Fault Refusal := event s (escTimeout s)

end Sys2Proof.Machine
end

