-- ==== Sys2Proof/Machine/FilmEvents.lean ====
section
/-! DEFINITION. The commands and events of the Film Transport Controller (chapter 8). -/

namespace Sys2Proof.Machine

/-- CASSETTE (R149). -/
def execCassette (params : List Text) (s : State) : Host.Outcome State Fault Refusal :=
  recordEvent (.command .cassette params) s

/-- FEEDCUT (R161). -/
def execFeedCut (params : List Text) (s : State) : Host.Outcome State Fault Refusal :=
  recordEvent (.command .feedCut params) s

/-- TRANSPORT (R162). -/
def execTransport (params : List Text) (s : State) : Host.Outcome State Fault Refusal :=
  recordEvent (.command .transport params) s

/-- CASSETTE_SENSOR_CHANGE (R148). -/
def execCassetteSensorChange (level : CassetteLevel) (s : State) : Host.Outcome State Fault Refusal :=
  event s (cassetteLevel level s)

/-- CASSETTE_DEBOUNCE_EXPIRY (R148, R150). -/
def execCassetteDebounceExpiry (s : State) : Host.Outcome State Fault Refusal := event s (cassetteTake s)

/-- STEPPER_COMPLETE (R153, R156, R159). -/
def execStepperComplete (s : State) : Host.Outcome State Fault Refusal := event s (stepperDone s)

/-- MOVE_TIMEOUT (R156). -/
def execMoveTimeout (s : State) : Host.Outcome State Fault Refusal := event s (moveJams s)

/-- CUTTER_COMPLETE (R159). -/
def execCutterComplete (s : State) : Host.Outcome State Fault Refusal := event s (cutterDone s)

/-- CUTTER_TIMEOUT (R159). -/
def execCutterTimeout (s : State) : Host.Outcome State Fault Refusal := event s (cutterFails s)

end Sys2Proof.Machine
end

