-- ==== Sys2Proof/Machine/ProofEvents.lean ====
section
/-! DEFINITION. The commands and events of the Proof Controller (chapter 9). -/

namespace Sys2Proof.Machine

/-- PRINTER (R179). -/
def execPrinter (params : List Text) (s : State) : Host.Outcome State Fault Refusal :=
  recordEvent (.command .printer params) s

/-- A message on the proof port ends, and the port is free (R166). -/
def portFree (s : State) : State := s.withPrc { s.prc with port := none }

/-- PROOF_MESSAGE_END (R166). -/
def execProofMessageEnd (s : State) : Host.Outcome State Fault Refusal := event s (portFree s)

/-- A byte of the printer read (R166): one that completes a message is an event, with all that follows from it; any other
only stands in the message half received, or is discarded. -/
def byteRead (s : State) (b : Byte) : State :=
  if completesMessage b s then finish s (printerByte s b) else printerByte s b

/-- Bytes of the printer read one after another, each message an event of its own (R166, log 24). -/
def printerBytes (bs : Text) (s : State) : State := bs.foldl byteRead s

/-- PRINTER_READY (R168): the bytes that complete the READY, and those that follow it (R166). -/
def execPrinterReady (n : PrinterMessage) (s : State) : Host.Outcome State Fault Refusal :=
  .next (printerBytes (messageRest .ready n.value s ++ n.after) s)

/-- PRINTED (R170). -/
def execPrinted (s : State) : Host.Outcome State Fault Refusal :=
  .next (printerBytes [0x50#8] s)

/-- PRINTER_FAULT (R176): the bytes that complete the FAULT, and those that follow it (R166). -/
def execPrinterFault (c : PrinterMessage) (s : State) : Host.Outcome State Fault Refusal :=
  .next (printerBytes (messageRest .fault c.value s ++ c.after) s)

/-- GRANT_TIMER_EXPIRY (R169, R174 to R176, R178). -/
def execGrantTimerExpiry (s : State) : Host.Outcome State Fault Refusal := event s (grantExpires s)

end Sys2Proof.Machine
end

