-- ==== Sys2Proof/Machine/Dispatch.lean ====
section
/-! DEFINITION. One arm per command of the table, each one direct call of its meaning. -/

namespace Sys2Proof.Machine

/-- The effect of a command on everything but the queue of waiting commands. -/
def exec (i : Instr) (s : State) : Host.Outcome State Fault Refusal :=
  match i with
  | .powerOnReset strapB strapA => Sys2Proof.Machine.execPowerOnReset strapB strapA s
  | .gapTimerExpiry received => Sys2Proof.Machine.execGapTimerExpiry received s
  | .badFrame kind payload check => Sys2Proof.Machine.execBadFrame kind payload check s
  | .transmitFrameEnd => Sys2Proof.Machine.execTransmitFrameEnd s
  | .unknownKeyword word params => Sys2Proof.Machine.execUnknownKeyword word params s
  | .text payload => Sys2Proof.Machine.execText payload s
  | .textCodeRead => Sys2Proof.Machine.execTextCodeRead s
  | .referralTimerExpiry => Sys2Proof.Machine.execReferralTimerExpiry s
  | .job params => Sys2Proof.Machine.execJob params s
  | .pairs params => Sys2Proof.Machine.execPairs params s
  | .dictAdd params => Sys2Proof.Machine.execDictAdd params s
  | .dictDel params => Sys2Proof.Machine.execDictDel params s
  | .dictClear params => Sys2Proof.Machine.execDictClear params s
  | .dictGet params => Sys2Proof.Machine.execDictGet params s
  | .dictList params => Sys2Proof.Machine.execDictList params s
  | .decideBreak params => Sys2Proof.Machine.execDecideBreak params s
  | .line params => Sys2Proof.Machine.execLine params s
  | .abort params => Sys2Proof.Machine.execAbort params s
  | .face params => Sys2Proof.Machine.execFace params s
  | .widths params => Sys2Proof.Machine.execWidths params s
  | .unmount params => Sys2Proof.Machine.execUnmount params s
  | .lens params => Sys2Proof.Machine.execLens params s
  | .survey params => Sys2Proof.Machine.execSurvey params s
  | .optics params => Sys2Proof.Machine.execOptics params s
  | .stop params => Sys2Proof.Machine.execStop params s
  | .resume params => Sys2Proof.Machine.execResume params s
  | .temps params => Sys2Proof.Machine.execTemps params s
  | .intensity params => Sys2Proof.Machine.execIntensity params s
  | .cassette params => Sys2Proof.Machine.execCassette params s
  | .feedCut params => Sys2Proof.Machine.execFeedCut params s
  | .transport params => Sys2Proof.Machine.execTransport params s
  | .printer params => Sys2Proof.Machine.execPrinter params s
  | .rest params => Sys2Proof.Machine.execRest params s
  | .wake params => Sys2Proof.Machine.execWake params s
  | .reset params => Sys2Proof.Machine.execReset params s
  | .tune params => Sys2Proof.Machine.execTune params s
  | .clear params => Sys2Proof.Machine.execClear params s
  | .status params => Sys2Proof.Machine.execStatus params s
  | .faults params => Sys2Proof.Machine.execFaults params s
  | .clearFault params => Sys2Proof.Machine.execClearFault params s
  | .caps params => Sys2Proof.Machine.execCaps params s
  | .encoderCount => Sys2Proof.Machine.execEncoderCount s
  | .slotArrival => Sys2Proof.Machine.execSlotArrival s
  | .photocellSense => Sys2Proof.Machine.execPhotocellSense s
  | .confirmationWindowExpiry => Sys2Proof.Machine.execConfirmationWindowExpiry s
  | .chargeSense => Sys2Proof.Machine.execChargeSense s
  | .opticsOperationComplete m => Sys2Proof.Machine.execOpticsOperationComplete m s
  | .opticsOperationTimeout m => Sys2Proof.Machine.execOpticsOperationTimeout m s
  | .escapementComplete => Sys2Proof.Machine.execEscapementComplete s
  | .escapementTimeout => Sys2Proof.Machine.execEscapementTimeout s
  | .doorSensorChange level => Sys2Proof.Machine.execDoorSensorChange level s
  | .doorDebounceExpiry => Sys2Proof.Machine.execDoorDebounceExpiry s
  | .drumIndex interval upper lower => Sys2Proof.Machine.execDrumIndex interval upper lower s
  | .spinUpTimerExpiry => Sys2Proof.Machine.execSpinUpTimerExpiry s
  | .stallMonitorExpiry => Sys2Proof.Machine.execStallMonitorExpiry s
  | .restTimerExpiry => Sys2Proof.Machine.execRestTimerExpiry s
  | .cassetteSensorChange level => Sys2Proof.Machine.execCassetteSensorChange level s
  | .cassetteDebounceExpiry => Sys2Proof.Machine.execCassetteDebounceExpiry s
  | .stepperComplete => Sys2Proof.Machine.execStepperComplete s
  | .moveTimeout => Sys2Proof.Machine.execMoveTimeout s
  | .cutterComplete => Sys2Proof.Machine.execCutterComplete s
  | .cutterTimeout => Sys2Proof.Machine.execCutterTimeout s
  | .proofMessageEnd => Sys2Proof.Machine.execProofMessageEnd s
  | .printerReady n => Sys2Proof.Machine.execPrinterReady n s
  | .printed => Sys2Proof.Machine.execPrinted s
  | .printerFault c => Sys2Proof.Machine.execPrinterFault c s
  | .grantTimerExpiry => Sys2Proof.Machine.execGrantTimerExpiry s
  | .lengthByteAbove250 kind length => Sys2Proof.Machine.execLengthByteAbove250 kind length s

end Sys2Proof.Machine
end

