-- ==== Sys2Proof/Safety.lean ====
section
/-! DEFINITION. What a safe state of the 410 is, the promises the manual makes of every state, and the words the statements
are written in: when a record is taken at once, what a reply adds, when nothing more follows. -/

namespace Sys2Proof.Machine

/-! ### The words of the statements -/

/-- A complete frame waits in the receive buffer (R187). -/
def Receiver.holdsFrame : Receiver → Bool
  | .waiting _ => true
  | _ => false

/-- Part of a frame has come in (R187). -/
def Receiver.midFrame : Receiver → Bool
  | .inFrame _ => true
  | _ => false

/-- A record that arrives is taken in the same event (R187): no RESET command has been taken, no frame waits, and the reply
queue has room. -/
def LinkReady (s : State) : Prop :=
  s.link.resetTaken = false ∧ s.link.rx.holdsFrame = false ∧ s.link.replies.length < Config.replyQueue

/-- The state once a complete frame has left the receive buffer. -/
def heard (s : State) : State := setRx .hunting s

/-- The state with a reply at the end of the reply queue (R188). -/
def answered (reply : Text) (s : State) : State :=
  s.withLink { s.link with replies := s.link.replies ++ [{ text := reply, ofReset := false }] }

/-- The record a command of the table brings to the Link Interface, where it brings one (log 7). -/
def recordOf : Instr → Option LinkRecord
  | .badFrame kind payload check => some (frameRecord kind payload check)
  | .unknownKeyword word params => some (commandRecord word params)
  | .text payload => some (.text payload)
  | .job ps => some (.command .job ps)
  | .pairs ps => some (.command .pairs ps)
  | .dictAdd ps => some (.command .dictAdd ps)
  | .dictDel ps => some (.command .dictDel ps)
  | .dictClear ps => some (.command .dictClear ps)
  | .dictGet ps => some (.command .dictGet ps)
  | .dictList ps => some (.command .dictList ps)
  | .decideBreak ps => some (.command .decideBreak ps)
  | .line ps => some (.command .line ps)
  | .abort ps => some (.command .abort ps)
  | .face ps => some (.command .face ps)
  | .widths ps => some (.command .widths ps)
  | .unmount ps => some (.command .unmount ps)
  | .lens ps => some (.command .lens ps)
  | .survey ps => some (.command .survey ps)
  | .optics ps => some (.command .optics ps)
  | .stop ps => some (.command .stop ps)
  | .resume ps => some (.command .resume ps)
  | .temps ps => some (.command .temps ps)
  | .intensity ps => some (.command .intensity ps)
  | .cassette ps => some (.command .cassette ps)
  | .feedCut ps => some (.command .feedCut ps)
  | .transport ps => some (.command .transport ps)
  | .printer ps => some (.command .printer ps)
  | .rest ps => some (.command .rest ps)
  | .wake ps => some (.command .wake ps)
  | .reset ps => some (.command .reset ps)
  | .tune ps => some (.command .tune ps)
  | .clear ps => some (.command .clear ps)
  | .status ps => some (.command .status ps)
  | .faults ps => some (.command .faults ps)
  | .clearFault ps => some (.command .clearFault ps)
  | .caps ps => some (.command .caps ps)
  | _ => none

/-- Nothing follows from the state as it stands: no reaction, no spin-up, no change of the rest timer, nothing for the Proof
Controller to do. -/
def Settled (s : State) : Prop := react s = none ∧ spinUp s = s ∧ restService s = s ∧ proofService s = s

/-- The value a list of TUNE pairs gives a numeric key. -/
def tunedTo (k : TuneKey) (ps : List (TuneKey × TuneValue)) : Option Int :=
  ps.findSome? fun p =>
    match p with
    | (k', .num v _) => if k' = k then some v else none
    | _ => none

/-- The value a list of JOB pairs gives a numeric key. -/
def jobGives (k : JobKey) (ps : List (JobKey × JobValue)) : Option Int :=
  ps.findSome? fun p =>
    match p with
    | (k', .num v) => if k' = k then some v else none
    | _ => none

/-- The proof mode a list of TUNE pairs gives. -/
def tunedMode (ps : List (TuneKey × TuneValue)) : Option ProofMode :=
  ps.findSome? fun p =>
    match p with
    | (.proof, .mode m) => some m
    | _ => none

/-- The message of the printer that the last of these bytes begins, where they complete none (R166). -/
def halfAfter (bs : Text) : Option PrinterHead :=
  if bs.getLast? = some 0x52#8 then some .ready else if bs.getLast? = some 0x46#8 then some .fault else none

/-! ### The promises -/

/-- A mark lies between the galley top and the deepest position (R153). -/
def markSafe (g dmax : Nat) : Option Nat → Prop
  | none => True
  | some v => g ≤ v ∧ v ≤ dmax

/-- The promises about the film (R153, R155): G ≤ P ≤ Dmax ≤ capacity, every mark between G and Dmax, the accumulator
strictly between −1,000,000 and +1,000,000. -/
def Film.Safe (f : Film) : Prop :=
  f.g ≤ f.p ∧ f.p ≤ f.dmax ∧ f.dmax ≤ f.cap ∧ (∀ k : Fin 4, markSafe f.g f.dmax (f.marks.get k)) ∧
    -1000000 < f.e ∧ f.e < 1000000

/-- The promises about the film, with what makes each of them last through a step: the targets of the move in flight, of the
failed step and of the cut lie on the galley's film, and the accumulator value that a move will bring is in its range. -/
def Film.Kept (f : Film) : Prop :=
  f.Safe ∧
    (∀ m p, f.op = some (.lineMove m p) → f.g ≤ m.target ∧ m.target ≤ f.cap ∧ -1000000 < p.newE ∧ p.newE < 1000000) ∧
    (∀ p, f.op = some (.margin p) → -1000000 < p.newE ∧ p.newE < 1000000) ∧
    (∀ m, f.failed = some (.lineMove m) → f.g ≤ m.target ∧ m.target ≤ f.cap) ∧
    (∀ c, f.cut = some c → f.g ≤ c.target ∧ c.target ≤ f.cap)

/-- The promises about the buffers (R11, R87, R88, R188, 9.1): text queue, reply queue, records, elements, outstanding rows,
room. -/
def BuffersSafe (s : State) : Prop :=
  s.txq.bytes.length ≤ Config.textQueue ∧ s.link.replies.length ≤ Config.replyQueue ∧
    s.sls.records.length ≤ Config.storeRecords ∧ usedElements s ≤ Config.poolElements ∧
    s.prc.out.length ≤ Config.printerRows ∧ s.prc.room ≤ Config.printerRows

/-- A countdown runs only in ARMED, with the door CLOSED and the drum AT_SPEED (R134, R135). -/
def FlashSafe (s : State) : Prop :=
  s.exc.armed.isSome → s.exc.st = .armed ∧ s.opc.door = .closed ∧ s.opc.drum = .atSpeed

/-- A line set within the ranges of R6 and R20: the available width is 240 set steps or more. -/
def LineSet.InRange (l : LineSet) : Prop :=
  240 ≤ l.measure ∧ l.measure ≤ 17280 ∧ l.left + l.right + 240 ≤ l.measure ∧ -2880 ≤ l.leading ∧ l.leading ≤ 2880

/-- The line parameters of the composer are in range (R6, R20). -/
def LineSetsInRange (s : State) : Prop :=
  s.cmp.following.InRange ∧ ∀ l, s.cmp.line = some l → l.set.InRange

/-- The glue, as it stands and as the pending set will leave it, is in order (R30). -/
def GlueInOrder (s : State) : Prop :=
  s.cmp.job.glueOk = true ∧ (s.cmp.job.apply s.cmp.pend).glueOk = true

/-- The ladder count is below LADDER, or LADDER is 0 (R44). -/
def Composer.belowLadder (c : Composer) : Prop := c.job.ladder = 0 ∨ c.ladder < c.job.ladder

/-- A record of this break kind raises the ladder count (R49). -/
def BreakKind.hyphenated : BreakKind → Bool
  | .hyphen | .hardHyphen => true
  | _ => false

/-- The step in hand may bring a hyphen-ended record. -/
def Task.mayHyphenate : Task → Bool
  | .brk _ _ _ => true
  | .decision _ => true
  | .offer r _ => r.brk.hyphenated
  | _ => false

/-- The ladder count is at most 255 and does not exceed a nonzero LADDER (R49), and a step that may bring a further
hyphen-ended record stands only below it. -/
def LadderKept (s : State) : Prop :=
  s.cmp.ladder ≤ 255 ∧ (s.cmp.job.ladder = 0 ∨ s.cmp.ladder ≤ s.cmp.job.ladder) ∧
    ∀ t, s.cmp.task = some t → t.mayHyphenate = true → s.cmp.belowLadder

/-- A dictionary entry is well made (R64): 2 to 24 letters, positions strictly ascending between them. -/
def DictEntry.WellMade (e : DictEntry) : Prop :=
  2 ≤ e.word.length ∧ e.word.length ≤ 24 ∧ e.positions.Pairwise (· < ·) ∧
    ∀ p ∈ e.positions, 1 ≤ p ∧ p < e.word.length

/-- The dictionary is as R63 promises: in ascending order without duplicates, within its two limits, its entries well
made. -/
def Hyphenation.DictKept (h : Hyphenation) : Prop :=
  (h.dict.map DictEntry.word).Pairwise (fun a b => wordBefore a b = true) ∧ h.dict.length ≤ Config.dictEntries ∧
    h.lettersUsed ≤ Config.dictLetters ∧ ∀ e ∈ h.dict, e.WellMade

/-- A name waits for a notice only while its flag is set (R192). -/
def PendingNamesSet (s : State) : Prop := ∀ f ∈ s.link.pendingNames, f ∈ s.link.flags

/-- A safe state. -/
def Safe (s : State) : Prop :=
  s.ftc.Kept ∧ BuffersSafe s ∧ FlashSafe s ∧ LineSetsInRange s ∧ GlueInOrder s ∧ LadderKept s ∧ s.hyu.DictKept ∧
    PendingNamesSet s

end Sys2Proof.Machine
end

