-- ==== Sys2Proof/Certificates/Slice0/Obligations.lean ====
section
/-! DEFINITION. The statements for the provers, in the order of the manual's chapters as far as the commands go. `finish s u`
is an event that began in `s`, once the command's own effect has left `u`: what follows in the same event, and the
transmitter. -/

open Sys2Proof Sys2Proof.Machine

/-! ### The queue and what every command shares -/

/-- The command at the front of the queue takes effect with the queue's rest; an empty queue leaves the 410 as it is (the
model's choice, log 2). -/
def Obligations.StepTakesTheFrontCommand : Prop :=
  ∀ (s : State) (c : Instr) (cs : List Instr),
    step (s.withPending (c :: cs)) = exec c (s.withPending cs) ∧ step (s.withPending []) = .next (s.withPending [])

/-- Every command of the table, in every state, completes, and leaves the queue of waiting commands as it is. No rule stops
the 410: that every command completes is the model's reading (log 21). -/
def Obligations.EveryCommandCompletesAndKeepsTheQueue : Prop :=
  ∀ (c : Instr) (s : State), ∃ t, exec c s = .next t ∧ t.pending = s.pending

/-- What follows an event's own effect changes no pin, no table, no setting, no fault record, no byte of the text queue and
nothing of the receiver. Where nothing follows from a state, nothing but the transmitter's choice follows once its link,
pending job values, pair table, dictionary, thresholds, intensity table and count of thermometer readings have changed. -/
def Obligations.FollowUpsKeepTablesAndSettings : Prop :=
  (∀ s u : State,
      let t := finish s u
      t.pending = u.pending ∧ t.pins = u.pins ∧ t.txq = u.txq ∧
        (t.link.rate = u.link.rate ∧ t.link.rx = u.link.rx ∧ t.link.resetTaken = u.link.resetTaken ∧
          t.link.exposure = u.link.exposure ∧ t.link.film = u.link.film ∧ t.link.proof = u.link.proof) ∧
        (t.hyu.pairs = u.hyu.pairs ∧ t.hyu.dict = u.hyu.dict) ∧
        (t.opc.mounts = u.opc.mounts ∧ t.opc.lenses = u.opc.lenses ∧ t.opc.door = u.opc.door ∧
          t.opc.doorTimer = u.opc.doorTimer ∧ t.opc.debounce = u.opc.debounce ∧
          t.opc.restInterval = u.opc.restInterval ∧ t.opc.stallHold = u.opc.stallHold ∧
          t.opc.surveyRequest = u.opc.surveyRequest) ∧
        (t.exc.t1 = u.exc.t1 ∧ t.exc.t2 = u.exc.t2 ∧ t.exc.t3 = u.exc.t3 ∧ t.exc.intensity = u.exc.intensity ∧
          t.exc.density = u.exc.density) ∧
        (t.ftc.sensor = u.ftc.sensor ∧ t.ftc.sensorTimer = u.ftc.sensorTimer ∧ t.ftc.cap = u.ftc.cap ∧
          t.ftc.g = u.ftc.g ∧ t.ftc.feed = u.ftc.feed ∧ t.ftc.lowFilm = u.ftc.lowFilm ∧
          t.ftc.autoCut = u.ftc.autoCut ∧ t.ftc.margin = u.ftc.margin ∧ t.ftc.galley = u.ftc.galley) ∧
        (t.prc.mode = u.prc.mode ∧ t.prc.grant = u.prc.grant ∧ t.prc.lastCode = u.prc.lastCode ∧ t.prc.half = u.prc.half)) ∧
    (∀ (s : State) (l : Link) (p : PendingJob) (pairs : Vector (Vector Nat 26) 26) (dict : List DictEntry) (a b c : Int)
        (table : Vector (Vector Nat 8) 4) (k : Nat),
        Settled s →
          let u := ((((s.withLink l).withCmp { s.cmp with pend := p }).withHyu
            { s.hyu with pairs := pairs, dict := dict }).withExc
              { s.exc with t1 := a, t2 := b, t3 := c, intensity := table }).withReads k
          Settled u ∧ finish s u = u.withLink u.link.pump)

/-! ### Resets -/

/-- POWER_ON_RESET gives every block its reset values, the rate the two straps select, and the HELLO notice with the cause
POWER; the pins keep their levels, the straps apart. -/
def Obligations.PowerOnResetsEveryBlock : Prop :=
  (∀ (strapB strapA : Bool) (s : State),
    exec (.powerOnReset strapB strapA) s = .next
      { State.reset with
        pending := s.pending, thermReads := s.thermReads
        pins := { s.pins with strapB := strapB, strapA := strapA }
        link := Link.reset
          (if strapB then (if strapA then .b115200 else .b57600) else (if strapA then .b19200 else .b9600)) .power }) ∧
    (∀ r, (Link.reset r .power).tx.map TxFrame.payload = some (ascii "HELLO cause=POWER part=410 rev=A")) ∧
    (∀ r, (Link.reset r .command).tx.map TxFrame.payload = some (ascii "HELLO cause=COMMAND part=410 rev=A"))

/-- The reset values the manual states, block by block; the HELLO's transmission begun with the reset, and the levels and the
rate of `State.reset`, are the model's own (logs 6 and 8) and stand in no clause. -/
def Obligations.ResetLeavesTheStatedValues : Prop :=
  let r := State.reset
  (r.txq.bytes = [] ∧ r.txq.room = 4096 ∧ r.txq.watch = false) ∧
    (r.cmp.st = .idle ∧ r.cmp.line = none ∧ r.cmp.word.items = [] ∧ r.cmp.held = none ∧ r.cmp.partCode = none ∧
      r.cmp.pendingRet = none ∧ r.cmp.task = none ∧ r.cmp.ladder = 0 ∧ r.cmp.lens = none ∧ r.cmp.face = 0 ∧
      r.cmp.size = 20 ∧ r.cmp.hyph = true ∧ r.cmp.pend = .empty) ∧
    (r.cmp.job.wsMin = 8 ∧ r.cmp.job.wsOpt = 12 ∧ r.cmp.job.wsMax = 20 ∧ r.cmp.job.lsMax = 0 ∧ r.cmp.job.hyph = true ∧
      r.cmp.job.lMin = 2 ∧ r.cmp.job.rMin = 3 ∧ r.cmp.job.ladder = 3 ∧ r.cmp.job.thresh = 2 ∧
      r.cmp.job.refer.some? = false ∧ r.cmp.job.timeout = 50 ∧ r.cmp.job.mode = .both ∧
      r.cmp.job.name = ascii "-") ∧
    (r.cmp.following.leading = 240 ∧ r.cmp.following.quad = .justify ∧ r.cmp.following.measure = 3360 ∧
      r.cmp.following.left = 0 ∧ r.cmp.following.right = 0) ∧
    ((∀ a b, r.hyu.quality a b = 0) ∧ r.hyu.dict = [] ∧ r.hyu.referral = none ∧ r.hyu.timer = none ∧
      r.hyu.lastEnd = .none) ∧
    (r.sls.records = [] ∧ r.sls.counter = 1 ∧ r.sls.lastOpened = 0 ∧ r.sls.lastExposed = 0 ∧ r.sls.lastProofed = 0 ∧
      freePool r = 2048) ∧
    ((∀ m, r.opc.mount m = { expected := 0, observed := none, widths := Vector.replicate 95 0, style := .plain, phase := 0 }) ∧
      (∀ p, r.opc.lensSize p = 0) ∧ (∀ k, (r.opc.mech k).held = none ∧ (r.opc.mech k).flight = none) ∧
      r.opc.door = .unknown ∧ r.opc.debounce = 20 ∧ r.opc.drum = .stopped ∧ r.opc.resting = false ∧
      r.opc.stallHold = false ∧ r.opc.spinTimer = false ∧ r.opc.stallMonitor = false ∧ r.opc.survey = none ∧
      r.opc.surveyRequest = false ∧ r.opc.restInterval = 10 ∧ r.opc.restTimer = some 10) ∧
    (r.exc.st = .idle ∧ r.exc.ptr = none ∧ r.exc.index = 0 ∧ r.exc.moveOut = false ∧ r.exc.cutWait = false ∧
      r.exc.stopReq = none ∧ r.exc.armed = none ∧ r.exc.misses = 0 ∧ r.exc.band = none ∧ r.exc.esc.held = none ∧
      r.exc.esc.flight = none ∧ r.exc.lamp = .off ∧ r.exc.t1 = 30 ∧ r.exc.t2 = 40 ∧ r.exc.t3 = 50 ∧
      (∀ b p, (r.exc.intensity.get b).get p = 128) ∧ r.exc.density = 100) ∧
    (r.ftc.st = .noCassette ∧ r.ftc.sensor = .unknown ∧ r.ftc.cap = 0 ∧ r.ftc.p = 0 ∧ r.ftc.g = 0 ∧ r.ftc.dmax = 0 ∧
      (∀ k, r.ftc.marks.get k = none) ∧ r.ftc.e = 0 ∧ r.ftc.feed = 0 ∧ r.ftc.filmOut = false ∧
      r.ftc.lowMatched = false ∧ r.ftc.lowFilm = 0 ∧ r.ftc.autoCut = 0 ∧ r.ftc.margin = 240 ∧ r.ftc.galley = 0 ∧
      r.ftc.op = none) ∧
    (r.prc.st = .idle ∧ r.prc.ptr = none ∧ r.prc.out = [] ∧ r.prc.room = 0 ∧ r.prc.ask = false ∧ r.prc.timer = none ∧
      r.prc.headerDue = true ∧ r.prc.galleyWait = none ∧ r.prc.galley = 1 ∧ r.prc.lastCode = none ∧
      r.prc.mode = .best ∧ r.prc.grant = 10) ∧
    (r.link.flags = [] ∧ r.link.pendingNames = [] ∧ r.link.replies = [] ∧ r.link.rx = .hunting ∧
      r.link.exposure = .empty ∧ r.link.film = .empty ∧ r.link.proof = .empty)

/-- RESET is answered OK, and from then on no frame is taken; with a parameter it is refused. The reset takes effect when that
OK has been sent, with the cause COMMAND and the straps' rate. That HELLO is begun in that event and counts as the notice sent
last (log 8), that the pins keep their levels (log 6) and that the count of thermometer readings goes on (log 1) are the
model's choices. -/
def Obligations.ResetActsWhenItsReplyIsSent : Prop :=
  (∀ s : State, LinkReady s →
    exec (.reset []) s = .next (finish s ((heard s).withLink
      { (heard s).link with
        resetTaken := true
        replies := s.link.replies ++ [{ text := ascii "OK", ofReset := true }] }))) ∧
    (∀ (w : Text) (ws : List Text) (s : State), LinkReady s →
      exec (.reset (w :: ws)) s = .next (finish s (answered (ascii "NO SYNTAX") (heard s)))) ∧
    (∀ (reply : Text) (s : State), s.link.tx = some (.reply { text := reply, ofReset := true }) →
      exec .transmitFrameEnd s = .next
        { State.reset with
          pending := s.pending, thermReads := s.thermReads, pins := s.pins
          link := Link.reset (Rate.ofStraps s.pins.strapB s.pins.strapA) .command })

/-! ### The command link -/

/-- The end of a frame that does not answer a RESET frees the transmitter, which chooses its next frame in the event; a frame
that waited for reply room is then taken if there is room. With no frame being sent the event finds nothing. The free
transmitter chooses: with both kinds waiting the kind not sent last goes first; a REFER notice goes before a FLAG notice,
which names every pending name and empties the set; the oldest reply goes and leaves the queue. -/
def Obligations.FrameEndFreesTheTransmitter : Prop :=
  ((∀ (f : TxFrame) (s : State), s.link.tx = some f → f.ofReset = false →
      let v := s.withLink ({ s.link with tx := none } : Link).pump
      ((∀ r, s.link.rx ≠ .waiting r) → exec .transmitFrameEnd s = .next (finish s v)) ∧
        (∀ r, s.link.rx = .waiting r → v.link.replies.length < 4 → s.link.resetTaken = false →
          exec .transmitFrameEnd s = .next (finish s (takeRecord r (heard v)))) ∧
        (∀ r, s.link.rx = .waiting r → 4 ≤ v.link.replies.length →
          exec .transmitFrameEnd s = .next (finish s v))) ∧
      (∀ s : State, s.link.tx = none → exec .transmitFrameEnd s = .next s)) ∧
    (∀ l : Link, l.tx = none →
        (∀ r rs, l.replies = r :: rs → (l.noticeWaits = false ∨ l.lastSent = .notice) →
          l.pump = { l with tx := some (.reply r), replies := rs, lastSent := .reply }) ∧
          (∀ text, l.refer = some text → (l.replies = [] ∨ l.lastSent = .reply) →
            l.pump = { l with tx := some (.referNotice text), refer := none, lastSent := .notice }) ∧
          (l.refer = none → l.pendingNames ≠ [] → (l.replies = [] ∨ l.lastSent = .reply) →
            l.pump = { l with tx := some (.flagNotice l.pendingNames), pendingNames := [], lastSent := .notice }) ∧
          (l.replies = [] → l.refer = none → l.pendingNames = [] → l.pump = l))

/-- The bytes of a frame, fed one by one to a hunting Link Interface, are the record they carry: for every keyword with any
words, and for every text payload. -/
def Obligations.FramesAreReadBackFromTheirBytes : Prop :=
  (∀ (k : Keyword) (params : List Text) (s : State),
    (∀ w ∈ params, wordOk w = true) → (k.text ++ fields params).length ≤ 250 → s.link.rx = .hunting →
      feed (frameBytes 0x43#8 (k.text ++ fields params)) s = receive (.command k params) s) ∧
    (∀ (payload : Text) (s : State), payload.length ≤ 250 → s.link.rx = .hunting →
      feed (frameBytes 0x54#8 payload) s = receive (.text payload) s)

/-- A frame with a bad check or kind is answered BADFRAME, a first word that is no keyword UNKNOWN, and a command with an
empty word or a byte outside 0x21..0x7E in a word SYNTAX; none has any other effect. A partial frame that the gap timer ends,
and a frame whose length byte is above 250, are discarded without a reply; and no well-formed command leaves the receiver
inside a frame. -/
def Obligations.MalformedFramesLeaveNoTrace : Prop :=
  ((∀ (kind check : Byte) (payload : Text) (s : State), LinkReady s → (Instr.badFrame kind payload check).wf = true →
      exec (.badFrame kind payload check) s = .next (finish s (answered (ascii "NO BADFRAME") (heard s)))) ∧
      (∀ (word : Text) (params : List Text) (s : State), LinkReady s → (Instr.unknownKeyword word params).wf = true →
        exec (.unknownKeyword word params) s = .next (finish s (answered
          (if (word :: params).all cleanWord then ascii "NO UNKNOWN" else ascii "NO SYNTAX") (heard s)))) ∧
      (∀ (c : Instr) (k : Keyword) (params : List Text) (s : State), LinkReady s →
        recordOf c = some (.command k params) → (∃ w ∈ params, cleanWord w = false) →
          exec c s = .next (finish s (answered (ascii "NO SYNTAX") (heard s))))) ∧
    ((∀ (received : Text) (s : State), s.link.rx.midFrame = false → (Instr.gapTimerExpiry received).wf = true →
        exec (.gapTimerExpiry received) s = .next (finish s s)) ∧
        (∀ (kind length : Byte) (s : State), s.link.rx.midFrame = false → 250 < length.toNat →
          exec (.lengthByteAbove250 kind length) s = .next (finish s s)) ∧
        (∀ (c : Instr) (s t : State), c.wf = true → s.link.rx.midFrame = false → exec c s = .next t →
          t.link.rx.midFrame = false))

/-- A complete frame is taken and answered in its event where the reply queue has room; it waits where four replies are
queued; it is discarded while another waits; and after a RESET command it is neither taken nor answered. -/
def Obligations.FramesWaitForReplyRoom : Prop :=
  ∀ (c : Instr) (r : LinkRecord) (s : State), recordOf c = some r →
    (LinkReady s → exec c s = .next (finish s (takeRecord r (heard s)))) ∧
      (s.link.resetTaken = false → s.link.rx.holdsFrame = false → 4 ≤ s.link.replies.length →
        exec c s = .next (finish s (s.withLink { s.link with rx := .waiting r }))) ∧
      (s.link.resetTaken = false → s.link.rx.holdsFrame = true → exec c s = .next (finish s s)) ∧
      (s.link.resetTaken = true → exec c s = .next (finish s (heard s)))

/-- Every command's reply begins with OK or NO, and one that begins with NO leaves every block as it was. -/
def Obligations.RefusedCommandsChangeNothing : Prop :=
  ∀ (k : Keyword) (params : List Text) (s : State),
    ((commandBody k params s).2.take 2 = ascii "OK" ∨ (commandBody k params s).2.take 2 = ascii "NO") ∧
      ((commandBody k params s).2.take 2 = ascii "NO" → (commandBody k params s).1 = s)

/-- TUNE without a pair reports the settings; with pairs of the right form it sets every key given, where every value is in
its range, and none otherwise. A LOWFILM tests the low-film match, which becomes matched and raises FILMLOW where it holds; a
REST restarts a running rest timer, and stops it with 0; a PROOF that changes the mode takes a SKIPPING Proof Controller to
WAITING under REQUIRED, and stops a FAULTED one's timer under REQUIRED and restarts it under BEST, for a GRANT given with it
(the model's choice, log 19). Nothing else changes. A number is judged by its value alone (the model's choice, log 37). -/
def Obligations.TuneSetsEveryPairOrNone : Prop :=
  (∀ s : State, LinkReady s → exec (.tune []) s = .next (finish s (answered (tuneReport s) (heard s)))) ∧
    (∀ (params : List Text) (s : State), LinkReady s → params ≠ [] → parseTune params = none →
      exec (.tune params) s = .next (finish s (answered (ascii "NO SYNTAX") (heard s)))) ∧
    (∀ (params : List Text) (ps : List (TuneKey × TuneValue)) (s : State), LinkReady s → params.all cleanWord = true →
      params ≠ [] → parseTune params = some ps → ps.all tuneInRange = false →
        exec (.tune params) s = .next (finish s (answered (ascii "NO RANGE") (heard s)))) ∧
    (∀ (params : List Text) (ps : List (TuneKey × TuneValue)) (s : State), LinkReady s → params.all cleanWord = true →
      params ≠ [] → parseTune params = some ps → ps.all tuneInRange = true →
        let film : Film :=
          { s.ftc with
            feed := (tunedTo .feed ps).getD s.ftc.feed
            lowFilm := ((tunedTo .lowFilm ps).map Int.toNat).getD s.ftc.lowFilm
            autoCut := ((tunedTo .autoCut ps).map Int.toNat).getD s.ftc.autoCut
            margin := ((tunedTo .margin ps).map Int.toNat).getD s.ftc.margin }
        let low : Bool := (tunedTo .lowFilm ps).isSome && film.lowNow
        let proof : Proof :=
          { s.prc with
            mode := (tunedMode ps).getD s.prc.mode
            grant := ((tunedTo .grant ps).map Int.toNat).getD s.prc.grant }
        exec (.tune params) s = .next (finish s (answered (ascii "OK")
          { heard s with
            link := if low then (heard s).link.raise .filmLow else (heard s).link
            opc := { s.opc with
              debounce := ((tunedTo .debounce ps).map Int.toNat).getD s.opc.debounce
              restInterval := ((tunedTo .rest ps).map Int.toNat).getD s.opc.restInterval
              restTimer :=
                match tunedTo .rest ps with
                | none => s.opc.restTimer
                | some v => if s.opc.restTimer = none ∨ v = 0 then none else some v.toNat }
            exc := { s.exc with density := ((tunedTo .density ps).map Int.toNat).getD s.exc.density }
            ftc := { film with lowMatched := s.ftc.lowMatched || low }
            prc :=
              if proof.mode = s.prc.mode then proof
              else
                match proof.mode, s.prc.st with
                | .required, .skipping => { proof with st := .waiting }
                | .required, .faulted => { proof with timer := none }
                | .best, .faulted => { proof with timer := some proof.grant }
                | _, _ => proof }))) ∧
    (∀ f : Film, f.lowNow = true ↔
      f.lowMatched = false ∧ f.lowFilm ≠ 0 ∧ f.st ≠ .noCassette ∧ f.cap - f.dmax ≤ f.lowFilm * 240)

/-- CLEAR takes down the flags it names, or all of them, and takes their names out of the pending names; the reply gives the
flags still set. Without a parameter, with a name twice, with a word that names no flag, it is refused. -/
def Obligations.ClearTakesFlagsDown : Prop :=
  (∀ (fs : List Flag) (s : State), LinkReady s → fs ≠ [] → fs.Nodup →
    let left := s.link.flags.filter fun f => !fs.contains f
    exec (.clear (fs.map Flag.name)) s = .next (finish s (answered (okWith [field "FLAGS" (flagLetters left)])
      ((heard s).withLink { (heard s).link with
        flags := left, pendingNames := s.link.pendingNames.filter fun f => !fs.contains f })))) ∧
    (∀ s : State, LinkReady s →
      exec (.clear [ascii "ALL"]) s = .next (finish s (answered (ascii "OK FLAGS=-")
        ((heard s).withLink { (heard s).link with flags := [], pendingNames := [] })))) ∧
    (∀ (params : List Text) (s : State), LinkReady s →
      (params = [] ∨ ¬ params.Nodup ∨ (params ≠ [ascii "ALL"] ∧ ∃ w ∈ params, ∀ f : Flag, w ≠ f.name)) →
        exec (.clear params) s = .next (finish s (answered (ascii "NO SYNTAX") (heard s))))

/-- A flag raised while clear becomes set and joins the pending names, in the order of the flag table; raised while set it
changes nothing; and through every step a name waits only while its flag is set. -/
def Obligations.FlagsLatchUntilCleared : Prop :=
  (∀ (f : Flag) (l : Link),
    (f ∈ l.flags → l.raise f = l) ∧
      (f ∉ l.flags →
        (∀ g, g ∈ (l.raise f).flags ↔ g = f ∨ g ∈ l.flags) ∧
          (∀ g, g ∈ (l.raise f).pendingNames ↔ g = f ∨ g ∈ l.pendingNames) ∧
          (l.raise f).pendingNames.Sublist Flag.all ∧
          l.raise f = { l with flags := (l.raise f).flags, pendingNames := (l.raise f).pendingNames })) ∧
    (∀ s t : State, PendingNamesSet s → step s = .next t → PendingNamesSet t)

/-- STATUS, FAULTS, CAPS, OPTICS, TRANSPORT and PRINTER reply with the fields of their rules, filled from the state as it
stands, and change nothing; with a parameter they are refused SYNTAX. The Proof Controller's state in STATUS and PRINTER is
the one the event before left (the model's choice, log 36). -/
def Obligations.ReportsChangeNothing : Prop :=
  let yn (b : Bool) : Text := if b = true then ascii "Y" else ascii "N"
  let held (v : Option Nat) : Text :=
    match v with
    | some n => decimal n
    | none => ascii "?"
  let signed (v : Int) : Text := if v < 0 then ascii "-" ++ decimal v.natAbs else decimal v.natAbs
  let record (first : Option Text) (also : List Text) (line : Nat) : Text :=
    first.getD (ascii "-") ++ ascii "/" ++ (if also = [] then ascii "-" else joinText (ascii "+") also) ++ ascii "/" ++
      decimal line
  ((∀ v : Nat, depthNat v = decimal (v / 240) ++ ascii "P" ++ decimal (v % 240 / 20) ++ ascii "." ++ decimal (v % 20)) ∧
      ([CmpState.idle, .reading, .waitText, .stallSetup, .stallRoom, .referring, .aborting].map CmpState.name =
        ["IDLE", "READING", "WAIT_TEXT", "STALL_SETUP", "STALL_ROOM", "REFERRING", "ABORTING"].map ascii) ∧
      ([ExcState.idle, .movingFilm, .preparing, .armed, .flashing, .held, .stopped, .faulted].map ExcState.name =
        ["IDLE", "MOVING_FILM", "PREPARING", "ARMED", "FLASHING", "HELD", "STOPPED", "FAULTED"].map ascii) ∧
      ([FtcState.noCassette, .ready, .moving, .cutting, .faulted].map FtcState.name =
        ["NO_CASSETTE", "READY", "MOVING", "CUTTING", "FAULTED"].map ascii) ∧
      ([PrcState.idle, .sending, .waiting, .skipping, .faulted].map PrcState.name =
        ["IDLE", "SENDING", "WAITING", "SKIPPING", "FAULTED"].map ascii) ∧
      ([DrumState.stopped, .spinningUp, .surveying, .atSpeed].map DrumState.name =
        ["STOPPED", "SPINNING_UP", "SURVEYING", "AT_SPEED"].map ascii) ∧
      ([ProofMode.required, .best].map ProofMode.name = ["REQUIRED", "BEST"].map ascii) ∧
      ([Sensor.present, .absent, .unknown].map Sensor.name = ["PRESENT", "ABSENT", "UNKNOWN"].map ascii) ∧
      ([DoorState.opened, .closed, .unknown].map DoorState.name = ["OPEN", "CLOSED", "UNKNOWN"].map ascii) ∧
      ([Flag.line, .proof, .galley, .room, .setup, .mount, .filmLow, .filmOut, .cassette, .skip, .idle, .rest, .xfault,
        .ffault, .pfault].map Flag.letter = ascii "LPGRSMWOCKIZXFQ") ∧
      ([ExposureKind.drumStall, .strip, .prism, .lens, .escape, .flash].map ExposureKind.name =
        ["DRUM_STALL", "STRIP", "PRISM", "LENS", "ESCAPE", "FLASH"].map ascii) ∧
      ([FilmKind.jam, .cutter].map FilmKind.name = ["JAM", "CUTTER"].map ascii) ∧
      ([ProofKind.printer, .silent].map ProofKind.name = ["PRINTER", "SILENT"].map ascii)) ∧
    (∀ s : State, LinkReady s →
      exec (.status []) s = .next (finish s (answered
        (ascii "OK C=" ++ s.cmp.st.name ++ ascii " LO=" ++ decimal s.sls.lastOpened ++ ascii " LE=" ++
          decimal s.sls.lastExposed ++ ascii " LP=" ++ decimal s.sls.lastProofed ++ ascii " ST=" ++
          decimal s.sls.records.length ++ ascii " PL=" ++ decimal (freePool s) ++ ascii " RM=" ++
          decimal (4096 - s.txq.bytes.length) ++ ascii " X=" ++ s.exc.st.name ++ ascii " F=" ++ s.ftc.st.name ++ ascii " PR=" ++
          s.prc.st.name ++ ascii " D=" ++ s.opc.drum.name ++ ascii " RS=" ++ yn s.opc.resting ++ ascii " P=" ++
          depthNat s.ftc.p ++ ascii " G=" ++ depthNat s.ftc.g ++ ascii " DM=" ++ depthNat s.ftc.dmax ++ ascii " FR=" ++
          depthNat (if s.ftc.st = .noCassette then 0 else s.ftc.cap - s.ftc.p) ++ ascii " GF=" ++ decimal s.ftc.galley ++
          ascii " GP=" ++ decimal s.prc.galley ++ ascii " RF=" ++ yn s.hyu.referral.isSome ++ ascii " FL=" ++
          (if s.link.flags = [] then ascii "-" else s.link.flags.map Flag.letter)) (heard s))) ∧
        exec (.faults []) s = .next (finish s (answered
          (ascii "OK EXPOSURE=" ++ record (s.link.exposure.first.map ExposureKind.name)
              (s.link.exposure.also.map ExposureKind.name) s.link.exposure.line ++
            ascii " FILM=" ++ record (s.link.film.first.map FilmKind.name) (s.link.film.also.map FilmKind.name)
              s.link.film.line ++
            ascii " PROOF=" ++ record (s.link.proof.first.map ProofKind.name) (s.link.proof.also.map ProofKind.name)
              s.link.proof.line) (heard s))) ∧
        exec (.caps []) s = .next (finish s (answered (ascii ("OK PART=410 REV=A TEXTQ=4096 LINES=24 ELEMENTS=2048 " ++
          "LINEELEM=200 WORDCODES=48 DICT=256/3072 MOUNTS=8 LENSES=8 SLOTS=95 MEASURE=17280")) (heard s))) ∧
        exec (.optics []) s = .next (finish s (answered
          (ascii "OK DOOR=" ++ s.opc.door.name ++ ascii " DRUM=" ++ s.opc.drum.name ++ ascii " STRIP=" ++
            held s.opc.strip.held ++ ascii " PRISM=" ++ held s.opc.prism.held ++ ascii " TURRET=" ++ held s.opc.turret.held ++
            ascii " SURVEY=" ++ yn s.opc.surveyRequest ++
            (([0, 1, 2, 3, 4, 5, 6, 7] : List (Fin 8)).map fun m =>
              ascii " M" ++ decimal m.val ++ ascii "=" ++ decimal (s.opc.mount m).expected ++ ascii "/" ++
                held (s.opc.mount m).observed ++ ascii "/" ++
                (if (s.opc.mount m).expected = 0 then ascii "E"
                 else if (s.opc.mount m).observed = none then ascii "U"
                 else if (s.opc.mount m).observed = some (s.opc.mount m).expected then ascii "R" else ascii "X")).flatten ++
            ascii " L=" ++ joinText (ascii ",") (s.opc.lenses.toList.map decimal)) (heard s))) ∧
        exec (.transport []) s = .next (finish s (answered
          (ascii "OK STATE=" ++ s.ftc.st.name ++ ascii " SENSOR=" ++ s.ftc.sensor.name ++ ascii " CAP=" ++
            depthNat s.ftc.cap ++ ascii " P=" ++ depthNat s.ftc.p ++ ascii " G=" ++ depthNat s.ftc.g ++ ascii " DMAX=" ++
            depthNat s.ftc.dmax ++ ascii " REM=" ++ depthNat (if s.ftc.st = .noCassette then 0 else s.ftc.cap - s.ftc.p) ++
            ascii " MARKS=" ++ joinText (ascii ",") (([0, 1, 2, 3] : List (Fin 4)).map fun k =>
              match s.ftc.marks.get k with
              | some v => depthNat v
              | none => ascii "-") ++
            ascii " FEED=" ++ signed s.ftc.feed ++ ascii " E=" ++ signed s.ftc.e ++ ascii " OUT=" ++ yn s.ftc.filmOut ++
            ascii " LOW=" ++ (if s.ftc.lowMatched = true then ascii "MATCHED" else ascii "ARMED") ++ ascii " GALLEY=" ++
            decimal s.ftc.galley) (heard s))) ∧
        exec (.printer []) s = .next (finish s (answered
          (ascii "OK STATE=" ++ s.prc.st.name ++ ascii " MODE=" ++ s.prc.mode.name ++ ascii " GRANT=" ++ decimal s.prc.grant ++
            ascii " ROOM=" ++ decimal s.prc.room ++ ascii " OUT=" ++ decimal s.prc.out.length ++ ascii " ASK=" ++ yn s.prc.ask ++
            ascii " HEADER=" ++ yn s.prc.headerDue ++ ascii " WAIT=" ++
            (match s.prc.galleyWait with
             | some n => decimal n
             | none => ascii "-") ++
            ascii " GALLEY=" ++ decimal s.prc.galley ++ ascii " CODE=" ++
            (match s.prc.lastCode with
             | some c => decimal c.toNat
             | none => ascii "-")) (heard s)))) ∧
    ∀ (s : State), LinkReady s → ∀ (w : Text) (ws : List Text) (c : Instr),
      c = .status (w :: ws) ∨ c = .faults (w :: ws) ∨ c = .caps (w :: ws) ∨ c = .optics (w :: ws) ∨
        c = .transport (w :: ws) ∨ c = .printer (w :: ws) →
      exec c s = .next (finish s (answered (ascii "NO SYNTAX") (heard s)))

/-- An empty fault record takes the kind and the line number; a record that is not empty keeps both, and another kind joins
the also-seen set once, in the order of the table. Every recording raises the record's flag, and the exposure record's line
number is that of the line IN_PROGRESS, or 0. -/
def Obligations.FaultRecordsKeepTheFirstKind : Prop :=
  (∀ (k : ExposureKind) (s : State),
    (s.link.exposure.first = none →
      (exposureFault k s).link.exposure = { first := some k, also := [], line := s.exc.ptr.getD 0 }) ∧
      (∀ k0, s.link.exposure.first = some k0 →
        (exposureFault k s).link.exposure.first = some k0 ∧
          (exposureFault k s).link.exposure.line = s.link.exposure.line ∧
          (∀ j, j ∈ (exposureFault k s).link.exposure.also ↔ j ∈ s.link.exposure.also ∨ (j = k ∧ k ≠ k0)) ∧
          (s.link.exposure.also.Sublist ExposureKind.all →
            (exposureFault k s).link.exposure.also.Sublist ExposureKind.all)) ∧
      Flag.xfault ∈ (exposureFault k s).link.flags) ∧
    (∀ (k : FilmKind) (n : Nat) (s : State),
      (s.link.film.first = none → (filmFault k n s).link.film = { first := some k, also := [], line := n }) ∧
        (∀ k0, s.link.film.first = some k0 →
          (filmFault k n s).link.film.first = some k0 ∧ (filmFault k n s).link.film.line = s.link.film.line ∧
            (∀ j, j ∈ (filmFault k n s).link.film.also ↔ j ∈ s.link.film.also ∨ (j = k ∧ k ≠ k0)) ∧
            (s.link.film.also.Sublist FilmKind.all → (filmFault k n s).link.film.also.Sublist FilmKind.all)) ∧
        Flag.ffault ∈ (filmFault k n s).link.flags) ∧
    (∀ (k : ProofKind) (n : Nat) (s : State),
      (s.link.proof.first = none → (proofFault k n s).link.proof = { first := some k, also := [], line := n }) ∧
        (∀ k0, s.link.proof.first = some k0 →
          (proofFault k n s).link.proof.first = some k0 ∧ (proofFault k n s).link.proof.line = s.link.proof.line ∧
            (∀ j, j ∈ (proofFault k n s).link.proof.also ↔ j ∈ s.link.proof.also ∨ (j = k ∧ k ≠ k0)) ∧
            (s.link.proof.also.Sublist ProofKind.all → (proofFault k n s).link.proof.also.Sublist ProofKind.all)) ∧
        Flag.pfault ∈ (proofFault k n s).link.flags)

/-- CLEARFAULT empties its record and leaves the record's flag. EXPOSURE clears the stall hold, has a waiting survey request
its shift again, and has a FAULTED Exposure Controller stop where a HARD stop is requested, and otherwise prepare its element
afresh or, after a FLASH fault, make the arming test with no misses; one that is not FAULTED stands. FILM issues a line's
failed move or a cut's margin move again from where the film stands, operates a failed cutter again, and leaves READY a
transport whose failed move's line is no longer in progress; one that is not FAULTED stands. PROOF begins an ASK where the
Proof Controller is FAULTED or waits with an ASK outstanding, and otherwise only empties its record; during an abort that ASK
waits for the abort's end (the model's choice, log 19), and for the port it waits with its timer running (log 17). Any other
parameter is refused. -/
def Obligations.ClearFaultEmptiesItsRecord : Prop :=
  (∀ s : State, LinkReady s →
    let s1 := ((heard s).withLink { (heard s).link with exposure := .empty }).withOpc { s.opc with stallHold := false }
    (s.exc.st ≠ .faulted → (∀ v, s.opc.survey = some v → v.stage ≠ .failed) →
      exec (.clearFault [ascii "EXPOSURE"]) s = .next (finish s (answered (ascii "OK") s1))) ∧
      (∀ p : Fin 4, s.exc.st ≠ .faulted → s.opc.survey = some { pos := p, stage := .failed } → s.opc.strip.flight = none →
        s.opc.strip.held = none → s.opc.strip.waiting = [] →
          exec (.clearFault [ascii "EXPOSURE"]) s = .next (finish s (answered (ascii "OK")
            (s1.withOpc { s1.opc with
              survey := some { pos := p, stage := .shifting }
              strip := { held := none, waiting := []
                         flight := some { target := p.val, by_ := .survey, drive := .toward } } })))) ∧
      (s.exc.st = .faulted → s.exc.ending = none → (∀ v, s.opc.survey = some v → v.stage ≠ .failed) →
        (s.exc.stopReq = some .hard →
          exec (.clearFault [ascii "EXPOSURE"]) s = .next (finish s (answered (ascii "OK") (s1.withExc
            { s.exc with st := .stopped, armed := none, flash := none
                         stage := if s.exc.stage = .move then .move else .prepare })))) ∧
          (s.exc.stopReq ≠ some .hard → s.exc.stage ≠ .arm →
            exec (.clearFault [ascii "EXPOSURE"]) s = .next (finish s (answered (ascii "OK") (goElement s1)))) ∧
          (s.exc.stopReq ≠ some .hard → s.exc.stage = .arm →
            exec (.clearFault [ascii "EXPOSURE"]) s = .next (finish s (answered (ascii "OK")
              (armTest (s1.withExc { s.exc with misses := 0 }))))))) ∧
    (∀ s : State, LinkReady s →
      let s1 := (heard s).withLink { (heard s).link with film := .empty }
      (s.ftc.st ≠ .faulted →
        exec (.clearFault [ascii "FILM"]) s = .next (finish s (answered (ascii "OK") s1))) ∧
        (s.ftc.st = .faulted → s.ftc.failed = some .cutter →
          exec (.clearFault [ascii "FILM"]) s = .next (finish s (answered (ascii "OK") (s1.withFtc
            { s.ftc with st := .cutting, op := some .cutter, failed := none })))) ∧
        (∀ m, s.ftc.st = .faulted → s.ftc.failed = some (.lineMove m) →
          (¬ (s.exc.ptr = some m.number ∧ s.exc.moveOut = true) →
            exec (.clearFault [ascii "FILM"]) s = .next (finish s (answered (ascii "OK") (s1.withFtc
              { s.ftc with st := .ready, failed := none })))) ∧
            (s.exc.ptr = some m.number → s.exc.moveOut = true → s.ftc.p ≠ m.target → 0 < (s.ftc.stepping m.target).steps →
              exec (.clearFault [ascii "FILM"]) s = .next (finish s (answered (ascii "OK") (s1.withFtc
                { s.ftc with st := .moving, op := some (.lineMove m (s.ftc.stepping m.target)), failed := none })))) ∧
            (s.exc.ptr = some m.number → s.exc.moveOut = true → s.ftc.p = m.target ∨ (s.ftc.stepping m.target).steps = 0 →
              exec (.clearFault [ascii "FILM"]) s = .next (finish s (answered (ascii "OK")
                (moveCompleted m (testLowFilm (s1.withFtc
                  { s.ftc with
                    p := m.target, dmax := max s.ftc.dmax m.target, e := (s.ftc.stepping m.target).newE
                    marks := setMarks m.marks m.target s.ftc.marks, st := .ready, op := none, failed := none }))))))) ∧
        (∀ c, s.ftc.st = .faulted → s.ftc.failed = some .margin → s.ftc.cut = some c →
          (s.ftc.p ≠ c.target → 0 < (s.ftc.stepping c.target).steps →
            exec (.clearFault [ascii "FILM"]) s = .next (finish s (answered (ascii "OK") (s1.withFtc
              { s.ftc with st := .cutting, op := some (.margin (s.ftc.stepping c.target)), failed := none })))) ∧
            (s.ftc.p = c.target ∨ (s.ftc.stepping c.target).steps = 0 → s.ftc.lowMatched = true →
              exec (.clearFault [ascii "FILM"]) s = .next (finish s (answered (ascii "OK") (s1.withFtc
                { s.ftc with
                  p := c.target, dmax := max s.ftc.dmax c.target, e := (s.ftc.stepping c.target).newE, st := .cutting
                  op := some .cutter, failed := none })))))) ∧
    (∀ s : State, LinkReady s →
      let s1 := (heard s).withLink { (heard s).link with proof := .empty }
      let asking (p : Proof) : Proof :=
        if s.cmp.st = .aborting then { p with askDue := true }
        else if s.prc.port = none then { p with port := some .ask, ask := true, askDue := false, timer := some p.grant }
        else { p with askDue := true, timer := some p.grant }
      (s.prc.st = .idle ∨ s.prc.st = .sending ∨ s.prc.st = .skipping ∨ (s.prc.st = .waiting ∧ s.prc.ask = false) →
        exec (.clearFault [ascii "PROOF"]) s = .next (finish s (answered (ascii "OK") s1))) ∧
        (s.prc.st = .faulted →
          exec (.clearFault [ascii "PROOF"]) s = .next (finish s (answered (ascii "OK")
            (s1.withPrc { asking { s.prc with room := 0 } with st := .waiting })))) ∧
        (s.prc.st = .waiting → s.prc.ask = true →
          exec (.clearFault [ascii "PROOF"]) s = .next (finish s (answered (ascii "OK") (s1.withPrc (asking s.prc)))))) ∧
    (∀ (params : List Text) (s : State), LinkReady s →
      params ≠ [ascii "EXPOSURE"] → params ≠ [ascii "FILM"] → params ≠ [ascii "PROOF"] →
        exec (.clearFault params) s = .next (finish s (answered (ascii "NO SYNTAX") (heard s))))

/-- IDLE is raised at an event after which all its conditions hold and before which one did not, and at the completion of an
abort; nothing else that follows an event raises it. The conditions are the composer IDLE, no referral outstanding, the store
empty, the Exposure Controller IDLE, and the transport neither MOVING nor CUTTING; a reset leaves them holding and no flag
set. -/
def Obligations.IdleFlagMarksTheOnset : Prop :=
  (∀ s : State, idleHolds s = true ↔
    s.cmp.st = .idle ∧ s.hyu.referral = none ∧ s.sls.records = [] ∧ s.exc.st = .idle ∧
      ¬ (s.ftc.st = .moving ∨ s.ftc.st = .cutting)) ∧
  (∀ (b : Cause) (s : State), idleHolds (resetAll b s) = true ∧ (resetAll b s).link.flags = []) ∧
  ∀ s u : State,
    (idleHolds (finish s u) = true → idleHolds s = false → Flag.idle ∈ (finish s u).link.flags) ∧
      (aborting u = true → aborting (finish s u) = false → Flag.idle ∈ (finish s u).link.flags) ∧
      (Flag.idle ∈ (finish s u).link.flags →
        Flag.idle ∈ u.link.flags ∨ (aborting u = true ∧ aborting (finish s u) = false) ∨
          (idleHolds (finish s u) = true ∧ idleHolds s = false))

/-! ### The text stream and the composer -/

/-- A TEXT record is refused during an abort; taken whole behind the bytes held where it fits the room, waking a resting drum
unless it is empty; and refused FULL with the room watch armed where it does not. The reply gives the room after the decision.
-/
def Obligations.TextIsTakenWholeOrRefused : Prop :=
  ∀ (payload : Text) (s : State), LinkReady s →
    let room := 4096 - s.txq.bytes.length
    (s.cmp.st = .aborting →
      exec (.text payload) s = .next (finish s (answered (ascii "NO STATE room=" ++ decimal room) (heard s)))) ∧
      (s.cmp.st ≠ .aborting → payload.length ≤ room →
        exec (.text payload) s = .next (finish s (answered (ascii "OK room=" ++ decimal (room - payload.length))
          (if payload = [] then heard s
           else ((heard s).withTxq { s.txq with bytes := s.txq.bytes ++ payload }).withOpc
             { s.opc with resting := false })))) ∧
      (s.cmp.st ≠ .aborting → room < payload.length →
        exec (.text payload) s = .next (finish s (answered (ascii "NO FULL room=" ++ decimal room)
          ((heard s).withTxq { s.txq with watch := true }))))

/-- The reading composer takes the code at the front of the queue with its parameter bytes, which are data whatever their
values; a code whose parameter bytes have not all come stays partial, and is read on, with as many of them as have come, in a
later event. Each byte taken leaves the queue, and an armed room watch raises ROOM once the room is 2,048 or more. A composer
that is not reading, or has a step in hand, takes nothing. -/
def Obligations.CodesAreReadWithTheirParameters : Prop :=
  (∀ (b : Byte) (bs : Text) (s : State), s.cmp.st = .reading → s.cmp.task = none → s.cmp.partCode = none →
    s.txq.bytes = b :: bs →
      (paramCount b ≤ bs.length →
        exec .textCodeRead s = .next (finish s ((drainTo (bs.drop (paramCount b)) s).withCmp
          { s.cmp with task := some (.code b (bs.take (paramCount b))) }))) ∧
        (bs.length < paramCount b →
          exec .textCodeRead s = .next (finish s ((drainTo [] s).withCmp { s.cmp with partCode := some (b, bs) })))) ∧
    (∀ (c : Byte) (got : Text) (n : Nat) (s : State), s.cmp.st = .reading → s.cmp.task = none →
      s.cmp.partCode = some (c, got) → s.txq.bytes ≠ [] → got.length + n = paramCount c →
        (n ≤ s.txq.bytes.length →
          exec .textCodeRead s = .next (finish s ((drainTo (s.txq.bytes.drop n) s).withCmp
            { s.cmp with partCode := none, task := some (.code c (got ++ s.txq.bytes.take n)) }))) ∧
          (s.txq.bytes.length < n →
            exec .textCodeRead s = .next (finish s ((drainTo [] s).withCmp
              { s.cmp with partCode := some (c, got ++ s.txq.bytes) })))) ∧
    (∀ s : State, s.cmp.st ≠ .reading ∨ s.cmp.task ≠ none ∨ s.txq.bytes = [] →
      exec .textCodeRead s = .next (finish s s)) ∧
    (∀ (bytes : Text) (s : State),
      (s.txq.watch = true → bytes.length ≤ 2048 →
        drainTo bytes s = (s.withTxq { bytes := bytes, watch := false }).withLink (s.link.raise .room)) ∧
        (s.txq.watch = false ∨ 2048 < bytes.length →
          drainTo bytes s = s.withTxq { s.txq with bytes := bytes }))

/-- The width of w relative units at size S is floor((w × S × 5 + 12) / 24) set steps: at most 2,880 for w up to 96 and S up
to 144, 0 for w = 0, with the closed forms of EM, EN and THIN; the glue of a line is converted by it and stays in order. -/
def Obligations.WidthsRoundToTheNearestSetStep : Prop :=
  (∀ w size : Nat, width w size = (w * size * 5 + 12) / 24) ∧
    (∀ w size : Nat, 24 * width w size ≤ 5 * (w * size) + 12 ∧ 5 * (w * size) + 12 < 24 * width w size + 24) ∧
    (∀ w size : Nat, w ≤ 96 → size ≤ 144 → width w size ≤ 2880) ∧ width 96 144 = 2880 ∧
    (∀ size : Nat, width 0 size = 0) ∧ (∀ size : Nat, width 48 size = 10 * size ∧ width 24 size = 5 * size) ∧
    (∀ size : Nat, width 12 size = (5 * size + 1) / 2) ∧
    (∀ (j : Job) (size : Nat),
      glueAt j size = { min := width j.wsMin size, opt := width j.wsOpt size, max := width j.wsMax size } ∧
        (j.wsMin ≤ j.wsOpt → j.wsOpt ≤ j.wsMax →
          (glueAt j size).min ≤ (glueAt j size).opt ∧ (glueAt j size).opt ≤ (glueAt j size).max))

/-- Every text code is read by the code table, its parameters clamped, and has the effect of its rule on the word, the open
line, the following set or the switches. A code is counted toward its word unless it is a fill, an undefined code, a space or
an ending code, and the 49th counted code makes the word complete at a split point first. A character or a fixed space becomes
an element at the face and the selected lens, resolved anew where the position no longer holds its size (at no other time: the
model's choice, log 35); an EMPTY mount, or a size needed with no lens defined, stalls the composer with the code held and
raises SETUP, but not where a retry fails for the same cause. A character that lacks both mount and lens stalls for the mount
first (the model's reading, log 12). -/
def Obligations.TextCodesTakeEffect : Prop :=
  ((∀ c : Byte, 0x21 ≤ c.toNat → c.toNat ≤ 0x7F → readCode c [] = .char (c.toNat - 0x20)) ∧
      (∀ c : Byte, (0x13 ≤ c.toNat ∧ c.toNat ≤ 0x1F) ∨ 0x80 ≤ c.toNat → readCode c [] = .undefined) ∧
      (readCode 0x00#8 [] = .fill ∧ readCode 0x07#8 [] = .fixed .en ∧ readCode 0x08#8 [] = .fixed .em ∧
        readCode 0x09#8 [] = .fixed .thin ∧ readCode 0x0A#8 [] = .ending .para ∧ readCode 0x0B#8 [] = .ending .line ∧
        readCode 0x0C#8 [] = .soft ∧ readCode 0x0D#8 [] = .tie ∧ readCode 0x0E#8 [] = .hyph false ∧
        readCode 0x0F#8 [] = .hyph true ∧ readCode 0x10#8 [] = .ending .cut ∧ readCode 0x20#8 [] = .space) ∧
      (∀ a : Byte, readCode 0x02#8 [a] = .size (max 10 (min 144 a.toNat))) ∧
      (∀ a b : Byte,
        readCode 0x03#8 [a, b] = .lead (max (-2880) (min 2880 (a ++ b).toInt)) ∧
          readCode 0x05#8 [a, b] = .measure (max 240 (min 17280 (a ++ b).toNat))) ∧
      (∀ a b c d : Byte,
        readCode 0x06#8 [a, b, c, d] = .indent (min 17040 (a ++ b).toNat) (min 17040 (c ++ d).toNat)) ∧
      (∀ (a : Byte) (m : Fin 8), a.toNat = m.val → readCode 0x01#8 [a] = .face m) ∧
      (∀ (a : Byte) (k : Fin 4), a.toNat = k.val →
        readCode 0x04#8 [a] = .quad (if k = 0 then .justify else if k = 1 then .left else if k = 2 then .right else .center) ∧
          readCode 0x11#8 [a] = .mark k ∧ readCode 0x12#8 [a] = .ret k) ∧
      (∀ a : Byte,
        (8 ≤ a.toNat → readCode 0x01#8 [a] = .undefined) ∧
          (4 ≤ a.toNat → readCode 0x04#8 [a] = .undefined ∧ readCode 0x11#8 [a] = .undefined ∧
            readCode 0x12#8 [a] = .undefined)) ∧
      (∀ c : Byte, paramCount c =
        if c = 0x01#8 ∨ c = 0x02#8 ∨ c = 0x04#8 ∨ c = 0x11#8 ∨ c = 0x12#8 then 1
        else if c = 0x03#8 ∨ c = 0x05#8 then 2 else if c = 0x06#8 then 4 else 0)) ∧
    (∀ (byte : Byte) (ps : Text) (s : State),
      let u := if s.cmp.line.isSome then s else openLine s
      let code := readCode byte ps
      let counted : Prop := code ≠ .fill ∧ code ≠ .undefined ∧ code ≠ .space ∧ ∀ k, code ≠ .ending k
      (counted → 48 ≤ s.cmp.word.count →
        codeStep byte ps s = u.withCmp { u.cmp with task := some (.fit (.split byte ps)) }) ∧
        ((counted → s.cmp.word.count < 48) → codeStep byte ps s = actCode byte code u)) ∧
    ((∀ (f g : LineFlag) (fs : List LineFlag), g ∈ addLineFlag f fs ↔ g = f ∨ g ∈ fs) ∧
      (∀ (f : LineFlag) (fs : List LineFlag), (addLineFlag f fs).Nodup) ∧
      (∀ (j k : Fin 4) (ks : List (Fin 4)), j ∈ insertIn allMarks k ks ↔ j = k ∨ j ∈ ks) ∧
      (∀ (k : Fin 4) (ks : List (Fin 4)), (insertIn allMarks k ks).Nodup)) ∧
    (∀ (byte : Byte) (s : State),
      let c := s.cmp
      let done (c : Composer) : State := s.withCmp { c with task := none, stallCause := none }
      let counted (c : Composer) : State := done { c with word := { c.word with count := c.word.count + 1 } }
      let put (i : WordItem) (c : Composer) : Composer := { c with word := { c.word with items := c.word.items ++ [i] } }
      let flagged (f : LineFlag) : Option OpenLine := c.line.map fun l => { l with flags := addLineFlag f l.flags }
      let sets (f : LineSet → LineSet) : Composer :=
        { c with following := f c.following, line := c.line.map fun l => if l.elems = [] then { l with set := f l.set } else l }
      let agreed (p : LineSet) : LineSet :=
        { p with left := min p.left (p.measure - 240)
                 right := min p.right (p.measure - 240 - min p.left (p.measure - 240)) }
      let stalled (why : StallCause) : State :=
        (s.withCmp { c with st := .stallSetup, stallCause := some why }).withLink
          (if c.stallCause = some why then s.link else s.link.raise .setup)
      (actCode byte .fill s = done c ∧ actCode byte .undefined s = done { c with line := flagged .code } ∧
          (∀ m, actCode byte (.face m) s = counted { c with face := m }) ∧
          (∀ on, actCode byte (.hyph on) s = counted { c with hyph := on }) ∧
          actCode byte .soft s = counted (put (.soft { face := c.face, lens := c.lens }) c) ∧
          actCode byte .tie s = counted (put (.tie { face := c.face, lens := c.lens }) c) ∧
          actCode byte .space s =
            s.withCmp { c with task := some (.fit (.space ((c.lens.map LensSel.size).getD c.size))) } ∧
          (∀ k, actCode byte (.ending k) s = s.withCmp { c with task := some (.fit (.ending k)) })) ∧
        ((∀ n, s.opc.resolve n = none → actCode byte (.size n) s = stalled .lens) ∧
          (∀ n l subst, s.opc.resolve n = some (l, subst) →
            actCode byte (.size n) s =
              counted { c with size := n, lens := some l, line := if subst then flagged .sizeSubst else c.line })) ∧
        ((∀ v, actCode byte (.lead v) s = counted (sets fun p => { p with leading := v })) ∧
          (∀ q, actCode byte (.quad q) s = counted (sets fun p => { p with quad := q })) ∧
          (∀ m, actCode byte (.measure m) s = counted (sets fun p => agreed { p with measure := m })) ∧
          (∀ l r, actCode byte (.indent l r) s = counted (sets fun p => agreed { p with left := l, right := r }))) ∧
        ((∀ k, actCode byte (.mark k) s =
            counted { c with line := c.line.map fun l => { l with marks := insertIn allMarks k l.marks } }) ∧
          (∀ k l, c.line = some l →
            actCode byte (.ret k) s =
              counted (if l.elems = [] then { c with line := some { l with ret := some k } }
                else { c with pendingRet := some k }))) ∧
        (∀ slot, (s.opc.mount c.face).state = .empty → actCode byte (.char slot) s = stalled .mount) ∧
        (let kept : Prop := ∃ l, c.lens = some l ∧ s.opc.lensSize l.pos = l.size
         (∀ (l : LensSel) (c1 : Composer),
            (c.lens = some l ∧ s.opc.lensSize l.pos = l.size ∧ c1 = c) ∨
              (¬ kept ∧ ∃ subst, s.opc.resolve c.size = some (l, subst) ∧
                c1 = { c with lens := some l, line := if subst then flagged .sizeSubst else c.line }) →
              let acted (e : Elem) : State := counted (put (.elem byte e { face := c.face, lens := some l }) c1)
              actCode byte (.fixed .en) s = acted { kind := .en, width := 5 * l.size, before := 0, x := 0 } ∧
                actCode byte (.fixed .em) s = acted { kind := .em, width := 10 * l.size, before := 0, x := 0 } ∧
                actCode byte (.fixed .thin) s = acted { kind := .thin, width := (60 * l.size + 12) / 24, before := 0, x := 0 } ∧
                (∀ slot, (s.opc.mount c.face).state ≠ .empty →
                  let w := (s.opc.mount c.face).widthOf slot
                  (w = 0 → actCode byte (.char slot) s = acted { kind := .absent, width := 10 * l.size, before := 0, x := 0 }) ∧
                    (w ≠ 0 → actCode byte (.char slot) s =
                      acted { kind := .box c.face slot l.pos, width := (w * l.size * 5 + 12) / 24, before := 0, x := 0 }))) ∧
           (¬ kept → s.opc.resolve c.size = none →
              (∀ f, actCode byte (.fixed f) s = stalled .lens) ∧
                (∀ slot, (s.opc.mount c.face).state ≠ .empty → actCode byte (.char slot) s = stalled .lens))))

/-- Through every step the following set and the open line's set keep the measure in 240..17,280, the leading in
−2,880..2,880, and an available width of 240 or more. -/
def Obligations.IndentsAgreeWithTheMeasure : Prop :=
  ∀ s t : State, LineSetsInRange s → step s = .next t → LineSetsInRange t

/-- A complete word is accepted where it fits the open line by width and by 200 elements, referred where hyphenation is
attempted and an enabled class applies, and decided by the Hyphenation Unit's own choice or by none otherwise. An accepted
word is placed with its elements in text order, their kinds and widths unchanged; the first receives the spaces held before
it; a TIE at the end of the part is dropped, and so is a TIE with nothing before it on the line; a TIE between two elements is
one space of the second. A referral sends its REFER notice, keeps its record and starts its timer in the same event. What
ended a word then acts: a word space is held behind elements and once only, an ending code closes the line, a split point
begins the next word (a space held before a word without elements that a split point ends stays held: the model's choice, log
30). A hyphen wanted from an EMPTY mount stalls the composer with the step held. -/
def Obligations.CompleteWordsArePlacedOrReferred : Prop :=
  ((∀ (ne : Bool) (before : Nat) (is : List WordItem),
      (placeItems ne before is).map (fun e => (e.kind, e.width)) = (itemElems is).map fun e => (e.kind, e.width)) ∧
      (∀ (ne : Bool) (before : Nat) (is : List WordItem) (b : Byte) (e : Elem) (v : Env),
        placeItems ne before (.elem b e v :: is) = { e with before := before } :: placeItems true 0 is) ∧
      (∀ (ne : Bool) (before : Nat) (is : List WordItem) (env : Env),
        placeItems ne before (is ++ [.tie env]) = placeItems ne before is) ∧
      (∀ (is : List WordItem) (env : Env), placeItems false 0 (.tie env :: is) = placeItems false 0 is) ∧
      (∀ (ne : Bool) (before : Nat) (is js : List WordItem) (e f : Elem) (b c : Byte) (v w x : Env),
        placeItems ne before (is ++ [.elem b e v, .tie x, .elem c f w] ++ js) =
          placeItems ne before (is ++ [.elem b e v]) ++ { f with before := 1 } :: placeItems true 0 js)) ∧
    (∀ (opp : BreakOpp) (l : OpenLine) (s : State), s.cmp.line = some l →
      let c := s.cmp
      let part := placeItems (!l.elems.isEmpty) (if c.held.isSome then 1 else 0) c.word.items
      let glue : Option Glue :=
        l.glue.or (match c.held with
          | some size => some (glueAt c.job size)
          | none => (firstTie (!l.elems.isEmpty) c.word.items).map fun at_ => glueAt c.job at_.size)
      let fits : Prop :=
        widthSum (l.elems ++ part) + spaceCount (l.elems ++ part) * ((glue.map Glue.min).getD 0) ≤ l.set.available ∧
          (l.elems ++ part).length ≤ 200
      let x := examine s.opc s.hyu c.job l c.held c.word.items
      let classes := x.classes.meet c.job.refer
      let referred : Prop := 2 ≤ x.len ∧ 1 ≤ x.fit ∧ (classes.u = true ∨ classes.w = true ∨ classes.c = true)
      (itemElems c.word.items ≠ [] →
        (fits → fitStep opp s = s.withCmp { c with task := some (.place opp) }) ∧
          (¬ fits → l.elems.length < 200 → c.attempt = false →
            fitStep opp s = s.withCmp { c with task := some (.noBreak [] opp) }) ∧
          (¬ fits → l.elems.length < 200 → c.attempt = true → hyphenWanting s.opc c.word.items = false →
            (referred →
              fitStep opp s = ((s.withHyu
                { s.hyu with
                  referral := some
                    { letters := x.letters, len := x.len, positions := x.positions, fit := x.fit, own := x.own
                      classes := classes }
                  timer := if c.job.timeout = 0 then none else some c.job.timeout, lastEnd := .none }).withLink
                { s.link with
                  refer := some (ascii "REFER WORD=" ++ x.letters ++ ascii " LEN=" ++ decimal x.len ++ ascii " Q=" ++
                    x.positions.map (fun p => BitVec.ofNat 8 (48 + p.q)) ++ ascii " FIT=" ++ decimal x.fit ++
                    ascii " OWN=" ++ decimal x.own ++ ascii " CLASS=" ++ (if classes.u then ascii "U" else []) ++
                    (if classes.w then ascii "W" else []) ++ (if classes.c then ascii "C" else [])) }).withCmp
                  { c with st := .referring, task := some (.decision opp), stallCause := none }) ∧
              (¬ referred →
                fitStep opp s = s.withCmp
                  { c with
                    stallCause := none
                    task := some
                      (match x.positions.find? fun p => p.k == x.own with
                       | some p => .brk p.brk [] opp
                       | none => .noBreak [] opp) }))) ∧
        ((itemElems c.word.items).length ≤ freePool s →
          placeStep opp s = s.withCmp
            { c with
              held := none, word := .empty, task := some (.after opp)
              line := some
                { l with
                  elems := l.elems ++ part
                  glue := if spaceCount part = 0 then l.glue else glue
                  flags := if part.any Elem.isAbsent then addLineFlag .missing l.flags else l.flags } }) ∧
        (freePool s < (itemElems c.word.items).length → placeStep opp s = s.withCmp { c with st := .stallRoom })) ∧
    (∀ (opp : BreakOpp) (l : OpenLine) (s : State), s.cmp.line = some l → itemElems s.cmp.word.items ≠ [] →
      l.fits s.cmp.job s.cmp.held s.cmp.word.items none = false → l.elems.length < 200 → s.cmp.attempt = true →
        hyphenWanting s.opc s.cmp.word.items = true →
          fitStep opp s = (s.withCmp { s.cmp with st := .stallSetup, stallCause := some .hyphen }).withLink
            (if s.cmp.stallCause = some .hyphen then s.link else s.link.raise .setup)) ∧
    (∀ (o : Optics) (is : List WordItem), hyphenWanting o is = true ↔
      ∃ env, (o.mount env.face).state = .empty ∧
        (.soft env ∈ is ∨ ∃ b e, .elem b e env ∈ is ∧ letterClass b ≠ none)) ∧
    (∀ (opp : BreakOpp) (s : State), itemElems s.cmp.word.items = [] → s.cmp.line ≠ none →
      fitStep opp s = s.withCmp { s.cmp with task := some (.after opp) }) ∧
    (∀ (size : Nat) (s : State),
      (∀ l, s.cmp.line = some l → l.elems ≠ [] →
        afterStep (.space size) s =
          s.withCmp { s.cmp with word := .empty, task := none, held := some (s.cmp.held.getD size) }) ∧
        ((∀ l, s.cmp.line = some l → l.elems = []) →
          afterStep (.space size) s = s.withCmp { s.cmp with word := .empty, task := none, held := none })) ∧
    (∀ (s : State) (l : OpenLine),
      let u := if s.cmp.line.isSome then s else openLine s
      u.cmp.line = some l →
        (∀ k, afterStep (.ending k) s = u.withCmp
          { u.cmp with
            line := none, held := none, word := .empty, stallCause := none
            task := some (.offer
              (l.close u.cmp.job (if k = .line then .forced else .para) (decide (k = .cut))) none) }) ∧
          (∀ byte ps, afterStep (.split byte ps) s = u.withCmp
            { u.cmp with
              word := { items := [], count := 0, atSplit := true }, task := some (.code byte ps) }))


/-- A word that no break lets fit closes the line before it, or within it at the break chosen, or is overset: the run, the
hyphen box, the flags, the break kind and what is carried are those of the rules. The line closed is spaced by its quad and
its record is offered to the store, which takes it where it holds fewer than 24; what is carried opens the next line, and
where nothing with an element is carried no line opens (log 10). A word carried no longer begins at its split point, and the
line closed before it has break kind SPLIT, a space held or not (log 26). Each element stands behind all that is to its left.
A line that is not OVERSET ends within the measure less the right indent, and a JUSTIFY line with a word space fills it
exactly. Every x is at most 17,279, and every element of an OVERSET line ends at 19,920 at most: its run is extended through
the first box only so far (log 29). -/
def Obligations.LinesCloseAsTheirBreakHasIt : Prop :=
  (∀ (quad : Quad) (glue : Glue) (lsMax avail left : Nat) (es : List Elem),
    widthSum es + spaceCount es * glue.min ≤ avail →
      let sp := spacingOf quad false glue lsMax avail es
      let placed := placeFrom sp.result (left + sp.offset) 0 none es
      placed.map Elem.kind = es.map Elem.kind ∧
        (∀ e ∈ placed, left ≤ e.x ∧ e.x + e.width ≤ left + avail) ∧
        (quad = .justify → 1 ≤ spaceCount es →
          sp.result.r < spaceCount es ∧ sp.result.ls ≤ lsMax ∧
            widthSum es + (spaceCount es * sp.result.base + sp.result.r) + sp.result.ls * gapCount es = avail ∧
            (∀ e, placed.getLast? = some e → e.x + e.width = left + avail))) ∧
    (∀ (res : GlueResult) (start : Nat) (as es : List Elem) (e : Elem),
      (placeFrom res start 0 none (as ++ e :: es))[as.length]? =
        some { e with
          x := start + widthSum as + (spaceCount (as ++ [e]) * res.base + min res.r (spaceCount (as ++ [e]))) +
            res.ls * gapCount (as ++ [e]) }) ∧
    (∀ (quad : Quad) (glue : Glue) (lsMax avail : Nat) (es : List Elem),
      let b := widthSum es
      let n := spaceCount es
      let g := gapCount es
      let d := avail - b
      let even (n d ls : Nat) : GlueResult := { n := n, base := d / n, r := d % n, ls := ls }
      let widest (n d : Nat) : Nat := if d % n = 0 then d / n else d / n + 1
      spacingOf quad true glue lsMax avail es = { result := { n := n, base := 0, r := 0, ls := 0 }, offset := 0, loose := false } ∧
        (n = 0 → ∀ ls, ls = (if (∃ e ∈ es, e.isBox = true) ∧ 0 < g then min lsMax (d / g) else 0) →
          spacingOf .justify false glue lsMax avail es =
            { result := { n := 0, base := 0, r := 0, ls := ls }, offset := 0
              loose := decide ((∃ e ∈ es, e.isBox = true) ∧ 0 < d - ls * g) }) ∧
        (0 < n → widest n d ≤ glue.max ∨ lsMax = 0 ∨ g = 0 →
          spacingOf .justify false glue lsMax avail es =
            { result := even n d 0, offset := 0, loose := decide (glue.max < widest n d) }) ∧
        (0 < n → glue.max < widest n d → 0 < lsMax → 0 < g → ∀ ls, ls = min lsMax ((d - n * glue.max) / g) →
          spacingOf .justify false glue lsMax avail es =
            { result := even n (d - ls * g) ls, offset := 0, loose := decide (glue.max < widest n (d - ls * g)) }) ∧
        (quad ≠ .justify → ∀ w res,
          ((n = 0 ∧ w = b ∧ res = { n := 0, base := 0, r := 0, ls := 0 }) ∨
            (0 < n ∧ b + n * glue.opt ≤ avail ∧ w = b + n * glue.opt ∧ res = { n := n, base := glue.opt, r := 0, ls := 0 }) ∨
            (0 < n ∧ avail < b + n * glue.opt ∧ w = b + d ∧ res = even n d 0)) →
            spacingOf quad false glue lsMax avail es =
              { result := res, loose := false
                offset := match quad with
                  | .right => avail - w
                  | .center => (avail - w) / 2
                  | _ => 0 })) ∧
    (∀ (j : Job) (l : OpenLine) (brk : BreakKind) (cut : Bool),
      let quad := if brk = .overset ∨ (brk = .para ∧ l.set.quad = .justify) then .left else l.set.quad
      let sp := spacingOf quad (decide (brk = .overset)) (l.glue.getD { min := 0, opt := 0, max := 0 }) j.lsMax
        (l.set.measure - l.set.left - l.set.right) l.elems
      let r := l.close j brk cut
      r = { number := l.number, exp := l.exp, proof := l.proof, quad := quad, measure := l.set.measure, left := l.set.left
            right := l.set.right
            move := if cut = true ∧ l.elems = [] then .lead 0 else
              match l.ret with
              | some k => .toMark k l.set.leading
              | none => .lead l.set.leading
            marks := l.marks, cutAfter := cut, brk := brk, glue := sp.result
            flags := if sp.loose then addLineFlag .loose l.flags else l.flags
            elems := placeFrom sp.result (l.set.left + sp.offset) 0 none l.elems, exposed := 0, misses := 0, band := none
            galley := none, discard := false } ∧
        (l.set.measure ≤ 17280 → 240 ≤ l.set.measure → l.set.left + l.set.right ≤ l.set.measure - 240 →
          (brk ≠ .overset → widthSum l.elems + spaceCount l.elems * ((l.glue.map Glue.min).getD 0) ≤
              l.set.measure - l.set.left - l.set.right →
            ∀ e ∈ r.elems, e.x + e.width ≤ 17280 ∧ (0 < e.width → e.x ≤ 17279)) ∧
            (brk = .overset → widthSum l.elems ≤ l.set.measure - l.set.left - l.set.right →
              ∀ e ∈ r.elems, e.x + e.width ≤ 17280 ∧ (0 < e.width → e.x ≤ 17279)) ∧
            (brk = .overset → ∀ e, l.elems = [e] → e.width ≤ 2880 →
              r.elems = [{ e with x := l.set.left }] ∧ l.set.left ≤ 17040 ∧ l.set.left + e.width ≤ 19920))) ∧
    (∀ (opp : BreakOpp) (l : OpenLine) (s : State), s.cmp.line = some l →
      let c := s.cmp
      let placed (is : List WordItem) (box : Option Elem) : OpenLine :=
        let es := placeItems (!l.elems.isEmpty) (if c.held.isSome then 1 else 0) is ++ box.toList
        { l with
          elems := l.elems ++ es
          glue :=
            if spaceCount es = 0 then l.glue
            else l.glue.or (match c.held with
              | some size => some (glueAt c.job size)
              | none => (firstTie (!l.elems.isEmpty) is).map fun at_ => glueAt c.job at_.size)
          flags := if es.any Elem.isAbsent then addLineFlag .missing l.flags else l.flags }
      let closes (x : OpenLine) (brk : BreakKind) (flags : List LineFlag) (rest : WordBuf) : State :=
        s.withCmp { c with
          line := none, held := none, word := rest, stallCause := none
          task := some (.offer ({ x with flags := flags.foldl (fun fs f => addLineFlag f fs) x.flags }.close c.job brk false)
            (some opp)) }
      let before (flags : List LineFlag) : State :=
        closes l (if c.word.atSplit then .split else .word) flags { c.word with atSplit := false }
      (itemElems c.word.items ≠ [] → l.fits c.job c.held c.word.items none = false → 200 ≤ l.elems.length →
          fitStep opp s = before []) ∧
        (∀ flags, (∃ e ∈ l.elems, e.isBox = true) → noBreakStep flags opp s = before flags) ∧
        (∀ flags, (∀ e ∈ l.elems, e.isBox = false) →
          noBreakStep flags opp s = s.withCmp { c with task := some (.overset flags opp) }) ∧
        (∀ (b : Break) (flags : List LineFlag),
          let stays := c.word.items.take b.cut
          ((itemElems stays).length + b.hyph.toList.length ≤ freePool s →
            breakStep b flags opp s =
              closes (placed stays b.hyph) (if b.hyph = none then .hardHyphen else .hyphen) flags
                { items := c.word.items.drop b.next, count := c.word.count, atSplit := false }) ∧
            (freePool s < (itemElems stays).length + b.hyph.toList.length →
              breakStep b flags opp s = s.withCmp { c with st := .stallRoom })) ∧
        (let es := itemElems c.word.items
         let free := 200 - l.elems.length
         let start (k : Nat) : Nat := l.set.left + widthSum l.elems + widthSum (es.take k)
         let bounded (k : Nat) : Prop :=
           k ≤ es.length ∧ ∀ i e, i < k → es[i]? = some e → start i ≤ 17279 ∧ start i + e.width ≤ 19920
         let within (k : Nat) : Prop :=
           k ≤ es.length ∧ k ≤ free ∧ widthSum l.elems + widthSum (es.take k) ≤ l.set.measure - l.set.left - l.set.right
         ∀ (flags : List LineFlag) (k0 k1 b k : Nat), es ≠ [] → l.elems.length < 200 → within k0 →
           (∀ k', within k' → k' ≤ k0) →
           ((((∃ e ∈ es.take k0, e.isBox = true) ∨ ∀ e ∈ es, e.isBox = false) ∧ k1 = max k0 1) ∨
              ∃ i e, es[i]? = some e ∧ e.isBox = true ∧ (∀ e' ∈ es.take i, e'.isBox = false) ∧ k0 ≤ i ∧
                k1 = min free (i + 1)) →
           bounded b → (∀ k', bounded k' → k' ≤ b) → k = max (if l.elems = [] then max k0 1 else k0) (min b k1) →
           (freePool s < k → oversetStep flags opp s = s.withCmp { c with st := .stallRoom }) ∧
             (k = 0 → oversetStep flags opp s = closes (placed [] none) .overset (addLineFlag .overset flags)
               { items := c.word.items, count := c.word.count, atSplit := false }) ∧
             (k ≤ freePool s → l.set.measure ≤ 17280 → 240 ≤ l.set.measure →
               l.set.left + l.set.right ≤ l.set.measure - 240 →
               widthSum l.elems ≤ l.set.measure - l.set.left - l.set.right →
               (∀ e ∈ l.elems ++ es, 0 < e.width ∧ e.width ≤ 2880) →
                 ∀ r opp', (oversetStep flags opp s).cmp.task = some (.offer r opp') →
                   ∀ e ∈ r.elems, e.x ≤ 17279 ∧ e.x + e.width ≤ 19920) ∧
             (k ≤ freePool s → ∀ (run rest : List WordItem) (i : WordItem), c.word.items = run ++ i :: rest →
               (itemElems (run ++ [i])).length = k → (itemElems [i]).length = 1 →
                 oversetStep flags opp s =
                   closes (placed (run ++ [i]) none) .overset (addLineFlag .overset flags)
                     { items := rest, count := c.word.count, atSplit := false }))) ∧
    (∀ (r : LineRecord) (carried : Option BreakOpp) (s : State),
      let u := ((s.withSls { s.sls with records := s.sls.records ++ [r] }).withCmp
        { s.cmp with
          ladder := if r.brk = .hyphen ∨ r.brk = .hardHyphen then min 255 (s.cmp.ladder + 1) else 0 }).withOpc
            (if r.exp = .pending then { s.opc with resting := false } else s.opc)
      (24 ≤ s.sls.records.length → offerStep r carried s = s.withCmp { s.cmp with st := .stallRoom }) ∧
        (s.sls.records.length < 24 →
          (carried = none → offerStep r carried s = u.withCmp { u.cmp with task := none }) ∧
            (∀ opp, carried = some opp →
              (itemElems s.cmp.word.items = [] →
                offerStep r carried s = u.withCmp { u.cmp with task := some (.after opp) }) ∧
                (itemElems s.cmp.word.items ≠ [] →
                  offerStep r carried s = (openLine u).withCmp { (openLine u).cmp with task := some (.fit opp) }))))

/-- JOB enters its pairs in the pending set, whole or not at all, and changes nothing else: the current parameters wait for
the next line open, which applies the pending set and empties it. A number is judged by its value alone (the model's choice,
log 37). -/
def Obligations.JobWaitsForTheNextLine : Prop :=
  (∀ (params : List Text) (s : State), LinkReady s → parseJob params = none →
    exec (.job params) s = .next (finish s (answered (ascii "NO SYNTAX") (heard s)))) ∧
    (∀ (params : List Text) (ps : List (JobKey × JobValue)) (s : State), LinkReady s →
      params.all cleanWord = true → parseJob params = some ps →
        (ps.all jobInRange = false →
          exec (.job params) s = .next (finish s (answered (ascii "NO RANGE") (heard s)))) ∧
          (ps.all jobInRange = true →
            ((ps.any fun p => p.1.isGlue) = true → (s.cmp.job.apply (s.cmp.pend.enterAll ps)).glueOk = true) →
            exec (.job params) s = .next (finish s (answered (ascii "OK")
              ((heard s).withCmp { s.cmp with pend := s.cmp.pend.enterAll ps }))))) ∧
    (∀ s : State,
      (openLine s).cmp.job = s.cmp.job.apply s.cmp.pend ∧ (openLine s).cmp.pend = .empty ∧
        (openLine s).cmp.pendingRet = none ∧ (openLine s).sls.lastOpened = s.sls.counter ∧
        (openLine s).sls.counter = (if s.sls.counter ≥ 65535 then 1 else s.sls.counter + 1) ∧
        ∃ l, (openLine s).cmp.line = some l ∧ l.number = s.sls.counter ∧ l.set = s.cmp.following ∧
          l.ret = s.cmp.pendingRet ∧ l.elems = [] ∧ l.marks = [] ∧ l.glue = none ∧ l.flags = [] ∧
          l.exp = (if (s.cmp.job.apply s.cmp.pend).mode = .proof then .notRequired else .pending) ∧
          l.proof = (if (s.cmp.job.apply s.cmp.pend).mode = .film then .notRequired else .pending))

/-- A JOB that gives a glue key and whose merged glue is out of order is refused RANGE with nothing entered; and through every
step the current glue, and the glue the pending set will leave, satisfy WSMIN ≤ WSOPT ≤ WSMAX. The merged glue takes each
value from the command if given, from the pending set if held there, and from the current parameters otherwise. How numbers
are read is no part of this (log 37). -/
def Obligations.GlueStaysInOrder : Prop :=
  (∀ (params : List Text) (ps : List (JobKey × JobValue)) (s : State), LinkReady s → params.all cleanWord = true →
    parseJob params = some ps → (ps.any fun p => p.1.isGlue) = true →
      (let merged := s.cmp.job.apply (s.cmp.pend.enterAll ps)
       ¬ (merged.wsMin ≤ merged.wsOpt ∧ merged.wsOpt ≤ merged.wsMax)) →
        exec (.job params) s = .next (finish s (answered (ascii "NO RANGE") (heard s)))) ∧
    GlueInOrder State.reset ∧ (∀ s t : State, GlueInOrder s → step s = .next t → GlueInOrder t) ∧
    (∀ (p : PendingJob) (ps : List (JobKey × JobValue)), keyTwice ps = false →
      (p.enterAll ps).wsMin = ((jobGives .wsMin ps).map Int.toNat).or p.wsMin ∧
        (p.enterAll ps).wsOpt = ((jobGives .wsOpt ps).map Int.toNat).or p.wsOpt ∧
        (p.enterAll ps).wsMax = ((jobGives .wsMax ps).map Int.toNat).or p.wsMax) ∧
    (∀ (j : Job) (p : PendingJob),
      (j.apply p).wsMin = p.wsMin.getD j.wsMin ∧ (j.apply p).wsOpt = p.wsOpt.getD j.wsOpt ∧
        (j.apply p).wsMax = p.wsMax.getD j.wsMax)

/-- The ladder count rises by one at a record that ends HYPHEN or HARD_HYPHEN, up to 255, and becomes 0 at any other; it is 0
after a reset and after abort completion; a line open applies a pending LADDER, which the break decisions of that line are
made by, and brings the count down to it where it is smaller and not 0; and through every step the count is at most 255 and,
whenever LADDER is nonzero, the count does not exceed it. -/
def Obligations.LadderStaysWithinItsLimit : Prop :=
  (∀ (r : LineRecord) (s : State),
    (enterStore r s).cmp.ladder =
      if r.brk = .hyphen ∨ r.brk = .hardHyphen then min 255 (s.cmp.ladder + 1) else 0) ∧
    State.reset.cmp.ladder = 0 ∧ (∀ (b : Cause) (s : State), (resetAll b s).cmp.ladder = 0) ∧
    (∀ s : State, (completeAbort s).cmp.ladder = 0) ∧
    (∀ s : State, (openLine s).cmp.job.ladder = s.cmp.pend.ladder.getD s.cmp.job.ladder) ∧
    (∀ c : Composer, c.attempt = true ↔
      c.job.hyph = true ∧ c.hyph = true ∧ (c.job.ladder = 0 ∨ c.ladder < c.job.ladder)) ∧
    (∀ s : State, (openLine s).cmp.ladder =
      match s.cmp.pend.ladder with
      | some n => if n ≠ 0 ∧ n < s.cmp.ladder then n else s.cmp.ladder
      | none => s.cmp.ladder) ∧
    LadderKept State.reset ∧ (∀ s t : State, LadderKept s → step s = .next t → LadderKept t)

/-! ### Hyphenation -/

/-- PAIRS replaces the row of its letter, in either case, by its 26 values and leaves the other rows; a wrong form is refused
SYNTAX, a value outside 0..3 RANGE. A number is judged by its value alone (the model's choice, log 37). -/
def Obligations.PairsLoadsOneRow : Prop :=
  (∀ (b : Byte) (c : Fin 26) (ws : List Text) (vs : List Int) (s : State), LinkReady s →
    ws.all cleanWord = true → letterClass b = some c → parseNumbers ws = some vs → ws.length = 26 →
      ((∀ v ∈ vs, 0 ≤ v ∧ v ≤ 3) →
        ∃ h : Hyphenation,
          exec (.pairs ([b] :: ws)) s = .next (finish s (answered (ascii "OK") ((heard s).withHyu h))) ∧
            h = { s.hyu with pairs := h.pairs } ∧
            (∀ x y : Fin 26, h.quality x y = if x = c then (vs.getD y.val 0).toNat else s.hyu.quality x y)) ∧
        ((∃ v ∈ vs, v < 0 ∨ 3 < v) →
          exec (.pairs ([b] :: ws)) s = .next (finish s (answered (ascii "NO RANGE") (heard s))))) ∧
    (∀ (params : List Text) (s : State), LinkReady s →
      (params.length ≠ 27 ∨ (∀ b ws, params = [b] :: ws → letterClass b = none) ∨
        (∃ w ∈ params.tail, parseNumber w = none)) →
        exec (.pairs params) s = .next (finish s (answered (ascii "NO SYNTAX") (heard s))))

/-- DICTADD writes an entry at its place, or new positions to the entry of its word, and every other entry stays in the order
of the words; DICTDEL removes the entry of its word; DICTCLEAR removes all. Each replies with the counts after the change and
changes nothing else, or is refused SYNTAX, RANGE, FULL or NOTFOUND. Positions are judged by their value alone (the model's
choice, log 37). -/
def Obligations.DictionaryCommandsWriteOneEntry : Prop :=
  (∀ (w : Text) (ws : List Text) (word : List (Fin 26)) (ps : List Int) (s : State), LinkReady s →
    (w :: ws).all cleanWord = true → parseWord w = some word → parseNumbers ws = some ps →
      let good := 2 ≤ word.length ∧ word.length ≤ 24 ∧ ps.Pairwise (· < ·) ∧ ∀ p ∈ ps, 1 ≤ p ∧ p < word.length
      let known := ∃ e ∈ s.hyu.dict, e.word = word
      (¬ good → exec (.dictAdd (w :: ws)) s = .next (finish s (answered (ascii "NO RANGE") (heard s)))) ∧
        (good → ¬ known → 256 ≤ s.hyu.dict.length ∨ 3072 < s.hyu.lettersUsed + word.length →
          exec (.dictAdd (w :: ws)) s = .next (finish s (answered (ascii "NO FULL") (heard s)))) ∧
        (good → known ∨ (s.hyu.dict.length < 256 ∧ s.hyu.lettersUsed + word.length ≤ 3072) →
          let h : Hyphenation := { s.hyu with dict := dictInsert { word := word, positions := ps.map Int.toNat } s.hyu.dict }
          exec (.dictAdd (w :: ws)) s = .next (finish s (answered (ascii "OK entries=" ++ decimal h.dict.length ++
            ascii " letters=" ++ decimal h.lettersUsed) ((heard s).withHyu h))))) ∧
    (∀ (e : DictEntry) (d : List DictEntry), (d.map DictEntry.word).Pairwise (fun a b => wordBefore a b = true) →
      (∀ f, f ∈ dictInsert e d ↔ f = e ∨ (f ∈ d ∧ f.word ≠ e.word)) ∧
        ((dictInsert e d).map DictEntry.word).Pairwise (fun a b => wordBefore a b = true) ∧
        ((∃ f ∈ d, f.word = e.word) → (dictInsert e d).map DictEntry.word = d.map DictEntry.word)) ∧
    (∀ (params : List Text) (s : State), LinkReady s →
      ((∀ w ws, params = w :: ws → parseWord w = none ∨ parseNumbers ws = none) →
        exec (.dictAdd params) s = .next (finish s (answered (ascii "NO SYNTAX") (heard s)))) ∧
        ((∀ w, params = [w] → parseWord w = none) →
          exec (.dictDel params) s = .next (finish s (answered (ascii "NO SYNTAX") (heard s))))) ∧
    (∀ (w : Text) (word : List (Fin 26)) (s : State), LinkReady s → cleanWord w = true → parseWord w = some word →
      word.length < 2 ∨ 24 < word.length →
        exec (.dictDel [w]) s = .next (finish s (answered (ascii "NO RANGE") (heard s)))) ∧
    (∀ (w : Text) (word : List (Fin 26)) (s : State), LinkReady s → cleanWord w = true → parseWord w = some word →
      2 ≤ word.length → word.length ≤ 24 →
        ((∃ e ∈ s.hyu.dict, e.word = word) →
          let h : Hyphenation := { s.hyu with dict := s.hyu.dict.filter fun e => e.word != word }
          exec (.dictDel [w]) s = .next (finish s (answered (ascii "OK entries=" ++ decimal h.dict.length ++
            ascii " letters=" ++ decimal h.lettersUsed) ((heard s).withHyu h)))) ∧
          ((∀ e ∈ s.hyu.dict, e.word ≠ word) →
            exec (.dictDel [w]) s = .next (finish s (answered (ascii "NO NOTFOUND") (heard s))))) ∧
    (∀ s : State, LinkReady s →
      exec (.dictClear []) s = .next (finish s (answered (ascii "OK entries=0 letters=0")
        ((heard s).withHyu { s.hyu with dict := [] })))) ∧
    (∀ (w : Text) (ws : List Text) (s : State), LinkReady s →
      exec (.dictClear (w :: ws)) s = .next (finish s (answered (ascii "NO SYNTAX") (heard s))))

/-- DICTGET replies with the entry of its word and DICTLIST with at most eight entries from its index on, in 250 bytes; both
leave the state as it is, or are refused. LINE replies with the fields of the record of its number and changes nothing; no
such record is refused NOTFOUND, a number outside 1..65,535 RANGE, any other form SYNTAX. Numbers are judged by their value
alone (the model's choice, log 37). -/
def Obligations.EntryAndLineReadsChangeNothing : Prop :=
  ((∀ (w : Text) (word : List (Fin 26)) (e : DictEntry) (s : State), LinkReady s → cleanWord w = true →
      parseWord w = some word → 2 ≤ word.length → word.length ≤ 24 →
        (s.hyu.lookup word = some e →
          exec (.dictGet [w]) s = .next (finish s (answered (ascii "OK " ++ e.word.map upperLetter ++ ascii ":" ++
            joinText (ascii ",") (e.positions.map decimal)) (heard s)))) ∧
          (s.hyu.lookup word = none →
            exec (.dictGet [w]) s = .next (finish s (answered (ascii "NO NOTFOUND") (heard s))))) ∧
      (∀ (w : Text) (i : Nat) (s : State), LinkReady s → cleanWord w = true → parseNumber w = some (i : Int) →
        (i ≤ 255 →
          ∃ m ≤ 8, exec (.dictList [w]) s = .next (finish s (answered (s.hyu.listing i m) (heard s))) ∧
            i + m ≤ max i s.hyu.dict.length ∧
            (m = 0 ∨ (s.hyu.listing i m).length ≤ 250) ∧
            (m = 8 ∨ s.hyu.dict.length ≤ i + m ∨ 250 < (s.hyu.listing i (m + 1)).length)) ∧
          (255 < i → exec (.dictList [w]) s = .next (finish s (answered (ascii "NO RANGE") (heard s))))) ∧
      (∀ (w : Text) (word : List (Fin 26)) (s : State), LinkReady s → cleanWord w = true → parseWord w = some word →
        word.length < 2 ∨ 24 < word.length →
          exec (.dictGet [w]) s = .next (finish s (answered (ascii "NO RANGE") (heard s)))) ∧
      (∀ (params : List Text) (s : State), LinkReady s →
        ((∀ w, params = [w] → parseWord w = none) →
          exec (.dictGet params) s = .next (finish s (answered (ascii "NO SYNTAX") (heard s)))) ∧
          ((∀ w, params = [w] → parseNumber w = none) →
            exec (.dictList params) s = .next (finish s (answered (ascii "NO SYNTAX") (heard s)))))) ∧
    (let depthText (v : Int) : Text := if v < 0 then ascii "-" ++ depthNat v.natAbs else depthNat v.natAbs
     (∀ r : LineRecord,
        r.summary =
          ascii "OK LINE=" ++ decimal r.number ++ ascii " QUAD=" ++ r.quad.name ++ ascii " MEAS=" ++ depthNat r.measure ++
            ascii " IND=" ++ depthNat r.left ++ ascii "," ++ depthNat r.right ++ ascii " MOVE=" ++
            (match r.move with
             | .lead l => ascii "LEAD:" ++ depthText l
             | .toMark k l => ascii "MARK:" ++ decimal k.val ++ ascii "/" ++ depthText l) ++
            ascii " MARKS=" ++ (if r.marks = [] then ascii "-" else (r.marks.map fun k => decimal k.val).flatten) ++
            ascii " CUT=" ++ (if r.cutAfter = true then ascii "Y" else ascii "N") ++ ascii " BREAK=" ++ r.brk.name ++
            ascii " GLUE=" ++ decimal r.glue.n ++ ascii "," ++ depthNat r.glue.base ++ ascii "," ++ decimal r.glue.r ++
            ascii "," ++ depthNat r.glue.ls ++ ascii " FLAGS=" ++
            (if r.flags = [] then ascii "-" else r.flags.map LineFlag.letter) ++ ascii " ELEM=" ++ decimal r.elems.length ++
            ascii " EXP=" ++
            (match r.exp with
             | .pending => ascii "PENDING"
             | .inProgress => ascii "IN_PROGRESS:" ++ decimal r.exposed
             | .done => ascii "DONE"
             | .part => ascii "PARTIAL:" ++ decimal r.exposed
             | .notRequired => ascii "NOT_REQUIRED") ++
            ascii " PROOF=" ++
            (match r.proof with
             | .pending => ascii "PENDING"
             | .inProgress => ascii "IN_PROGRESS"
             | .done => ascii "DONE"
             | .skipped => ascii "SKIPPED"
             | .notRequired => ascii "NOT_REQUIRED") ++
            ascii " MISS=" ++ decimal r.misses ++ ascii " BAND=" ++
            (match r.band with
             | some b => decimal b.val
             | none => ascii "-") ++
            ascii " GALLEY=" ++
            (match r.galley with
             | some n => decimal n
             | none => ascii "-")) ∧
       ([Quad.justify, .left, .right, .center].map Quad.name = ["JUSTIFY", "LEFT", "RIGHT", "CENTER"].map ascii) ∧
       ([BreakKind.word, .hyphen, .hardHyphen, .forced, .para, .overset, .split].map BreakKind.name =
         ["WORD", "HYPHEN", "HARD_HYPHEN", "FORCED", "PARA", "OVERSET", "SPLIT"].map ascii) ∧
       ([LineFlag.loose, .overset, .missing, .code, .sizeSubst, .referred, .lapsed, .clamped, .noMark, .part,
         .skipped].map LineFlag.letter = ascii "LOMCSRTKNPX")) ∧
    ((∀ (w : Text) (n : Int) (s : State), LinkReady s → cleanWord w = true → parseNumber w = some n →
        (∀ r, 1 ≤ n → n ≤ 65535 → s.sls.find n.toNat = some r →
          exec (.line [w]) s = .next (finish s (answered r.summary (heard s)))) ∧
          (1 ≤ n → n ≤ 65535 → (∀ r ∈ s.sls.records, (r.number : Int) ≠ n) →
            exec (.line [w]) s = .next (finish s (answered (ascii "NO NOTFOUND") (heard s)))) ∧
          (n < 1 ∨ 65535 < n → exec (.line [w]) s = .next (finish s (answered (ascii "NO RANGE") (heard s))))) ∧
        (∀ (params : List Text) (s : State), LinkReady s → (∀ w, params = [w] → parseNumber w = none) →
          exec (.line params) s = .next (finish s (answered (ascii "NO SYNTAX") (heard s)))))

/-- Through every step the dictionary stands in ascending order without duplicates, within 256 entries and 3,072 letters, and
every entry has 2 to 24 letters and ascending positions between them. -/
def Obligations.DictionaryStaysOrderedAndBounded : Prop :=
  ∀ s t : State, s.hyu.DictKept → step s = .next t → t.hyu.DictKept

/-- DECIDE 0, or DECIDE k for a position whose prefix fits, ends the referral with that outcome and returns the composer to
READING; any other number is refused RANGE and the referral stands. With no referral outstanding it is refused LATE after a
lapse and NOREFER otherwise; with a wrong form SYNTAX. When the referral timer runs out the own choice acts with the flags
REFERRED and LAPSED, and the composer returns to READING; a timer that does not run brings nothing (the model's reading, log
16). A number is judged by its value alone (the model's choice, log 37). -/
def Obligations.DecideOrLapseEndsTheReferral : Prop :=
  ((∀ (w : Text) (k : Int) (r : Referral) (opp : BreakOpp) (s : State), LinkReady s → cleanWord w = true →
      parseNumber w = some k → s.hyu.referral = some r → s.cmp.task = some (.decision opp) →
        let ended (t : Task) : State :=
          (((heard s).withHyu { s.hyu with referral := none, timer := none, lastEnd := .decided }).withLink
            { (heard s).link with refer := none }).withCmp { s.cmp with st := .reading, task := some t }
        (k = 0 → exec (.decideBreak [w]) s = .next (finish s (answered (ascii "OK") (ended (.noBreak [.referred] opp))))) ∧
          (∀ p, 0 < k → r.breakAt k.toNat = some p → p.fits = true →
            exec (.decideBreak [w]) s = .next (finish s (answered (ascii "OK") (ended (.brk p.brk [.referred] opp))))) ∧
          ((k < 0 ∨ (0 < k ∧ ∀ p, r.breakAt k.toNat = some p → p.fits = false)) →
            exec (.decideBreak [w]) s = .next (finish s (answered (ascii "NO RANGE") (heard s))))) ∧
      (∀ (w : Text) (k : Int) (s : State), LinkReady s → cleanWord w = true → parseNumber w = some k →
        s.hyu.referral = none →
          exec (.decideBreak [w]) s = .next (finish s (answered
            (if s.hyu.lastEnd = .lapsed then ascii "NO LATE" else ascii "NO NOREFER") (heard s)))) ∧
      (∀ (params : List Text) (s : State), LinkReady s → (∀ w, params = [w] → parseNumber w = none) →
        exec (.decideBreak params) s = .next (finish s (answered (ascii "NO SYNTAX") (heard s))))) ∧
    ((∀ (n : Nat) (r : Referral) (opp : BreakOpp) (s : State), s.hyu.timer = some n → s.hyu.referral = some r →
        s.cmp.task = some (.decision opp) →
          exec .referralTimerExpiry s = .next (finish s
            (((s.withHyu { s.hyu with referral := none, timer := none, lastEnd := .lapsed }).withLink
              { s.link with refer := none }).withCmp
                { s.cmp with
                  st := .reading
                  task := some
                    (match r.breakAt r.own with
                     | some p => .brk p.brk [.referred, .lapsed] opp
                     | none => .noBreak [.referred, .lapsed] opp) }))) ∧
        (∀ s : State, s.hyu.timer = none ∨ s.hyu.referral = none → exec .referralTimerExpiry s = .next (finish s s)))

/-- An examination lists the break positions 1..len − 1 of the word's letters. Its candidates come from one source: the soft
points, where the word has any; else, for a table-eligible word, the dictionary entry found or the pair table; else the
written hyphens; each position has its quality, its break point and the prefix test there. Its own choice is the candidate
with the largest k whose prefix fits and whose quality is at least THRESH, or 0; its fit limit is the largest k whose prefix
fits, or 0. The classes U, W and C apply as the rules say. -/
def Obligations.ExaminationsFindCandidatesAndClasses : Prop :=
  ∀ (o : Optics) (h : Hyphenation) (j : Job) (l : OpenLine) (held : Option Nat) (is : List WordItem),
    let x := examine o h j l held is
    let chosen (p : Position) : Prop := p.fits = true ∧ 1 ≤ p.q ∧ j.thresh ≤ p.q
    let letter (i : WordItem) : Bool :=
      match i with
      | .elem b _ _ => (letterClass b).isSome
      | _ => false
    let soft (i : WordItem) : Bool :=
      match i with
      | .soft _ => true
      | _ => false
    let dash (i : WordItem) : Bool :=
      match i with
      | .elem b _ _ => b == 0x2D#8
      | _ => false
    let codes : Text := is.filterMap fun i =>
      match i with
      | .elem b _ _ => if (letterClass b).isSome then some b else none
      | _ => none
    let entry := h.lookup (codes.filterMap letterClass)
    let eligible : Prop := ∃ lead mid trail, is.filter (fun i => !soft i) = lead ++ mid ++ trail ∧ 2 ≤ mid.length ∧
      (∀ i ∈ mid, letter i = true) ∧ (∀ i ∈ lead ++ trail, letter i = false)
    let softWord : Prop := ∃ pre mid post a b, is = pre ++ a :: mid ++ b :: post ∧ letter a = true ∧ letter b = true ∧
      (∀ i ∈ mid, letter i = false) ∧ ∃ i ∈ mid, soft i = true
    let table : Prop := ¬ softWord ∧ eligible ∧ entry = none
    let hyphen (env : Env) : Elem :=
      let w := (o.mount env.face).widthOf 13
      let size := (env.lens.map LensSel.size).getD 20
      match env.lens with
      | none => { kind := .absent, width := 10 * size, before := 0, x := 0 }
      | some lens =>
        if w = 0 then { kind := .absent, width := 10 * size, before := 0, x := 0 }
        else { kind := .box env.face 13 lens.pos, width := (w * size * 5 + 12) / 24, before := 0, x := 0 }
    (x.letters = codes ∧ x.len = codes.length ∧ x.positions.map Position.k = List.range' 1 (x.len - 1) ∧
      ((x.own = 0 ∧ ∀ p ∈ x.positions, ¬ chosen p) ∨
        ∃ p ∈ x.positions, p.k = x.own ∧ chosen p ∧ ∀ p' ∈ x.positions, chosen p' → p'.k ≤ x.own) ∧
      ((x.fit = 0 ∧ ∀ p ∈ x.positions, p.fits = false) ∨
        ∃ p ∈ x.positions, p.k = x.fit ∧ p.fits = true ∧ ∀ p' ∈ x.positions, p'.fits = true → p'.k ≤ x.fit)) ∧
      ((x.classes.u = true ↔ eligible ∧ entry = none) ∧
        (x.classes.w = true ↔ table ∧ ∃ p ∈ x.positions, p.k = x.own ∧ p.q < 3) ∧
        (x.classes.c = true ↔ ∃ b, codes.head? = some b ∧ 0x41 ≤ b.toNat ∧ b.toNat ≤ 0x5A)) ∧
      (∀ p ∈ x.positions, p.fits = true ↔
        let part := placeItems (!l.elems.isEmpty) (if held.isSome then 1 else 0) (is.take p.brk.cut) ++ p.brk.hyph.toList
        let glue : Option Glue :=
          l.glue.or (match held with
            | some size => some (glueAt j size)
            | none => (firstTie (!l.elems.isEmpty) (is.take p.brk.cut)).map fun at_ => glueAt j at_.size)
        widthSum (l.elems ++ part) + spaceCount (l.elems ++ part) * ((glue.map Glue.min).getD 0) ≤
            l.set.measure - l.set.left - l.set.right ∧
          (l.elems ++ part).length ≤ 200) ∧
      (∀ (pre mid post : List WordItem) (ba bb : Byte) (ca cb : Fin 26) (ea eb : Elem) (va vb : Env),
        is = pre ++ .elem ba ea va :: mid ++ .elem bb eb vb :: post → letterClass ba = some ca → letterClass bb = some cb →
          (∀ i ∈ mid, letter i = false) →
            ∃ p ∈ x.positions, p.k = pre.countP letter + 1 ∧
              let default : Prop :=
                p.hard = false ∧ p.brk = { cut := pre.length + 1, next := pre.length + 1, hyph := some (hyphen va) }
              (softWord →
                (∀ m1 m2 env, mid = m1 ++ .soft env :: m2 → (∀ i ∈ m2, soft i = false) →
                  p.q = 3 ∧ p.hard = false ∧
                    p.brk = { cut := pre.length + 1 + m1.length, next := pre.length + 2 + m1.length, hyph := some (hyphen env) }) ∧
                  ((∀ i ∈ mid, soft i = false) → p.q = 0 ∧ default)) ∧
                (∀ d, ¬ softWord → eligible → entry = some d → p.q = (if p.k ∈ d.positions then 3 else 0) ∧ default) ∧
                (table →
                  p.q = (if j.lMin ≤ p.k ∧ p.k + j.rMin ≤ x.len then h.quality ca cb else 0) ∧ default) ∧
                (¬ softWord → ¬ eligible →
                  (∀ m1 m2 e env, mid = m1 ++ .elem 0x2D#8 e env :: m2 → (∀ i ∈ m2, dash i = false) →
                    p.q = 3 ∧ p.hard = true ∧
                      p.brk = { cut := pre.length + 2 + m1.length, next := pre.length + 2 + m1.length, hyph := none }) ∧
                    ((∀ i ∈ mid, dash i = false) → p.q = 0 ∧ default)))

/-! ### The line store -/

/-- An ABORT empties the text queue, has the composer discard its work in hand, withdraws the referral, marks every record but
the one being exposed, and records its form; an Exposure Controller without line or cut wait loses its stop, one with either
keeps it until its part in the abort ends (log 14), and the grant timer becomes the abort's limit, or stands stopped where no
row is outstanding (the model's choice, log 19). An ABORT in an abort is answered OK and only HARD changes anything: the form.
-/
def Obligations.AbortStartsOrUpgrades : Prop :=
  (∀ (form : HaltForm) (w : Text) (s : State), LinkReady s →
    w = (match form with | .soft => ascii "SOFT" | .hard => ascii "HARD") → s.cmp.st ≠ .aborting →
      ∃ u : State, exec (.abort [w]) s = .next (finish s (answered (ascii "OK") u)) ∧
        (u.txq.bytes = [] ∧ u.txq.watch = false ∧
          u.link = (if s.txq.watch then { (heard s).link.raise .room with refer := none }
            else { (heard s).link with refer := none })) ∧
        u.cmp = { s.cmp with
          st := .aborting, line := none, word := .empty, held := none, partCode := none, pendingRet := none, task := none
          stallCause := none } ∧
        u.hyu = { s.hyu with referral := none, timer := none, lastEnd := .withdrawn } ∧
        u.sls = { s.sls with
          abort := some form
          records := s.sls.records.map fun r =>
            if s.exc.ptr = some r.number then r else { r with discard := true } } ∧
        (s.exc.ptr ≠ none ∨ s.exc.cutWait = true → u.exc = s.exc) ∧
        (s.exc.ptr = none → s.exc.cutWait = false → s.exc.st = .stopped →
          u.exc = { s.exc with st := .idle, stopReq := none, armed := none, flash := none }) ∧
        (s.exc.ptr = none → s.exc.cutWait = false → s.exc.st ≠ .stopped → u.exc = { s.exc with stopReq := none }) ∧
        u.prc = { s.prc with afterZero := false, timer := if s.prc.out = [] then none else some s.prc.grant } ∧
        u.opc = s.opc ∧ u.ftc = s.ftc ∧ u.pending = s.pending ∧ u.pins = s.pins ∧ u.thermReads = s.thermReads) ∧
    (∀ s : State, LinkReady s → s.cmp.st = .aborting →
      exec (.abort [ascii "HARD"]) s = .next (finish s (answered (ascii "OK")
        ((heard s).withSls { s.sls with abort := some .hard }))) ∧
        exec (.abort [ascii "SOFT"]) s = .next (finish s (answered (ascii "OK") (heard s)))) ∧
    (∀ (params : List Text) (s : State), LinkReady s → params ≠ [ascii "SOFT"] → params ≠ [ascii "HARD"] →
      exec (.abort params) s = .next (finish s (answered (ascii "NO SYNTAX") (heard s))))

/-- An ABORT that finds no line being exposed, no cut waited for and no row at the printer completes in its event: the store
empty, the counter at 1, the composer IDLE without line and with ladder count 0, a header due, IDLE raised; the tables, the
film and the fault records stand. -/
def Obligations.AbortWithNothingInHandCompletesAtOnce : Prop :=
  ∀ (w : Text) (s : State), LinkReady s → w = ascii "SOFT" ∨ w = ascii "HARD" → s.cmp.st ≠ .aborting →
    s.exc.ptr = none → s.exc.cutWait = false → s.prc.out = [] → s.sls.records.length ≤ 24 →
      ∃ t, exec (.abort [w]) s = .next t ∧
        (t.cmp.st = .idle ∧ t.cmp.line = none ∧ t.cmp.ladder = 0 ∧ t.cmp.job = s.cmp.job ∧ t.cmp.pend = s.cmp.pend ∧
          t.cmp.following = s.cmp.following) ∧
        (t.sls.records = [] ∧ t.sls.counter = 1 ∧ t.sls.lastOpened = 0 ∧ t.sls.lastExposed = s.sls.lastExposed ∧
          t.sls.lastProofed = s.sls.lastProofed) ∧
        freePool t = 2048 ∧ t.txq.bytes = [] ∧ t.hyu.referral = none ∧ t.hyu.lastEnd = .withdrawn ∧
        (t.prc.ptr = none ∧ t.prc.galleyWait = none ∧ t.prc.headerDue = true) ∧ Flag.idle ∈ t.link.flags ∧
        t.hyu.pairs = s.hyu.pairs ∧ t.hyu.dict = s.hyu.dict ∧ t.opc.mounts = s.opc.mounts ∧
        t.opc.lenses = s.opc.lenses ∧ t.exc.intensity = s.exc.intensity ∧ t.ftc = s.ftc ∧
        t.link.exposure = s.link.exposure ∧ t.link.film = s.link.film ∧ t.link.proof = s.link.proof

/-! ### Fonts, strips, lenses and the drum -/

/-- FACE defines an unreferenced mount with all widths 0 and its observed code as it stands, UNMOUNT empties one, WIDTHS
writes consecutive entries of a defined one: each leaves every other mount, and a mount that any box references is refused
INUSE. A number is judged by its value alone (the model's choice, log 37). -/
def Obligations.FontCommandsWriteOneMount : Prop :=
  (∀ (wm wc ws wp : Text) (m : Fin 8) (code : Int) (style : ProofStyle) (phase : Int) (s : State), LinkReady s →
    [wm, wc, ws, wp].all cleanWord = true → parseNumber wm = some (m.val : Int) → parseNumber wc = some code →
      parseStyle ws = some style → parseNumber wp = some phase →
        let x : Mount :=
          { expected := code.toNat, observed := (s.opc.mount m).observed, widths := Vector.replicate 95 0, style := style
            phase := phase }
        let u := (heard s).withOpc (s.opc.setMount m x)
        (1 ≤ code → code ≤ 255 → -16 ≤ phase → phase ≤ 15 → mountReferenced m s = false →
          exec (.face [wm, wc, ws, wp]) s = .next (finish s (answered
            (ascii "OK MOUNT=" ++ decimal m.val ++ ascii " STATE=" ++ x.state.name)
            (if s.cmp.st = .stallSetup then u.withCmp { s.cmp with st := .reading } else u)))) ∧
          (1 ≤ code → code ≤ 255 → -16 ≤ phase → phase ≤ 15 → mountReferenced m s = true →
            exec (.face [wm, wc, ws, wp]) s = .next (finish s (answered (ascii "NO INUSE") (heard s)))) ∧
          (code < 1 ∨ 255 < code ∨ phase < -16 ∨ 15 < phase →
            exec (.face [wm, wc, ws, wp]) s = .next (finish s (answered (ascii "NO RANGE") (heard s))))) ∧
    (∀ (w : Text) (m : Fin 8) (s : State), LinkReady s → cleanWord w = true → parseNumber w = some (m.val : Int) →
      (mountReferenced m s = false →
        exec (.unmount [w]) s = .next (finish s (answered (ascii "OK MOUNT=" ++ decimal m.val ++ ascii " STATE=EMPTY")
          ((heard s).withOpc (s.opc.setMount m
            { expected := 0, observed := (s.opc.mount m).observed, widths := Vector.replicate 95 0, style := .plain
              phase := 0 }))))) ∧
        (mountReferenced m s = true →
          exec (.unmount [w]) s = .next (finish s (answered (ascii "NO INUSE") (heard s))))) ∧
    (∀ (ws : List Text) (m : Fin 8) (first : Int) (vs : List Int) (s : State), LinkReady s → ws.all cleanWord = true →
      parseNumbers ws = some ((m.val : Int) :: first :: vs) → 1 ≤ vs.length → vs.length ≤ 40 → 1 ≤ first →
        first + vs.length ≤ 96 → (∀ v ∈ vs, 0 ≤ v ∧ v ≤ 96) →
          ((s.opc.mount m).state = .empty →
            exec (.widths ws) s = .next (finish s (answered (ascii "NO STATE") (heard s)))) ∧
            ((s.opc.mount m).state ≠ .empty → mountReferenced m s = true →
              exec (.widths ws) s = .next (finish s (answered (ascii "NO INUSE") (heard s)))) ∧
            ((s.opc.mount m).state ≠ .empty → mountReferenced m s = false →
              ∃ x : Mount,
                exec (.widths ws) s = .next (finish s (answered
                  (ascii "OK MOUNT=" ++ decimal m.val ++ ascii " DEFINED=" ++ decimal x.defined)
                  ((heard s).withOpc (s.opc.setMount m x)))) ∧
                  x = { s.opc.mount m with widths := x.widths } ∧
                  (∀ i : Fin 95, x.widths.get i =
                    if first.toNat ≤ i.val + 1 ∧ i.val + 1 < first.toNat + vs.length
                    then (vs.getD (i.val + 1 - first.toNat) 0).toNat else (s.opc.mount m).widths.get i))) ∧
    (∀ (m n : Fin 8) (x : Mount) (o : Optics),
      (o.setMount m x).mount n = (if n = m then x else o.mount n) ∧ o.setMount m x = { o with mounts := (o.setMount m x).mounts })

/-- LENS writes one turret position; a position that any box references is refused INUSE, a size that is neither 0 nor in
10..144 RANGE. A number is judged by its value alone (the model's choice, log 37). -/
def Obligations.LensWritesOnePosition : Prop :=
  ∀ (wp ws : Text) (p : Fin 8) (size : Int) (s : State), LinkReady s → [wp, ws].all cleanWord = true →
    parseNumber wp = some (p.val : Int) → parseNumber ws = some size →
      ((size = 0 ∨ (10 ≤ size ∧ size ≤ 144)) → lensReferenced p s = false →
        ∃ o : Optics,
          exec (.lens [wp, ws]) s = .next (finish s (answered
            (ascii "OK LENS=" ++ decimal p.val ++ ascii " SIZE=" ++ decimal size.toNat)
            (if s.cmp.st = .stallSetup then ((heard s).withOpc o).withCmp { s.cmp with st := .reading }
             else (heard s).withOpc o))) ∧
            o = { s.opc with lenses := o.lenses } ∧
            (∀ q, o.lensSize q = if q = p then size.toNat else s.opc.lensSize q)) ∧
        ((size = 0 ∨ (10 ≤ size ∧ size ≤ 144)) → lensReferenced p s = true →
          exec (.lens [wp, ws]) s = .next (finish s (answered (ascii "NO INUSE") (heard s)))) ∧
        (size ≠ 0 → (size < 10 ∨ 144 < size) →
          exec (.lens [wp, ws]) s = .next (finish s (answered (ascii "NO RANGE") (heard s))))

/-- A requested size is resolved to the lowest position that holds it; otherwise, with SIZE_SUBST, to the lowest position of
the nearest size held, the smaller of two equally near; and to none when no lens is defined. -/
def Obligations.SizesResolveToTheNearestLens : Prop :=
  ∀ (o : Optics) (req : Nat), 1 ≤ req →
    ((o.resolve req = none ↔ ∀ p, o.lensSize p = 0) ∧
      ∀ l subst, o.resolve req = some (l, subst) →
        l.size ≠ 0 ∧ o.lensSize l.pos = l.size ∧ (∀ q, o.lensSize q = l.size → l.pos ≤ q) ∧
          (subst = false ↔ ∃ p, o.lensSize p = req) ∧
          (subst = false → l.size = req) ∧
          (∀ q, o.lensSize q ≠ 0 →
            ((l.size : Int) - req).natAbs < ((o.lensSize q : Int) - req).natAbs ∨
              (((l.size : Int) - req).natAbs = ((o.lensSize q : Int) - req).natAbs ∧ l.size ≤ o.lensSize q)))

/-- Only a reset changes the definition of a mount that any box references, or the size of a lens position that any box
references: every other well-formed command leaves them, the observed code apart. -/
def Obligations.ReferencedTablesStand : Prop :=
  ∀ (c : Instr) (s t : State), c.wf = true → s.link.rx.midFrame = false → (∀ b a, c ≠ .powerOnReset b a) →
    (c = .transmitFrameEnd → ∀ f, s.link.tx = some f → f.ofReset = false) → exec c s = .next t →
      (∀ m, mountReferenced m s = true →
        t.opc.mount m = { s.opc.mount m with observed := (t.opc.mount m).observed }) ∧
        (∀ p, lensReferenced p s = true → t.opc.lensSize p = s.opc.lensSize p)

/-- SURVEY is refused BUSY while a line is IN_PROGRESS; otherwise it begins at once at speed, with the strip shift to 0
requested wherever the strip stands, leaving the observed codes as they are until they are read; it has no effect while
surveying, and is noted as a request before speed, waking the drum. WAKE wakes the drum and nothing else. The rest timer is
started for the whole interval where the composer is IDLE, no referral is outstanding, no record's exposure is PENDING or
IN_PROGRESS, the transport is READY or NO_CASSETTE, the drum is not resting and the interval is not 0, runs on while these
hold, and is stopped where one does not. REST, where the first four hold, and the expiry of the running rest timer stop and
rest the drum, clearing the interval count (the model's choice, log 33), turn the lamp off, park the escapement and raise
REST; the mounts of the strip positions that a survey cut short has not read become UNVERIFIED, known before or not (the
model's choice, log 20). An expiry with no timer running brings nothing (the model's reading, log 16). -/
def Obligations.SurveyRestAndWakeMoveTheDrum : Prop :=
  (∀ s : State, LinkReady s →
    (s.exc.ptr ≠ none → exec (.survey []) s = .next (finish s (answered (ascii "NO BUSY") (heard s)))) ∧
      (s.exc.ptr = none → (s.opc.drum = .stopped ∨ s.opc.drum = .spinningUp) →
        exec (.survey []) s = .next (finish s (answered (ascii "OK")
          ((heard s).withOpc { s.opc with surveyRequest := true, resting := false })))) ∧
      (s.exc.ptr = none → s.opc.drum = .surveying →
        exec (.survey []) s = .next (finish s (answered (ascii "OK") ((heard s).withOpc { s.opc with resting := false })))) ∧
      (s.exc.ptr = none → s.opc.drum = .atSpeed → s.exc.st ≠ .armed →
        exec (.survey []) s = .next (finish s (answered (ascii "OK") ((heard s).withOpc
          { s.opc with
            drum := .surveying, stallMonitor := true, resting := false, survey := some { pos := 0, stage := .shifting }
            strip := s.opc.strip.request .strip .survey 0 })))) ∧
      exec (.wake []) s = .next (finish s (answered (ascii "OK") ((heard s).withOpc { s.opc with resting := false })))) ∧
    (∀ s : State, LinkReady s →
      (restConditions s = false → exec (.rest []) s = .next (finish s (answered (ascii "NO BUSY") (heard s)))) ∧
        (restConditions s = true → s.opc.resting = true →
          exec (.rest []) s = .next (finish s (answered (ascii "OK") (heard s)))) ∧
        (restConditions s = true → s.opc.resting = false →
          exec (.rest []) s = .next (finish s (answered (ascii "OK") (restDrum (heard s)))))) ∧
    (∀ s : State,
      let conditions : Prop :=
        s.cmp.st = .idle ∧ s.hyu.referral = none ∧ (∀ r ∈ s.sls.records, r.exp ≠ .pending ∧ r.exp ≠ .inProgress) ∧
          (s.ftc.st = .ready ∨ s.ftc.st = .noCassette)
      (restConditions s = true ↔ conditions) ∧
        (conditions → s.opc.resting = false → s.opc.restInterval ≠ 0 →
          (s.opc.restTimer = none → restService s = s.withOpc { s.opc with restTimer := some s.opc.restInterval }) ∧
            (s.opc.restTimer ≠ none → restService s = s)) ∧
        (¬ conditions ∨ s.opc.resting = true ∨ s.opc.restInterval = 0 →
          restService s = s.withOpc { s.opc with restTimer := none })) ∧
    (∀ s : State,
      (s.opc.restTimer ≠ none → exec .restTimerExpiry s = .next (finish s (restDrum s))) ∧
        (s.opc.restTimer = none → exec .restTimerExpiry s = .next (finish s s))) ∧
    (∀ s : State, s.exc.st ≠ .armed → s.exc.esc.flight = none →
      restDrum s =
        ((s.withOpc { s.opc with
          drum := .stopped, spinTimer := false, intervals := 0, indexSeen := false, stallMonitor := false, survey := none
          mounts :=
            match s.opc.survey with
            | none => s.opc.mounts
            | some v => s.opc.mounts.mapIdx fun i m => if 2 * v.pos.val ≤ i then { m with observed := none } else m
          resting := true, restTimer := none }).withExc
            { s.exc with
              lamp := .off
              esc := if s.exc.esc.held = some 0 then s.exc.esc
                else { s.exc.esc with held := none, flight := some (0, .park) } }).withLink (s.link.raise .rest)) ∧
    (∀ (w : Text) (ws : List Text) (c : Instr) (s : State), LinkReady s →
      c = .survey (w :: ws) ∨ c = .rest (w :: ws) ∨ c = .wake (w :: ws) →
        exec c s = .next (finish s (answered (ascii "NO SYNTAX") (heard s))))

/-- A mechanism's completion sense puts it at rest at its target, its timeout at rest at UNKNOWN; a timeout of the Exposure
Controller's operation records the mechanism's kind and makes it FAULTED with its line, a timeout of the survey's records
STRIP and leaves it waiting; a late sense or timeout is discarded. The turret takes the shorter way, forward at four
positions. The escapement's completion sense puts it at rest at its target, its timeout at rest at UNKNOWN with ESCAPE
recorded: for an element the Exposure Controller is FAULTED with its line, for the park it keeps its state. The requests that
wait for the escapement are then handled in turn, those of the line's elements but where its move failed for one (the model's
reading, log 15). At rest either is discarded (log 16). -/
def Obligations.MechanismsEndAtTheirTarget : Prop :=
  ((∀ (k : Mechanism) (f : Flight) (s : State), (s.opc.mech k).flight = some f → (s.opc.mech k).waiting = [] →
      exec (.opticsOperationComplete k) s = .next (finish s
        (s.withOpc (s.opc.setMech k { held := some f.target, flight := none, waiting := [] }))) ∧
        (f.by_ = .survey → ∀ v, s.opc.survey = some v →
          exec (.opticsOperationTimeout k) s = .next (finish s
            ((s.withOpc { s.opc.setMech k { held := none, flight := none, waiting := [] } with
              survey := some { v with stage := .failed } }).withLink
                (({ s.link with exposure := s.link.exposure.record ExposureKind.all (mechKind k) (s.exc.ptr.getD 0) } :
                  Link).raise .xfault)))) ∧
        (f.by_ = .exposure → ∀ n, s.exc.ptr = some n → s.opc.strip.waiting = [] →
          s.opc.prism.waiting = [] → s.opc.turret.waiting = [] → s.exc.esc.waiting = [] →
            exec (.opticsOperationTimeout k) s = .next (finish s
              (((s.withOpc (s.opc.setMech k { held := none, flight := none, waiting := [] })).withExc
                { s.exc with st := .faulted, stage := .prepare, armed := none, flash := none }).withLink
                  (({ s.link with exposure := s.link.exposure.record ExposureKind.all (mechKind k) n } : Link).raise
                    .xfault))))) ∧
      (∀ (k : Mechanism) (s : State), (s.opc.mech k).flight = none →
        exec (.opticsOperationComplete k) s = .next (finish s s) ∧
          exec (.opticsOperationTimeout k) s = .next (finish s s)) ∧
      (mechKind .strip = .strip ∧ mechKind .prism = .prism ∧ mechKind .turret = .lens) ∧
      (∀ (k : Mechanism) (b : Requester) (t : Nat) (m : MechState),
        (m.flight ≠ none → m.request k b t = { m with waiting := m.waiting ++ [(b, t)] }) ∧
          (m.flight = none → m.held = some t → m.request k b t = m) ∧
          (m.flight = none → m.held ≠ some t →
            m.request k b t = { m with held := none, flight := some { target := t, by_ := b, drive := driveFor k m.held t } })) ∧
      (∀ c t : Fin 8,
        driveFor .turret (some c.val) t.val =
          (let d := (t.val + 8 - c.val) % 8
           if d ≤ 4 then .forward d else .backward (8 - d)) ∧
          driveFor .turret none t.val = .forwardToSense)) ∧
    ((∀ (x : Nat) (why : EscMove) (s : State), s.exc.esc.flight = some (x, why) →
        exec .escapementComplete s = .next (finish s (s.withExc { s.exc with esc := s.exc.esc.ended (some x) })) ∧
          (why = .park →
            exec .escapementTimeout s = .next (finish s ((s.withExc { s.exc with esc := s.exc.esc.ended none }).withLink
              (({ s.link with exposure := s.link.exposure.record ExposureKind.all .escape (s.exc.ptr.getD 0) } : Link).raise
                .xfault)))) ∧
          (why = .element → ∀ n, s.exc.ptr = some n → s.opc.strip.waiting = [] →
            s.opc.prism.waiting = [] → s.opc.turret.waiting = [] →
              exec .escapementTimeout s = .next (finish s ((s.withExc
                { s.exc with
                  st := .faulted, stage := .prepare, armed := none, flash := none
                  esc := s.exc.esc.withdraw.ended none }).withLink
                    (({ s.link with exposure := s.link.exposure.record ExposureKind.all .escape n } : Link).raise .xfault))))) ∧
        (∀ (held : Option Nat) (e : Escapement),
          (e.waiting = [] → e.ended held = { held := held, flight := none, waiting := [] }) ∧
            (∀ x why ws, e.waiting = (x, why) :: ws →
              e.ended held =
                if held = some x then { e with waiting := ws }.ended held
                else { held := none, flight := some (x, why), waiting := ws })) ∧
        (∀ s : State, s.exc.esc.flight = none →
          exec .escapementComplete s = .next (finish s s) ∧ exec .escapementTimeout s = .next (finish s s)) ∧
        (∀ (x : Nat) (why : EscMove) (e : Escapement),
          (e.flight ≠ none → e.request x why = { e with waiting := e.waiting ++ [(x, why)] }) ∧
            (e.flight = none →
              e.request x why = if e.held = some x then e else { e with held := none, flight := some (x, why) })))

/-- A change of the door or the cassette sensor to a level that differs from the taken one starts the debounce interval at the
current DEBOUNCE, a return to the taken level abandons it, and nothing else changes. The end of the debounce interval takes
the level. A door taken open stops the drum, leaves every mount UNVERIFIED, ends spin-up and survey, and cancels an armed
countdown for a hold; the first OPEN level after a reset is only noted; a door taken closed is only noted. A cassette taken
present, or absent with none loaded, is only noted; a loaded one taken absent is a removal, which leaves the film's positions
and ends a cut wait; a line in progress whose move has been requested is then to end PARTIAL, its countdown cancelled and what
has not started withdrawn (log 15), and one whose move has not waits on. An expiry with no interval running brings nothing
(the model's reading, log 16). The hold raises no MOUNT (the model's reading, log 13), and the stop of the drum clears the
interval count (the model's choice, log 33). -/
def Obligations.SensorLevelsAreTakenAfterTheDebounce : Prop :=
  ((∀ (v : DoorLevel) (s : State),
      (s.pins.door = v → exec (.doorSensorChange v) s = .next (finish s s)) ∧
        (s.pins.door ≠ v →
          exec (.doorSensorChange v) s = .next (finish s
            ((s.withPins { s.pins with door := v }).withOpc { s.opc with
              doorTimer :=
                if s.opc.door = (match v with | .open => .opened | .closed => .closed) then none
                else some s.opc.debounce })))) ∧
      (∀ (v : CassetteLevel) (s : State),
        (s.pins.cassette = v → exec (.cassetteSensorChange v) s = .next (finish s s)) ∧
          (s.pins.cassette ≠ v →
            exec (.cassetteSensorChange v) s = .next (finish s
              ((s.withPins { s.pins with cassette := v }).withFtc { s.ftc with
                sensorTimer :=
                  if s.ftc.sensor = (match v with | .present => .present | .absent => .absent) then none
                  else some s.opc.debounce }))))) ∧
    ((∀ (n : Nat) (s : State), s.opc.doorTimer = some n →
        (s.pins.door = .closed →
          exec .doorDebounceExpiry s = .next (finish s (s.withOpc { s.opc with doorTimer := none, door := .closed }))) ∧
          (s.pins.door = .open → s.opc.door = .unknown →
            exec .doorDebounceExpiry s = .next (finish s (s.withOpc { s.opc with doorTimer := none, door := .opened }))) ∧
          (s.pins.door = .open → s.opc.door ≠ .unknown →
            exec .doorDebounceExpiry s = .next (finish s
              ((s.withOpc { s.opc with
                doorTimer := none, door := .opened, drum := .stopped, spinTimer := false, intervals := 0, indexSeen := false
                stallMonitor := false, survey := none
                mounts := s.opc.mounts.map fun m => { m with observed := none } }).withExc
                  (if s.exc.st = .armed then { s.exc with st := .held, stage := .arm, armed := none, flash := none }
                   else s.exc))))) ∧
        (∀ s : State, s.opc.doorTimer = none → exec .doorDebounceExpiry s = .next (finish s s)) ∧
        (∀ (n : Nat) (s : State), s.ftc.sensorTimer = some n →
          (s.pins.cassette = .present →
            exec .cassetteDebounceExpiry s = .next (finish s
              (s.withFtc { s.ftc with sensorTimer := none, sensor := .present }))) ∧
            (s.pins.cassette = .absent → s.ftc.st = .noCassette →
              exec .cassetteDebounceExpiry s = .next (finish s
                (s.withFtc { s.ftc with sensorTimer := none, sensor := .absent }))) ∧
            (s.pins.cassette = .absent → s.ftc.st ≠ .noCassette → s.exc.ptr = none →
              exec .cassetteDebounceExpiry s = .next (finish s
                (((s.withFtc { s.ftc with
                  sensorTimer := none, sensor := .absent, st := .noCassette, op := none, failed := none, cut := none }).withLink
                    (s.link.raise .cassette)).withExc
                      (if s.exc.cutWait then
                        { s.exc with
                          st := .idle, armed := none, flash := none, cutWait := false
                          stopReq := if s.cmp.st = .aborting then none else s.exc.stopReq }
                       else s.exc)))) ∧
            (s.pins.cassette = .absent → s.ftc.st ≠ .noCassette → s.exc.ptr ≠ none → s.exc.cutWait = false →
              let s1 := (s.withFtc { s.ftc with
                sensorTimer := none, sensor := .absent, st := .noCassette, op := none, failed := none, cut := none }).withLink
                  (s.link.raise .cassette)
              (s.exc.moveOut = false → s.exc.stage = .move →
                exec .cassetteDebounceExpiry s = .next (finish s s1)) ∧
                (s.exc.moveOut = true ∨ s.exc.stage ≠ .move →
                  exec .cassetteDebounceExpiry s = .next (finish s ((s1.withOpc
                    { s.opc with
                      strip := s.opc.strip.withdraw, prism := s.opc.prism.withdraw, turret := s.opc.turret.withdraw }).withExc
                        { (if s.exc.st = .armed then
                            { s.exc with st := .preparing, stage := .arm, armed := none, flash := none }
                           else s.exc) with
                          moveOut := false, ending := some .removal, esc := s.exc.esc.withdraw }))))) ∧
        (∀ s : State, s.ftc.sensorTimer = none → exec .cassetteDebounceExpiry s = .next (finish s s)))

/-- A drum index sets the encoder's count to 0. In SPINNING_UP the first starts the first interval, an interval of 98..102 ms
raises the count, any other resets it, and the fourth good one qualifies the drum, for a survey where one is due and for
AT_SPEED otherwise; in SURVEYING it gives the two codes of the strip position that waits for it; elsewhere it has no further
use. Qualification clears the interval count (the model's choice, log 33). -/
def Obligations.IndexQualifiesAndSurveys : Prop :=
  ∀ (ms : Nat) (upper lower : Byte) (s : State),
    let s0 := s.withPins { s.pins with encoder := 0 }
    ((s.opc.drum = .stopped ∨ s.opc.drum = .atSpeed ∨
        (s.opc.drum = .surveying ∧ ∀ v, s.opc.survey = some v → v.stage ≠ .awaitIndex)) →
      exec (.drumIndex ms upper lower) s = .next (finish s s0)) ∧
      (s.opc.drum = .spinningUp → s.opc.indexSeen = false →
        exec (.drumIndex ms upper lower) s = .next (finish s (s0.withOpc { s.opc with indexSeen := true }))) ∧
      (s.opc.drum = .spinningUp → s.opc.indexSeen = true → (ms < 98 ∨ 102 < ms) →
        exec (.drumIndex ms upper lower) s = .next (finish s (s0.withOpc { s.opc with intervals := 0 }))) ∧
      (s.opc.drum = .spinningUp → s.opc.indexSeen = true → 98 ≤ ms → ms ≤ 102 → s.opc.intervals < 3 →
        exec (.drumIndex ms upper lower) s = .next (finish s
          (s0.withOpc { s.opc with intervals := s.opc.intervals + 1 }))) ∧
      (s.opc.drum = .spinningUp → s.opc.indexSeen = true → 98 ≤ ms → ms ≤ 102 → 3 ≤ s.opc.intervals →
        (∀ m, (s.opc.mount m).observed ≠ none) → s.opc.surveyRequest = false →
          exec (.drumIndex ms upper lower) s = .next (finish s
            (s0.withOpc { s.opc with
              spinTimer := false, intervals := 0, indexSeen := false, stallMonitor := true, drum := .atSpeed }))) ∧
      (s.opc.drum = .spinningUp → s.opc.indexSeen = true → 98 ≤ ms → ms ≤ 102 → 3 ≤ s.opc.intervals →
        ((∃ m, (s.opc.mount m).observed = none) ∨ s.opc.surveyRequest = true) → s.exc.st ≠ .armed →
          exec (.drumIndex ms upper lower) s = .next (finish s
            (s0.withOpc { s.opc with
              spinTimer := false, intervals := 0, indexSeen := false, stallMonitor := true, drum := .surveying
              survey := some { pos := 0, stage := .shifting }
              strip := s.opc.strip.request .strip .survey 0 }))) ∧
      (∀ p : Fin 4, s.opc.drum = .surveying → s.opc.survey = some { pos := p, stage := .awaitIndex } →
        ∃ u, exec (.drumIndex ms upper lower) s = .next (finish s u) ∧
          (∀ m : Fin 8, u.opc.mount m =
            if m.val = 2 * p.val then { s.opc.mount m with observed := some upper.toNat }
            else if m.val = 2 * p.val + 1 then { s.opc.mount m with observed := some lower.toNat }
            else s.opc.mount m) ∧
          (∀ q : Fin 4, q.val = p.val + 1 →
            u.opc = { s.opc with
              mounts := u.opc.mounts, survey := some { pos := q, stage := .shifting }
              strip := s.opc.strip.request .strip .survey q.val } ∧ u.link = s.link) ∧
          (p.val = 3 →
            u.opc = { s.opc with mounts := u.opc.mounts, survey := none, surveyRequest := false, drum := .atSpeed } ∧
              u.link = (if (surveyLine s).any (fun r => r.remaining.any (Elem.notReady u.opc)) then s.link.raise .mount
                else s.link)) ∧
          u.pins = { s.pins with encoder := 0 } ∧ u.pending = s.pending ∧ u.thermReads = s.thermReads ∧ u.exc = s.exc ∧
          u.sls = s.sls ∧ u.cmp = s.cmp ∧ u.ftc = s.ftc ∧ u.prc = s.prc ∧ u.hyu = s.hyu ∧ u.txq = s.txq)

/-- The expiry of the running spin-up timer, and of the running stall monitor, stops the drum, records DRUM_STALL with the
number of the line IN_PROGRESS or 0, raises XFAULT and sets the stall hold; an armed countdown is cancelled for a hold,
without MOUNT (the model's reading, log 13), and the mounts of the strip positions that a survey cut short has not read become
UNVERIFIED, known before or not (the model's choice, log 20). While the hold stands the drum is not started. A timer that does
not run brings nothing (the model's reading, log 16). The stop clears the interval count (the model's choice, log 33). -/
def Obligations.DrumStallsAreHeld : Prop :=
  (∀ s : State,
    let stalled : State :=
      ((s.withOpc { s.opc with
        drum := .stopped, spinTimer := false, intervals := 0, indexSeen := false, stallMonitor := false, survey := none
        stallHold := true
        mounts :=
          match s.opc.survey with
          | none => s.opc.mounts
          | some v => s.opc.mounts.mapIdx fun i m => if 2 * v.pos.val ≤ i then { m with observed := none } else m }).withExc
          (if s.exc.st = .armed then { s.exc with st := .held, stage := .arm, armed := none, flash := none } else s.exc)).withLink
            (({ s.link with exposure := s.link.exposure.record ExposureKind.all .drumStall (s.exc.ptr.getD 0) } : Link).raise
              .xfault)
    (s.opc.spinTimer = true → exec .spinUpTimerExpiry s = .next (finish s stalled)) ∧
      (s.opc.stallMonitor = true → exec .stallMonitorExpiry s = .next (finish s stalled)) ∧
      (s.opc.spinTimer = false → exec .spinUpTimerExpiry s = .next (finish s s)) ∧
      (s.opc.stallMonitor = false → exec .stallMonitorExpiry s = .next (finish s s))) ∧
    (∀ s : State, s.opc.stallHold = true → spinUp s = s) ∧
    (∀ s : State, s.opc.drum = .stopped → s.opc.door = .closed → s.opc.resting = false → s.opc.stallHold = false →
      spinUp s = s.withOpc { s.opc with drum := .spinningUp, spinTimer := true, intervals := 0, indexSeen := false })

/-! ### Exposure -/

/-- STOP notes its form, HARD cancelling an armed countdown and withdrawing the requests of the line's elements that have
started no operation (the model's reading of R143, log 15); with nothing in flight the Exposure Controller then stands
STOPPED, and after a SOFT stop where it is IDLE. A STOP while STOPPED, or no stronger than the request that stands, changes
nothing. RESUME takes a STOPPED Exposure Controller on, and is refused STATE in any other state and during an abort. Where it
waits for a cut in STOPPED, RESUME leads to HELD (the model's choice, log 31). -/
def Obligations.StopAndResumeFrameTheWork : Prop :=
  (∀ s : State, LinkReady s → s.exc.st ≠ .stopped →
    (s.exc.stopReq = none →
      exec (.stop [ascii "SOFT"]) s = .next (finish s (answered (ascii "OK")
        ((heard s).withExc { s.exc with stopReq := some .soft })))) ∧
      (s.exc.stopReq ≠ none → exec (.stop [ascii "SOFT"]) s = .next (finish s (answered (ascii "OK") (heard s)))) ∧
      (s.exc.stopReq = some .hard → exec (.stop [ascii "HARD"]) s = .next (finish s (answered (ascii "OK") (heard s)))) ∧
      (s.exc.stopReq ≠ some .hard →
        exec (.stop [ascii "HARD"]) s = .next (finish s (answered (ascii "OK")
          (((heard s).withOpc
            { s.opc with
              strip := s.opc.strip.withdraw, prism := s.opc.prism.withdraw, turret := s.opc.turret.withdraw }).withExc
                { (if s.exc.st = .armed then
                    { s.exc with st := .preparing, stage := .arm, armed := none, flash := none }
                   else s.exc) with
                  stopReq := some .hard, esc := s.exc.esc.withdraw }))))) ∧
    ((∀ m : MechState, m.withdraw = { m with waiting := m.waiting.filter fun w => w.1 != .exposure }) ∧
      (∀ e : Escapement, e.withdraw = { e with waiting := e.waiting.filter fun w => w.2 != .element })) ∧
    (∀ s : State, s.cmp.st ≠ .aborting → s.exc.ending = none → s.exc.cutWait = false →
      (s.exc.stopReq = some .hard →
        (s.exc.st = .idle ∨ s.exc.st = .movingFilm ∨ s.exc.st = .preparing ∨ s.exc.st = .held) →
        (∀ k f, (s.opc.mech k).flight = some f → f.by_ ≠ .exposure) → (∀ x, s.exc.esc.flight ≠ some (x, .element)) →
        (s.exc.moveOut = true → s.ftc.st ≠ .moving) →
          react s = some (s.withExc
            { s.exc with st := .stopped, armed := none, flash := none
                         stage := if s.exc.stage = .move then .move else .prepare })) ∧
        (s.exc.stopReq = some .soft → s.exc.st = .idle →
          react s = some (s.withExc
            { s.exc with st := .stopped, armed := none, flash := none
                         stage := if s.exc.stage = .move then .move else .prepare }))) ∧
    (∀ (w : Text) (s : State), LinkReady s → w = ascii "SOFT" ∨ w = ascii "HARD" → s.exc.st = .stopped →
      exec (.stop [w]) s = .next (finish s (answered (ascii "OK") (heard s)))) ∧
    (∀ (params : List Text) (s : State), LinkReady s → params ≠ [ascii "SOFT"] → params ≠ [ascii "HARD"] →
      exec (.stop params) s = .next (finish s (answered (ascii "NO SYNTAX") (heard s)))) ∧
    (∀ s : State, LinkReady s →
      (s.exc.st ≠ .stopped ∨ s.cmp.st = .aborting →
        exec (.resume []) s = .next (finish s (answered (ascii "NO STATE") (heard s)))) ∧
        (s.exc.st = .stopped → s.cmp.st ≠ .aborting → s.exc.ptr = none →
          exec (.resume []) s = .next (finish s (answered (ascii "OK")
            ((heard s).withExc { s.exc with
              stopReq := none, st := if s.exc.cutWait = true then .held else .idle, armed := none, flash := none })))) ∧
        (s.exc.st = .stopped → s.cmp.st ≠ .aborting → s.exc.ptr ≠ none → s.exc.moveOut = true →
          exec (.resume []) s = .next (finish s (answered (ascii "OK")
            ((heard s).withExc { s.exc with
              stopReq := none, armed := none, flash := none
              st := if s.ftc.st = .moving then .movingFilm else .held })))) ∧
        (s.exc.st = .stopped → s.cmp.st ≠ .aborting → s.exc.ptr ≠ none → s.exc.moveOut = false →
          exec (.resume []) s = .next (finish s (answered (ascii "OK")
            (beginStage ((heard s).withExc { s.exc with stopReq := none })))))) ∧
    (∀ (w : Text) (ws : List Text) (s : State), LinkReady s →
      exec (.resume (w :: ws)) s = .next (finish s (answered (ascii "NO SYNTAX") (heard s))))

/-- TEMPS sets three strictly ascending thresholds in 0..100, or reads the thermometer, whose value is free in −40..150, once;
INTENSITY writes the entries its band and lens name, ALL naming every one, or reads one; each changes nothing else. A number
is judged by its value alone (the model's choice, log 37). -/
def Obligations.TempsAndIntensityAreKept : Prop :=
  (∀ (x y z : Text) (a b c : Int) (s : State), LinkReady s → [x, y, z].all cleanWord = true → parseNumber x = some a →
    parseNumber y = some b → parseNumber z = some c →
      (0 ≤ a → a < b → b < c → c ≤ 100 →
        exec (.temps [x, y, z]) s = .next (finish s (answered (ascii "OK")
          ((heard s).withExc { s.exc with t1 := a, t2 := b, t3 := c })))) ∧
        (¬ (0 ≤ a ∧ a < b ∧ b < c ∧ c ≤ 100) →
          exec (.temps [x, y, z]) s = .next (finish s (answered (ascii "NO RANGE") (heard s))))) ∧
    (∀ s : State, LinkReady s →
      ∃ now : Int, -40 ≤ now ∧ now ≤ 150 ∧
        exec (.temps []) s = .next (finish s (answered (s.exc.tempsReport now)
          ((heard s).withReads (s.thermReads + 1))))) ∧
    (∀ (x y z : Text) (b p : Option Int) (v : Int) (s : State), LinkReady s → [x, y, z].all cleanWord = true →
      parseNumberOrAll x = some b → parseNumberOrAll y = some p → parseNumber z = some v →
        (allInRange 0 3 b = true → allInRange 0 7 p = true → 1 ≤ v → v ≤ 255 →
          ∃ e : Exposure, exec (.intensity [x, y, z]) s = .next (finish s (answered (ascii "OK") ((heard s).withExc e))) ∧
            e = { s.exc with intensity := e.intensity } ∧
            ∀ (i : Fin 4) (k : Fin 8), (e.intensity.get i).get k =
              if (b = none ∨ b = some (i.val : Int)) ∧ (p = none ∨ p = some (k.val : Int)) then v.toNat
              else (s.exc.intensity.get i).get k) ∧
          ((allInRange 0 3 b = false ∨ allInRange 0 7 p = false ∨ v < 1 ∨ 255 < v) →
            exec (.intensity [x, y, z]) s = .next (finish s (answered (ascii "NO RANGE") (heard s))))) ∧
    (∀ (x y : Text) (b : Fin 4) (p : Fin 8) (s : State), LinkReady s → [x, y].all cleanWord = true →
      parseNumber x = some (b.val : Int) → parseNumber y = some (p.val : Int) →
        exec (.intensity [x, y]) s = .next (finish s (answered
          (ascii "OK BAND=" ++ decimal b.val ++ ascii " LENS=" ++ decimal p.val ++ ascii " VALUE=" ++
            decimal ((s.exc.intensity.get b).get p)) (heard s))))

/-- The countdown armed for a slot runs to its drum position, a full revolution where that is the present one, with the energy
of the table entry and the density; each encoder count lowers it by one, and at its end the charged lamp fires at the armed
energy, while an uncharged lamp makes the slot a miss, met again one revolution later, the eighth a FLASH fault. The arrival
of the armed slot as one command is its remaining counts one after another (the model's reading of the row, log 5). -/
def Obligations.CountsBringTheArmedSlot : Prop :=
  (∀ s : State, s.exc.armed = none →
    exec .encoderCount s = .next (finish s (s.withPins { s.pins with encoder := (s.pins.encoder + 1) % 3072 })) ∧
      exec .slotArrival s = .next (finish s s)) ∧
    (∀ (a : Armed) (s : State), s.exc.armed = some a →
      (2 ≤ a.count →
        exec .encoderCount s = .next (finish s
          ((s.withPins { s.pins with encoder := (s.pins.encoder + 1) % 3072 }).withExc
            { s.exc with armed := some { a with count := a.count - 1 } }))) ∧
        (a.count = 1 → s.exc.lamp = .charged →
          exec .encoderCount s = .next (finish s
            ((s.withPins { s.pins with encoder := (s.pins.encoder + 1) % 3072 }).withExc
              { s.exc with st := .flashing, armed := none, flash := some a.energy, lamp := .charging }))) ∧
        (s.exc.lamp = .charged →
          exec .slotArrival s = .next (finish s
            ((s.withPins { s.pins with encoder := (s.pins.encoder + a.count) % 3072 }).withExc
              { s.exc with st := .flashing, armed := none, flash := some a.energy, lamp := .charging }))) ∧
        (1 ≤ a.count → Nat.iterate countArrives a.count s = remainingCounts s)) ∧
    (∀ (a : Armed) (r : LineRecord) (e : Elem) (m : Fin 8) (slot : Nat) (p : Fin 8) (s : State), s.exc.armed = some a →
      s.exc.lamp ≠ .charged → s.exc.ptr = some r.number → s.sls.find r.number = some r → r.remaining.head? = some e →
        e.kind = .box m slot p →
          let s1 := (s.withPins { s.pins with encoder := (s.pins.encoder + a.count) % 3072 }).withSls
            (s.sls.update r.number fun r => { r with misses := min 65535 (r.misses + 1) })
          (s.exc.misses < 7 →
            exec .slotArrival s = .next (finish s (s1.withExc { s.exc with
              misses := s.exc.misses + 1
              armed := some {
                count := 3072, energy := flashEnergy (entry (s.exc.intensity.get (s.exc.band.getD 0)) p.val) s.exc.density } }))) ∧
            (7 ≤ s.exc.misses → s.opc.strip.waiting = [] → s.opc.prism.waiting = [] → s.opc.turret.waiting = [] →
              s.exc.esc.waiting = [] →
                exec .slotArrival s = .next (finish s ((s1.withExc { s.exc with
                  misses := s.exc.misses + 1, st := .faulted, stage := .arm, armed := none, flash := none }).withLink
                    (({ s.link with exposure := s.link.exposure.record ExposureKind.all .flash r.number } : Link).raise
                      .xfault))))) ∧
    (∀ (m : Fin 8) (slot : Nat) (p : Fin 8) (s : State),
      (arm m slot p s).exc.st = .armed ∧
        ∃ c, (arm m slot p s).exc.armed = some
          { count := c, energy := max 1 (min 255 (((s.exc.intensity.get (s.exc.band.getD 0)).get p * s.exc.density + 50) / 100)) } ∧
          1 ≤ c ∧ c ≤ 3072 ∧
          (((s.pins.encoder % 3072 + c : Nat) : Int)) % 3072 = ((slot : Int) * 32 + (s.opc.mount m).phase) % 3072)

/-- A photocell sense while FLASHING confirms the element and takes the Exposure Controller to the next, or, at the last,
makes the record DONE, raises LINE and frees it, under a HARD stop too (the model's choice, log 31); the window's end without
a sense is a FLASH fault; a charge sense charges a charging lamp. Outside these each is discarded; of the window's end that is
the model's reading (log 16). -/
def Obligations.FlashesAreConfirmedOrFault : Prop :=
  (∀ (n : Nat) (s : State), s.exc.st = .flashing → s.exc.ptr = some n →
    exec .photocellSense s = .next (finish s (goElement
      ((s.withSls (s.sls.update n fun r => { r with exposed := r.exposed + 1 })).withExc
        { s.exc with flash := none, misses := 0, stage := .prepare, index := s.exc.index + 1 }))) ∧
      (s.opc.strip.waiting = [] → s.opc.prism.waiting = [] → s.opc.turret.waiting = [] →
        s.exc.esc.waiting = [] →
          exec .confirmationWindowExpiry s = .next (finish s
            ((s.withExc { s.exc with st := .faulted, stage := .arm, armed := none, flash := none }).withLink
              (({ s.link with exposure := s.link.exposure.record ExposureKind.all .flash n } : Link).raise .xfault))))) ∧
    (∀ (r : LineRecord) (s : State), s.exc.st = .flashing → s.exc.ptr = some r.number → s.sls.find r.number = some r →
      s.exc.ending = none → r.elems.length = r.exposed + 1 → s.ftc.cutFollows r.cutAfter = false →
        ∃ u, exec .photocellSense s = .next (finish s u) ∧ u.exc.st = .idle ∧ u.exc.ptr = none ∧ u.exc.cutWait = false ∧
          u.link = s.link.raise .line ∧ u.sls.lastExposed = r.number ∧
          u.sls.find r.number = some { r with exposed := r.exposed + 1, exp := .done } ∧ u.ftc = s.ftc ∧ u.opc = s.opc ∧
          u.prc = s.prc) ∧
    (∀ s : State, s.exc.st ≠ .flashing →
      exec .photocellSense s = .next (finish s s) ∧ exec .confirmationWindowExpiry s = .next (finish s s)) ∧
    (∀ s : State,
      (s.exc.lamp = .charging → exec .chargeSense s = .next (finish s (s.withExc { s.exc with lamp := .charged }))) ∧
        (s.exc.lamp ≠ .charging → exec .chargeSense s = .next (finish s s)))

/-- Through every step a countdown runs only in ARMED with the door CLOSED and the drum AT_SPEED; and a flash comes to await
its photocell in no event but the arrival of an encoder count or of the armed slot at a charged lamp, with a countdown
running. -/
def Obligations.FlashesOnlyAtTheArmedSlot : Prop :=
  (∀ s t : State, FlashSafe s → step s = .next t → FlashSafe t) ∧
    (∀ (c : Instr) (s t : State), FlashSafe s → exec c s = .next t → t.exc.flash ≠ none → s.exc.flash = none →
      (c = .encoderCount ∨ c = .slotArrival) ∧ s.exc.lamp = .charged ∧ s.exc.st = .armed ∧ s.opc.door = .closed ∧
        s.opc.drum = .atSpeed ∧ ∃ a, s.exc.armed = some a ∧ t.exc.flash = some a.energy)

/-- What follows an event is the reactions one after another, each the first that stands (their order is the model's, log 3).
An idle Exposure Controller takes the oldest PENDING line, reads its band, charges the lamp and has the film transport move to
the line's target, or is held by film out or by a transport that is not READY. At the move's end, and after each element, it
goes to the next: a door, drum or mount hold, a space passed, a box whose operations are requested together, or the line's
end. When those operations have ended it holds, requests again what does not stand at its target (the misses standing, log
32), or arms. A hold whose causes are gone goes on. A line that an abort meets or a removal ends becomes PARTIAL once nothing
of it is in flight, what has not started withdrawn (log 15), even where its last element was just set (log 14); under a HARD
stop such a line is DONE, and a line with no element whose move completes in STOPPED too, a cut that follows being waited for
in STOPPED (log 31). A survey whose shift has ended waits for the index. In SKIPPING the oldest PENDING record is given up.
The composer makes the step in hand, takes up a step held for room when there is room, and moves between IDLE, READING and
WAIT_TEXT. The oldest record, terminal in both states, is released. An abort with no line, no cut wait and no row left
completes, restarting the grant timer for an outstanding ASK and, as the model has it (log 19), for a FAULTED Proof Controller
in BEST mode. -/
def Obligations.LinesRunThroughTheirStages : Prop :=
  ((∀ (n : Nat) (s t : State), react s = some t → settle (n + 1) s = settle n t) ∧
      (∀ (n : Nat) (s : State), react s = none → settle n s = s) ∧
      (∀ s u : State,
        let v := proofService (restService (spinUp (settle 4096 u)))
        let w := if idleHolds v = true ∧ idleHolds s = false then v.withLink (v.link.raise .idle) else v
        finish s u = w.withLink w.link.pump)) ∧
    (∀ (r : LineRecord) (s : State), s.exc.st = .idle → s.exc.stopReq = none → s.exc.ptr = none → s.cmp.st ≠ .aborting →
      surveyReact s = none → releaseOldest s = none → skipReact s = none → composerStep s = none →
        (s.sls.records.find? fun r => r.exp == .pending && !r.discard) = some r → s.sls.find r.number = some r →
          let band := bandOf s.exc.t1 s.exc.t2 s.exc.t3 (Config.reading s.thermReads)
          let taken := (s.withReads (s.thermReads + 1)).withSls (s.sls.update r.number fun r =>
            { r with exp := .inProgress, exposed := 0, band := some band, galley := some s.ftc.galley })
          let e : Exposure :=
            { s.exc with
              ptr := some r.number, index := 0, misses := 0, band := some band, armed := none, flash := none
              lamp := if s.exc.lamp = .off then .charging else s.exc.lamp }
          let m := s.ftc.lineTarget r
          (s.ftc.st = .ready → m.target ≤ s.ftc.cap → s.ftc.p ≠ m.target → 0 < (s.ftc.stepping m.target).steps →
            react s = some ((taken.withExc
              { e with st := .movingFilm, stage := .prepare, moveOut := true, filmOut := false }).withFtc
                { s.ftc with st := .moving, op := some (.lineMove m (s.ftc.stepping m.target)), failed := none })) ∧
            (s.ftc.st = .ready → m.target ≤ s.ftc.cap → s.ftc.p = m.target ∨ (s.ftc.stepping m.target).steps = 0 →
              react s = some (moveCompleted m (testLowFilm ((taken.withExc
                { e with st := .movingFilm, stage := .prepare, moveOut := true, filmOut := false }).withFtc
                  { s.ftc with
                    p := m.target, dmax := max s.ftc.dmax m.target, e := (s.ftc.stepping m.target).newE
                    marks := setMarks m.marks m.target s.ftc.marks, st := .ready, op := none, failed := none })))) ∧
            (s.ftc.st = .ready → s.ftc.cap < m.target →
              react s = some (((taken.withExc
                { e with st := .held, stage := .move, moveOut := false, filmOut := true }).withFtc
                  { s.ftc with filmOut := true }).withLink (s.link.raise .filmOut))) ∧
            (s.ftc.st ≠ .ready →
              react s = some ((taken.withExc
                { e with st := .held, stage := .move, moveOut := false, filmOut := false }).withLink
                  (if s.ftc.st = .noCassette then s.link.raise .cassette else s.link)))) ∧
    (∀ (f : Film) (r : LineRecord),
      let raw : Int × Bool :=
        match r.move with
        | .lead l => (f.p + l, false)
        | .toMark k l =>
          match f.marks.get k with
          | some v => (v, false)
          | none => (f.p + l, true)
      f.lineTarget r =
        { target := (max raw.1 f.g).toNat, number := r.number, marks := r.marks, noMark := raw.2
          clamped := decide (raw.1 < f.g) }) ∧
    (∀ (m : LineMove) (s : State), s.exc.st ≠ .stopped →
      moveCompleted m s = goElement ((s.withSls (s.sls.update m.number fun r =>
        { r with flags := flagIf m.noMark .noMark (flagIf m.clamped .clamped r.flags) })).withExc
          { s.exc with moveOut := false, stage := .prepare })) ∧
    (∀ (m : LineMove) (r : LineRecord) (s : State), s.exc.st = .stopped → s.exc.ptr = some r.number →
      s.sls.find r.number = some r → m.number = r.number →
        let u := (s.withSls (s.sls.update m.number fun r =>
          { r with flags := flagIf m.noMark .noMark (flagIf m.clamped .clamped r.flags) })).withExc
            { s.exc with moveOut := false, stage := .prepare }
        (r.elems.drop r.exposed ≠ [] → moveCompleted m s = u) ∧
          (r.elems.drop r.exposed = [] → s.exc.ending = none →
            let t := goElement u
            moveCompleted m s = (if t.exc.cutWait = true then t.withExc { t.exc with st := .stopped } else t) ∧
              (moveCompleted m s).sls =
                { s.sls.update r.number (fun r =>
                    { r with
                      flags := flagIf m.noMark .noMark (flagIf m.clamped .clamped r.flags), exp := .done }) with
                  lastExposed := r.number } ∧
              (moveCompleted m s).exc.ptr = none)) ∧
    (∀ (r : LineRecord) (s : State), s.exc.ptr = some r.number → s.sls.find r.number = some r →
      let rest := r.elems.drop r.exposed
      let stopped : Prop := s.opc.door ≠ .closed ∨ s.opc.drum ≠ .atSpeed ∨ ∃ e ∈ rest, e.notReady s.opc = true
      let held (stage : Stage) : State :=
        (s.withExc { s.exc with st := .held, armed := none, flash := none, stage := stage }).withLink
          (if rest.any (Elem.notReady s.opc) then s.link.raise .mount else s.link)
      let request (m p : Fin 8) (x misses : Nat) : State :=
        (s.withOpc { s.opc with
          strip := s.opc.strip.request .strip .exposure (m.val / 2)
          prism := s.opc.prism.request .prism .exposure (m.val % 2)
          turret := s.opc.turret.request .turret .exposure p.val }).withExc
            { s.exc with
              st := .preparing, armed := none, flash := none, stage := .arm, misses := misses
              esc := s.exc.esc.request x .element }
      (s.exc.ending = none →
        (∀ e es, rest = e :: es → s.exc.stopReq ≠ some .hard →
          (stopped → goElement s = held .prepare) ∧
            (¬ stopped → ∀ m slot p, e.kind = .box m slot p → goElement s = request m p e.x 0) ∧
            (¬ stopped → (∀ m slot p, e.kind ≠ .box m slot p) →
              goElement s = goElement ((s.withSls (s.sls.update r.number fun r =>
                { r with exposed := r.exposed + 1 })).withExc { s.exc with index := s.exc.index + 1 }))) ∧
          (rest = [] →
            let done := ((s.withSls
              { s.sls.update r.number (fun r => { r with exp := .done }) with lastExposed := r.number }).withExc
                { s.exc with
                  ptr := none, moveOut := false, filmOut := false, stage := .move, armed := none, flash := none }).withLink
                    (s.link.raise .line)
            (s.ftc.cutFollows r.cutAfter = true →
              let cut := startCut r.number done
              goElement s = cut.withExc { cut.exc with st := .held, cutWait := true, armed := none, flash := none }) ∧
              (s.ftc.cutFollows r.cutAfter = false →
                goElement s = done.withExc { done.exc with
                  st := .idle, cutWait := false, stopReq := if s.cmp.st = .aborting then none else s.exc.stopReq }))) ∧
        (s.cmp.st ≠ .aborting → s.exc.ending = none → s.exc.stopReq ≠ some .hard → s.exc.st = .preparing →
          opsOutstanding s = false → ∀ e es, rest = e :: es →
            (stopped → react s = some (held .arm)) ∧
              (¬ stopped → ∀ m slot p, e.kind = .box m slot p →
                (s.opc.strip.held = some (m.val / 2) ∧ s.opc.prism.held = some (m.val % 2) ∧
                    s.opc.turret.held = some p.val ∧ s.exc.esc.held = some e.x →
                  react s = some (s.withExc { s.exc with
                    st := .armed, flash := none, stage := .arm
                    armed := some
                      { count := countdownTo (slotPosition slot (s.opc.mount m).phase) s.pins.encoder
                        energy := flashEnergy (entry (s.exc.intensity.get (s.exc.band.getD 0)) p.val) s.exc.density } })) ∧
                  (¬ (s.opc.strip.held = some (m.val / 2) ∧ s.opc.prism.held = some (m.val % 2) ∧
                      s.opc.turret.held = some p.val ∧ s.exc.esc.held = some e.x) →
                    react s = some (request m p e.x s.exc.misses)))) ∧
        (s.cmp.st ≠ .aborting → s.exc.ending = none → s.exc.stopReq ≠ some .hard → s.exc.st = .held →
          s.exc.cutWait = false → s.exc.moveOut = false →
            (s.exc.stage = .move → s.ftc.st = .ready → s.exc.filmOut = false → react s = some (requestLineMove s)) ∧
              (s.exc.stage = .prepare → ¬ stopped → react s = some (goElement s)) ∧
              (s.exc.stage = .arm → ¬ stopped → react s = some (armTest s))) ∧
        (s.cmp.st = .aborting → s.exc.ending = none →
          s.sls.abort = some .hard ∨ s.exc.st = .held ∨ s.exc.st = .stopped ∨ s.exc.st = .faulted →
            react s = some ((s.withOpc
              { s.opc with
                strip := s.opc.strip.withdraw, prism := s.opc.prism.withdraw, turret := s.opc.turret.withdraw }).withExc
                  { (if s.exc.st = .armed then
                      { s.exc with st := .preparing, stage := .arm, armed := none, flash := none }
                     else s.exc) with ending := some .abort, esc := s.exc.esc.withdraw })) ∧
        (s.exc.ending ≠ none → quiet s = true →
          react s = some ((s.withSls
            { s.sls.update r.number (fun r => { r with exp := .part, flags := addLineFlag .part r.flags }) with
              lastExposed := r.number }).withExc
                { s.exc with
                  st := .idle, ptr := none, ending := none, moveOut := false, filmOut := false, stage := .move, armed := none
                  flash := none, cutWait := false
                  stopReq := if s.cmp.st = .aborting then none else s.exc.stopReq }))) ∧
    (∀ (r : LineRecord) (rs : List LineRecord) (s : State), exposureReact s = none → surveyReact s = none →
      s.sls.records = r :: rs → (r.exp = .done ∨ r.exp = .part ∨ r.exp = .notRequired) →
        (r.proof = .done ∨ r.proof = .skipped ∨ r.proof = .notRequired) →
          react s = some (s.withSls { s.sls with records := rs })) ∧
    (∀ (p : Fin 4) (s : State), exposureReact s = none → s.opc.survey = some { pos := p, stage := .shifting } →
      (s.opc.strip.flight = none → s.opc.strip.held = some p.val →
        react s = some (s.withOpc { s.opc with survey := some { pos := p, stage := .awaitIndex } })) ∧
        (s.opc.strip.flight ≠ none ∨ s.opc.strip.held ≠ some p.val → surveyReact s = none)) ∧
    (∀ (r : LineRecord) (s : State), exposureReact s = none → surveyReact s = none → releaseOldest s = none →
      s.prc.st = .skipping → (s.sls.records.find? fun r => r.proof == .pending && !r.discard) = some r →
        let u := s.withSls
          { s.sls.update r.number (fun r => { r with proof := .skipped, flags := addLineFlag .skipped r.flags }) with
            lastProofed := r.number }
        react s = some (if r.cutAfter = true then
            u.withPrc { s.prc with
              galley := if s.prc.galley ≥ 65535 then 1 else s.prc.galley + 1, headerDue := true
              galleyWait := if s.prc.galleyWait = some r.number then none else s.prc.galleyWait }
          else u)) ∧
    (∀ (t : Task) (s : State), exposureReact s = none → surveyReact s = none → releaseOldest s = none → skipReact s = none →
      s.cmp.task = some t →
        let room : Prop :=
          match t with
          | .offer _ _ => s.sls.records.length < 24
          | .place _ => (itemElems s.cmp.word.items).length ≤ freePool s
          | .brk b _ _ => (itemElems (s.cmp.word.items.take b.cut)).length + b.hyph.toList.length ≤ freePool s
          | .overset _ _ => ∀ l, s.cmp.line = some l → oversetRun l (itemElems s.cmp.word.items) ≤ freePool s
          | _ => True
        (s.cmp.st = .reading → (∀ opp, t ≠ .decision opp) →
          react s = some (match t with
            | .code c ps => codeStep c ps s
            | .fit opp => fitStep opp s
            | .place opp => placeStep opp s
            | .brk b flags opp => breakStep b flags opp s
            | .noBreak flags opp => noBreakStep flags opp s
            | .overset flags opp => oversetStep flags opp s
            | .offer r carried => offerStep r carried s
            | .after opp => afterStep opp s
            | .decision _ => s)) ∧
          (s.cmp.st = .stallRoom → room → react s = some (s.withCmp { s.cmp with st := .reading })) ∧
          (s.cmp.st = .stallRoom → ¬ room → composerStep s = none)) ∧
    (∀ s : State, exposureReact s = none → surveyReact s = none → releaseOldest s = none → skipReact s = none →
      composerStep s = none → exposureTake s = none →
        (s.cmp.st = .reading → s.cmp.task = none → s.txq.bytes = [] →
          let holds : Prop :=
            s.cmp.partCode ≠ none ∨ 0 < s.cmp.word.count ∨ s.cmp.word.items ≠ [] ∨ s.cmp.held ≠ none ∨
              ∃ l, s.cmp.line = some l ∧ l.elems ≠ []
          (holds → react s = some (s.withCmp { s.cmp with st := .waitText })) ∧
            (¬ holds → react s = some (s.withCmp { s.cmp with st := .idle }))) ∧
          (s.cmp.st = .idle ∨ s.cmp.st = .waitText → s.txq.bytes ≠ [] →
            react s = some (s.withCmp { s.cmp with st := .reading }))) ∧
    (∀ s : State, exposureReact s = none → surveyReact s = none → releaseOldest s = none → skipReact s = none →
      s.cmp.st = .aborting → s.exc.ptr = none → s.exc.cutWait = false → s.prc.out = [] →
        react s = some ((((s.withSls
          { s.sls with records := [], counter := 1, lastOpened := 0, abort := none }).withCmp
            { s.cmp with st := .idle, ladder := 0 }).withPrc
              { s.prc with
                ptr := none, galleyWait := none, headerDue := true
                timer := if s.prc.ask = true ∨ (s.prc.st = .faulted ∧ s.prc.mode = .best) then some s.prc.grant
                  else none }).withLink (s.link.raise .idle)))

/-! ### Film -/

/-- CASSETTE checks form, range, sensor and work in hand in that order, and loads: capacity, positions 0, marks unset, film
out cleared, the match armed and tested, the galley counter raised, READY. A number is judged by its value alone (the model's
choice, log 37). -/
def Obligations.CassetteLoadsAFreshFilm : Prop :=
  (∀ (w : Text) (n : Int) (s : State), LinkReady s → cleanWord w = true → parseNumber w = some n →
    (n < 12 ∨ 2400 < n → exec (.cassette [w]) s = .next (finish s (answered (ascii "NO RANGE") (heard s)))) ∧
      (12 ≤ n → n ≤ 2400 → s.ftc.sensor ≠ .present →
        exec (.cassette [w]) s = .next (finish s (answered (ascii "NO STATE") (heard s)))) ∧
      (12 ≤ n → n ≤ 2400 → s.ftc.sensor = .present → cassetteBusy s = true →
        exec (.cassette [w]) s = .next (finish s (answered (ascii "NO BUSY") (heard s)))) ∧
      (12 ≤ n → n ≤ 2400 → s.ftc.sensor = .present → cassetteBusy s = false →
        let galley := if s.ftc.galley ≥ 65535 then 1 else s.ftc.galley + 1
        let low := s.ftc.lowFilm ≠ 0 ∧ n.toNat * 1440 ≤ s.ftc.lowFilm * 240
        exec (.cassette [w]) s = .next (finish s (answered
          (ascii "OK CAP=" ++ depthNat (n.toNat * 1440) ++ ascii " GALLEY=" ++ decimal galley)
          ((((heard s).withFtc { s.ftc with
            cap := n.toNat * 1440, p := 0, g := 0, dmax := 0, marks := Vector.replicate 4 none, e := 0, filmOut := false
            lowMatched := decide low, galley := galley, st := .ready, op := none, failed := none, cut := none }).withExc
              { s.exc with filmOut := false }).withLink
                (if low then (heard s).link.raise .filmLow else (heard s).link)))))) ∧
    (∀ (params : List Text) (s : State), LinkReady s → (∀ w, params = [w] → parseNumber w = none) →
      exec (.cassette params) s = .next (finish s (answered (ascii "NO SYNTAX") (heard s)))) ∧
    (∀ s : State, cassetteBusy s = true ↔
      s.ftc.st = .moving ∨ s.ftc.st = .cutting ∨ (s.exc.ptr ≠ none ∧ (s.exc.moveOut = true ∨ s.exc.stage ≠ .move)) ∨
        s.exc.cutWait = true)

/-- FEEDCUT is refused STATE without a cassette and while FAULTED, and BUSY while film or exposure is at work or a line waits;
otherwise it starts a cut for line 0 to the smaller of the capacity and Dmax plus the margin. A move, for a line or a cut, has
the motor steps and the accumulator value of the feed correction, and a timeout of 100 ms and an eighth of its steps. -/
def Obligations.FeedcutCutsBelowTheDeepestLine : Prop :=
  (∀ s : State, LinkReady s →
    (s.ftc.st = .noCassette ∨ s.ftc.st = .faulted →
      exec (.feedCut []) s = .next (finish s (answered (ascii "NO STATE") (heard s)))) ∧
      (s.ftc.st ≠ .noCassette → s.ftc.st ≠ .faulted →
        (s.ftc.st ≠ .ready ∨ s.exc.st ≠ .idle ∨ ∃ r ∈ s.sls.records, r.exp = .pending ∧ r.discard = false) →
          exec (.feedCut []) s = .next (finish s (answered (ascii "NO BUSY") (heard s)))) ∧
      (s.ftc.st = .ready → s.exc.st = .idle → (∀ r ∈ s.sls.records, r.exp = .pending → r.discard = true) →
        let target := min s.ftc.cap (s.ftc.dmax + s.ftc.margin)
        (s.ftc.p ≠ target → 0 < (s.ftc.stepping target).steps →
          exec (.feedCut []) s = .next (finish s (answered (ascii "OK") ((heard s).withFtc
            { s.ftc with
              st := .cutting, op := some (.margin (s.ftc.stepping target)), failed := none
              cut := some { target := target, line := 0 } })))) ∧
          (s.ftc.p = target → s.ftc.lowMatched = true →
            exec (.feedCut []) s = .next (finish s (answered (ascii "OK") ((heard s).withFtc
              { s.ftc with
                st := .cutting, op := some .cutter, failed := none, cut := some { target := target, line := 0 }
                p := target, dmax := max s.ftc.dmax target, e := (s.ftc.stepping target).newE })))))) ∧
    (∀ (w : Text) (ws : List Text) (s : State), LinkReady s →
      exec (.feedCut (w :: ws)) s = .next (finish s (answered (ascii "NO SYNTAX") (heard s)))) ∧
    (∀ (f : Film) (target : Nat),
      let n : Int := (target : Int) - f.p
      let e1 := f.e + (n.natAbs : Int) * f.feed
      let k := e1.tdiv 1000000
      (f.stepping target).steps = ((n.natAbs : Int) + k).toNat ∧ (f.stepping target).newE = e1 - k * 1000000 ∧
        ((f.stepping target).forward = true ↔ f.p < target) ∧
        (f.stepping target).timeout = 100 + (f.stepping target).steps / 8)

/-- The stepper's completion sense completes the move in flight: P at the target, Dmax following, the line's marks at P, the
accumulator at the move's value; after a cut's margin move the cutter is operated. The cutter's completion starts a new
galley. A timeout of either records JAM or CUTTER with the line's number and leaves the film FAULTED where it stood. The end
of a cut, or of its margin move by a JAM, ends a cut wait. A sense with no operation in flight is discarded; of a timeout that
is the model's reading (log 16). -/
def Obligations.FilmOperationsEnd : Prop :=
  (∀ (m : LineMove) (p : Stepping) (s : State), s.ftc.op = some (.lineMove m p) →
    (s.exc.st = .stopped → s.ftc.lowMatched = true →
      exec .stepperComplete s = .next (finish s
        (((s.withFtc { s.ftc with
          p := m.target, dmax := max s.ftc.dmax m.target, e := p.newE, marks := setMarks m.marks m.target s.ftc.marks
          st := .ready, op := none, failed := none }).withSls
            (s.sls.update m.number fun r =>
              { r with flags := flagIf m.noMark .noMark (flagIf m.clamped .clamped r.flags) })).withExc
                { s.exc with moveOut := false, stage := .prepare }))) ∧
      (exec .stepperComplete s = .next (finish s (moveCompleted m (testLowFilm (s.withFtc { s.ftc with
          p := m.target, dmax := max s.ftc.dmax m.target, e := p.newE, marks := setMarks m.marks m.target s.ftc.marks
          st := .ready, op := none, failed := none }))))) ∧
      (∀ i : Fin 4, (setMarks m.marks m.target s.ftc.marks).get i =
        if i ∈ m.marks then some m.target else s.ftc.marks.get i) ∧
      exec .moveTimeout s = .next (finish s
        (((s.withFtc { s.ftc with st := .faulted, op := none, failed := some (.lineMove m) }).withLink
          (({ s.link with film := s.link.film.record FilmKind.all .jam m.number } : Link).raise .ffault)).withExc
            (if s.exc.st = .movingFilm then { s.exc with st := .held, armed := none, flash := none } else s.exc)))) ∧
    (∀ (p : Stepping) (c : Cut) (s : State), s.ftc.op = some (.margin p) → s.ftc.cut = some c →
      let free : Exposure :=
        if s.exc.cutWait then
          { s.exc with
            st := .idle, armed := none, flash := none, cutWait := false
            stopReq := if s.cmp.st = .aborting then none else s.exc.stopReq }
        else s.exc
      (s.ftc.lowMatched = true →
        exec .stepperComplete s = .next (finish s (s.withFtc { s.ftc with
          p := c.target, dmax := max s.ftc.dmax c.target, e := p.newE, st := .cutting, op := some .cutter
          failed := none }))) ∧
        exec .moveTimeout s = .next (finish s
          (((s.withFtc { s.ftc with st := .faulted, op := none, failed := some .margin }).withLink
            (({ s.link with film := s.link.film.record FilmKind.all .jam c.line } : Link).raise .ffault)).withExc free))) ∧
    (∀ (c : Cut) (s : State), s.ftc.op = some .cutter → s.ftc.cut = some c →
      let free : Exposure :=
        if s.exc.cutWait then
          { s.exc with
            st := .idle, armed := none, flash := none, cutWait := false
            stopReq := if s.cmp.st = .aborting then none else s.exc.stopReq }
        else s.exc
      exec .cutterComplete s = .next (finish s
        (((s.withFtc { s.ftc with
          g := s.ftc.p, dmax := s.ftc.p, marks := Vector.replicate 4 none
          galley := if s.ftc.galley ≥ 65535 then 1 else s.ftc.galley + 1, st := .ready, op := none, cut := none
          failed := none }).withLink (s.link.raise .galley)).withExc free)) ∧
        exec .cutterTimeout s = .next (finish s
          (((s.withFtc { s.ftc with st := .faulted, op := none, failed := some .cutter }).withLink
            (({ s.link with film := s.link.film.record FilmKind.all .cutter c.line } : Link).raise .ffault)).withExc free))) ∧
    (∀ s : State, s.ftc.op = none →
      exec .stepperComplete s = .next (finish s s) ∧ exec .moveTimeout s = .next (finish s s) ∧
        exec .cutterComplete s = .next (finish s s) ∧ exec .cutterTimeout s = .next (finish s s))

/-- Through every step the galley top ≤ P ≤ Dmax ≤ capacity, every set mark lies between the galley top and Dmax, and the
feed-correction accumulator lies strictly between −1,000,000 and +1,000,000. -/
def Obligations.FilmStaysWithinTheCassette : Prop :=
  ∀ s t : State, s.ftc.Kept → step s = .next t → t.ftc.Kept

/-! ### Galley proofs -/

/-- The printer's bytes are read in order: a PRINTED, a READY or a FAULT with the byte after it, whatever it is, or a byte
that is discarded; each message is an event of its own. The end of a message frees the proof port. READY n, with an ASK
outstanding or in FAULTED, ends the wait with room for n rows, 15 at most, and is discarded otherwise. PRINTED removes the
oldest outstanding row; at the last row of a record its proof is DONE and PROOF raised; with nothing outstanding it is
discarded. After an event, with the port free, the Proof Controller sends a header where one is due, the first row of the
record to begin, or the next row of the record begun, and asks for room where there is none. Its state is IDLE with no row
ready, WAITING with an ASK outstanding, no room or 15 rows out, and SENDING otherwise; where nothing is begun, the grant timer
runs while an ASK, a row, a READY 0 or a fault in BEST mode is waited for, and is stopped where none is. That an ASK waits for
a busy port with its timer running, that a READY drops it, and that no row is sent in WAITING is the model's choice (log 17);
so is, in an abort, that only rows keep the timer (log 19). That the bytes after a READY or FAULT come with it is the model's
form (log 24). -/
def Obligations.PrinterMessagesMoveTheRows : Prop :=
  let behind (bytes : Text) (t : State) : State := t.withPrc { t.prc with half := halfAfter bytes }
  (∀ s : State, exec .proofMessageEnd s = .next (finish s (s.withPrc { s.prc with port := none }))) ∧
    (∀ (b : Byte) (s : State),
      (s.prc.half = none →
        printerByte s b =
          if b = 0x50#8 then takePrinted s
          else if b = 0x52#8 then s.withPrc { s.prc with half := some .ready }
          else if b = 0x46#8 then s.withPrc { s.prc with half := some .fault }
          else s) ∧
        (s.prc.half = some .ready → printerByte s b = takeReady b (s.withPrc { s.prc with half := none })) ∧
        (s.prc.half = some .fault → printerByte s b = takeFault b (s.withPrc { s.prc with half := none })) ∧
        byteRead s b = if s.prc.half ≠ none ∨ b = 0x50#8 then finish s (printerByte s b) else printerByte s b) ∧
    (∀ (n : PrinterMessage) (s : State), (Instr.printerReady n).wf = true →
      (s.prc.half = some .fault →
        exec (.printerReady n) s = .next ((n.value :: n.after).foldl byteRead
          (finish s (takeFault 0x52#8 (s.withPrc { s.prc with half := none }))))) ∧
        (s.prc.half ≠ some .fault → s.prc.ask = false → s.prc.st ≠ .faulted →
          exec (.printerReady n) s = .next (behind n.after (finish s (s.withPrc { s.prc with half := none })))) ∧
        (s.prc.half ≠ some .fault → s.prc.ask = true ∨ s.prc.st = .faulted →
          exec (.printerReady n) s = .next (behind n.after (finish s (s.withPrc { s.prc with
            half := none
            st := if s.prc.st = .skipping ∨ s.prc.st = .faulted then .idle else s.prc.st
            ask := false, askDue := false, room := min n.value.toNat 15
            afterZero := decide (n.value = 0#8) && rowWanted s
            timer := if s.cmp.st = .aborting then s.prc.timer else some s.prc.grant }))))) ∧
    (∀ s : State,
      (s.prc.half = some .ready →
        exec .printed s = .next (finish s (takeReady 0x50#8 (s.withPrc { s.prc with half := none })))) ∧
        (s.prc.half = some .fault →
          exec .printed s = .next (finish s (takeFault 0x50#8 (s.withPrc { s.prc with half := none })))) ∧
        (s.prc.half = none → s.prc.out = [] → exec .printed s = .next (finish s s))) ∧
    (∀ (ws : List ProofRow) (s : State), s.prc.half = none →
      let u := s.withPrc { s.prc with
        out := ws, afterZero := false, timer := if s.cmp.st = .aborting then s.prc.timer else some s.prc.grant }
      (s.prc.out = .header :: ws → exec .printed s = .next (finish s u)) ∧
        (∀ n j r, s.prc.out = .row n j :: ws → s.sls.find n = some r → j < rowCount s.opc r →
          exec .printed s = .next (finish s u)) ∧
        (∀ n j r, s.prc.out = .row n j :: ws → s.sls.find n = some r → rowCount s.opc r ≤ j → r.cutAfter = false →
          exec .printed s = .next (finish s ((u.withSls
            { s.sls.update n (fun r => { r with proof := .done }) with lastProofed := n }).withLink
              (s.link.raise .proof)))) ∧
        (∀ n j r, s.prc.out = .row n j :: ws → s.sls.find n = some r → rowCount s.opc r ≤ j → r.cutAfter = true →
          exec .printed s = .next (finish s (((u.withSls
            { s.sls.update n (fun r => { r with proof := .done }) with lastProofed := n }).withPrc
              { u.prc with
                galley := if s.prc.galley ≥ 65535 then 1 else s.prc.galley + 1, headerDue := true
                galleyWait := if s.prc.galleyWait = some n then none else s.prc.galleyWait }).withLink
                  (s.link.raise .proof))))) ∧
    (∀ s : State, s.cmp.st ≠ .aborting → s.prc.st ≠ .skipping → s.prc.st ≠ .faulted → s.prc.port = none →
      s.prc.ask = false → s.prc.askDue = false → s.prc.out.length < 15 →
        let sent (row : ProofRow) (cells : List Cell) : Proof :=
          { s.prc with
            st := .sending, port := some (.row cells), room := s.prc.room - 1, out := s.prc.out ++ [row]
            timer := match s.prc.timer with
              | some t => some t
              | none => some s.prc.grant }
        let begun (r : LineRecord) (j : Nat) : State :=
          (s.withSls (s.sls.update r.number fun r => { r with proof := .inProgress })).withPrc
            (if j < rowCount s.opc r then { sent (.row r.number j) (rowCellsOf s.opc r j) with ptr := some (r.number, j + 1) }
             else
               { sent (.row r.number j) (rowCellsOf s.opc r j) with
                 ptr := none, galleyWait := if r.cutAfter then some r.number else s.prc.galleyWait })
        (∀ r, s.prc.ptr = none → s.prc.galleyWait = none →
          (s.sls.records.find? fun r => r.proof == .pending && !r.discard) = some r →
            (0 < s.prc.room → s.prc.headerDue = true →
              proofService s = s.withPrc { sent .header (headerCells s.prc.galley s.cmp.job.name) with headerDue := false }) ∧
              (0 < s.prc.room → s.prc.headerDue = false → proofService s = begun r 1) ∧
              (s.prc.room = 0 → s.prc.afterZero = false →
                proofService s = s.withPrc { s.prc with
                  st := .waiting, port := some .ask, ask := true, timer := some s.prc.grant })) ∧
          (∀ n j r, s.prc.ptr = some (n, j) → s.sls.find n = some r → 0 < s.prc.room → proofService s = begun r j)) ∧
    (∀ s : State,
      let silent : Prop := s.prc.st = .skipping ∨ s.prc.st = .faulted
      let ready : Prop := ¬ silent ∧ s.cmp.st ≠ .aborting ∧
        (s.prc.ptr ≠ none ∨ (s.prc.galleyWait = none ∧ ∃ r ∈ s.sls.records, r.proof = .pending ∧ r.discard = false))
      (¬ silent → s.prc.ask = true ∨ s.prc.askDue = true → s.prc.decided (rowReady s) = .waiting) ∧
        (¬ silent → s.prc.ask = false → s.prc.askDue = false →
          (¬ ready → s.prc.decided (rowReady s) = .idle) ∧
            (ready → 0 < s.prc.room → s.prc.out.length < 15 → s.prc.decided (rowReady s) = .sending) ∧
            (ready → s.prc.room = 0 ∨ 15 ≤ s.prc.out.length → s.prc.decided (rowReady s) = .waiting)) ∧
        (s.prc.port ≠ none ∨ s.cmp.st = .aborting ∨
            (s.prc.askDue = false ∧ (silent ∨ s.prc.ask = true ∨ ¬ ready ∨ 15 ≤ s.prc.out.length ∨
              (s.prc.room = 0 ∧ s.prc.afterZero = true))) →
          (silent → proofService s = timerService s) ∧
            (¬ silent → proofService s = timerService (s.withPrc { s.prc with st := s.prc.decided (rowReady s) }))) ∧
        (s.prc.port = none → s.cmp.st ≠ .aborting → s.prc.askDue = true →
          proofService s = s.withPrc { s.prc with
            st := if s.prc.st = .skipping ∨ s.prc.st = .faulted then s.prc.st else .waiting
            port := some .ask, ask := true, askDue := false, timer := some s.prc.grant }) ∧
        (let waited : Prop :=
           (s.cmp.st = .aborting → s.prc.out ≠ []) ∧
             (s.cmp.st ≠ .aborting →
               s.prc.ask = true ∨ s.prc.askDue = true ∨ s.prc.out ≠ [] ∨ (s.prc.afterZero = true ∧ ready) ∨
                 (s.prc.st = .faulted ∧ s.prc.mode = .best))
         (waited → s.prc.timer = none → timerService s = s.withPrc { s.prc with timer := some s.prc.grant }) ∧
           (waited → s.prc.timer ≠ none → timerService s = s) ∧
           (¬ waited → timerService s = s.withPrc { s.prc with timer := none })))

/-- FAULT c records PRINTER with the number of the oldest outstanding row's record, or of the record to begin, or 0, keeps the
code, empties the outstanding rows and the room, and leaves the Proof Controller FAULTED: in REQUIRED mode the records at the
printer return to PENDING and the timer stops, in BEST mode they are SKIPPED with SKIP raised and the timer runs, but stands
stopped in an abort (the model's choice, log 19). The grant timer's expiry: with an ASK outstanding, REQUIRED mode records
SILENT once, raises PFAULT and asks again, and BEST mode gives the records at the printer up, raises SKIP and enters SKIPPING,
as it does in FAULTED; without an ASK, and in SKIPPING, one is begun; in an abort the rows still outstanding are given up. The
proof galley counter rises once for each cut-after record given up in one event (the model's choice, log 34); a header row has
no record (log 18); an ASK called for while the port is busy waits for it with its timer running (log 17); a timer that does
not run brings nothing (log 16). In REQUIRED mode a FAULT acts so in an abort too (the model's choice, log 19). That the bytes
after a FAULT come with it is the model's form (log 24). -/
def Obligations.PrinterFaultsAndSilenceGiveTheRowsUp : Prop :=
  let behind (bytes : Text) (t : State) : State := t.withPrc { t.prc with half := halfAfter bytes }
  let next (n : Nat) : Nat := if n ≥ 65535 then 1 else n + 1
  let asking (p : Proof) : Proof :=
    if p.port = none then { p with port := some .ask, ask := true, askDue := false, timer := some p.grant }
    else { p with askDue := true, timer := some p.grant }
  let gaveUp (p : Proof) : Proof :=
    { p with out := [], ptr := none, room := 0, afterZero := false
             headerDue := p.headerDue || p.out.any ProofRow.isHeader }
  let atPrinter (s : State) : List LineRecord := s.sls.records.filter fun r => r.proof == .inProgress
  (∀ (gone : List LineRecord) (s : State),
      skipAll gone s =
        (s.withSls
          { s.sls with
            lastProofed := (gone.getLast?.map LineRecord.number).getD s.sls.lastProofed
            records := s.sls.records.map fun r =>
              if gone.any fun g => g.number == r.number then
                { r with proof := .skipped, flags := addLineFlag .skipped r.flags }
              else r }).withPrc
          { s.prc with
            galley := Nat.iterate next (gone.countP LineRecord.cutAfter) s.prc.galley
            headerDue := s.prc.headerDue || gone.any LineRecord.cutAfter
            galleyWait :=
              if gone.any fun g => g.cutAfter && s.prc.galleyWait == some g.number then none else s.prc.galleyWait }) ∧
    ((∀ (s : State) (n j : Nat) (ws : List ProofRow), s.prc.out = .row n j :: ws → proofFaultLine s = n) ∧
      (∀ s : State, (∀ n j ws, s.prc.out ≠ .row n j :: ws) →
        proofFaultLine s =
          if s.prc.ptr = none ∧ s.prc.galleyWait = none then
            ((s.sls.records.find? fun r => r.proof == .pending && !r.discard).map LineRecord.number).getD 0
          else 0)) ∧
    (∀ (c : PrinterMessage) (s : State), (Instr.printerFault c).wf = true →
      let l : Link :=
        ({ s.link with proof := s.link.proof.record ProofKind.all .printer (proofFaultLine s) } : Link).raise .pfault
      let faulted (p : Proof) (timer : Option Nat) : Proof :=
        { gaveUp p with
          lastCode := some c.value, st := .faulted, ask := false, askDue := false, timer := timer
          half := none }
      (s.prc.half = some .ready →
        exec (.printerFault c) s = .next ((c.value :: c.after).foldl byteRead
          (finish s (takeReady 0x46#8 (s.withPrc { s.prc with half := none }))))) ∧
        (s.prc.half ≠ some .ready → s.prc.mode = .best →
          let u := skipAll (atPrinter s) s
          exec (.printerFault c) s = .next (behind c.after (finish s
            ((u.withLink (if atPrinter s = [] then l else l.raise .skip)).withPrc
              (faulted u.prc (if s.cmp.st = .aborting then none else some s.prc.grant)))))) ∧
        (s.prc.half ≠ some .ready → s.prc.mode = .required →
          exec (.printerFault c) s = .next (behind c.after (finish s
            (((s.withLink l).withSls
              { s.sls with records := s.sls.records.map fun r =>
                if r.proof = .inProgress then { r with proof := .pending } else r }).withPrc
                  (faulted
                    { s.prc with
                      galleyWait :=
                        if (s.prc.galleyWait.bind s.sls.find).any fun r => r.proof == .inProgress || r.proof == .pending
                        then none else s.prc.galleyWait }
                    none)))))) ∧
    (∀ (n : Nat) (s : State), s.prc.timer = some n → s.cmp.st ≠ .aborting →
      (s.prc.st ≠ .faulted → s.prc.st ≠ .skipping → s.prc.ask = false →
        exec .grantTimerExpiry s = .next (finish s
          (s.withPrc { asking s.prc with st := .waiting, afterZero := false }))) ∧
        (s.prc.st ≠ .faulted → s.prc.st ≠ .skipping → s.prc.ask = true → s.prc.mode = .required →
          let held := s.link.proof.first = some .silent ∨ ProofKind.silent ∈ s.link.proof.also
          exec .grantTimerExpiry s = .next (finish s ((s.withLink (({ s.link with
            proof := if held then s.link.proof else s.link.proof.record ProofKind.all .silent (proofFaultLine s) } :
              Link).raise .pfault)).withPrc (asking s.prc)))) ∧
        (s.prc.st ≠ .faulted → s.prc.st ≠ .skipping → s.prc.ask = true → s.prc.mode = .best →
          let u := skipAll (atPrinter s) s
          exec .grantTimerExpiry s = .next (finish s
            ((u.withLink (s.link.raise .skip)).withPrc (asking { gaveUp u.prc with st := .skipping })))) ∧
        (s.prc.st = .faulted →
          exec .grantTimerExpiry s = .next (finish s
            ((s.withLink (s.link.raise .skip)).withPrc (asking { gaveUp s.prc with st := .skipping })))) ∧
        (s.prc.st = .skipping → exec .grantTimerExpiry s = .next (finish s (s.withPrc (asking s.prc))))) ∧
    (∀ (n : Nat) (s : State), s.prc.timer = some n → s.cmp.st = .aborting →
      let gone := s.sls.records.filter fun r => s.prc.out.any (ProofRow.ofRecord r.number)
      let u := skipAll gone s
      exec .grantTimerExpiry s = .next (finish s
        ((u.withLink (if gone = [] then s.link else s.link.raise .skip)).withPrc
          { u.prc with out := [], timer := none, headerDue := u.prc.headerDue || s.prc.out.any ProofRow.isHeader }))) ∧
    (∀ s : State, s.prc.timer = none → exec .grantTimerExpiry s = .next (finish s s))

/-- A proof row has 132 cells: the line number right-aligned in columns 1 to 5; in the first row the break mark in column 7
and the marks of the flags in columns 8 to 10, in a later one + in column 11, and blanks otherwise; the line's text cells from
column 12 on, 120 to the row; a blank at the end. The text cells are, for each element, its spaces before as blanks and then
its character in the style of its mount, one blank for EN and THIN, two for EM, # for ABSENT; a record with 120 of them or
fewer has one row. A header row has GALLEY in columns 1 to 6, the proof galley counter right-aligned in columns 8 to 12, JOB
in columns 14 to 16, the job's name left-aligned in columns 18 to 33, and blanks otherwise. Marks, numbers, names, # and
blanks are in style 0. -/
def Obligations.ProofRowsHave132Cells : Prop :=
  let cell (b : Byte) : Cell := { code := b, style := 0 }
  let blanks (n : Nat) : List Cell := List.replicate n (cell 0x20#8)
  (∀ (o : Optics) (r : LineRecord) (j : Nat), r.number ≤ 65535 →
    let cells := rowCellsOf o r j
    let digits := (decimal r.number).map cell
    cells.length = 132 ∧ cells.take 5 = blanks (5 - digits.length) ++ digits ∧
      (cells.drop 11).take 120 = padRight 120 (((textCells o r.elems).drop (120 * (j - 1))).take 120) ∧
      cells.getLast? = some (cell 0x20#8) ∧
      (j ≠ 1 → (cells.drop 5).take 6 = blanks 5 ++ [cell 0x2B#8]) ∧
      (j = 1 →
        (cells.drop 5).take 6 =
          [cell 0x20#8,
           cell (match r.brk with
             | .hyphen => 0x48#8
             | .hardHyphen => 0x3D#8
             | .overset => 0x21#8
             | .forced => 0x3E#8
             | _ => 0x20#8),
           cell (if LineFlag.loose ∈ r.flags then 0x4C#8 else 0x20#8),
           cell (if LineFlag.lapsed ∈ r.flags then 0x54#8 else if LineFlag.referred ∈ r.flags then 0x52#8 else 0x20#8),
           cell (if LineFlag.missing ∈ r.flags then 0x4D#8 else if LineFlag.code ∈ r.flags then 0x3F#8
                 else if LineFlag.sizeSubst ∈ r.flags then 0x53#8 else 0x20#8),
           cell 0x20#8])) ∧
    (∀ o : Optics, textCells o [] = []) ∧
    (∀ (o : Optics) (e : Elem) (es : List Elem),
      textCells o (e :: es) =
        blanks e.before ++
          (match e.kind with
           | .box m slot _ =>
             [{ code := BitVec.ofNat 8 (slot + 0x20)
                style := match (o.mount m).style with
                  | .plain => 0
                  | .under => 1
                  | .bold => 2
                  | .both => 3 }]
           | .en | .thin => blanks 1
           | .em => blanks 2
           | .absent => [cell 0x23#8]) ++
          textCells o es) ∧
    (∀ (o : Optics) (r : LineRecord), (textCells o r.elems).length ≤ 120 → rowCount o r = 1) ∧
    (∀ (o : Optics) (r : LineRecord),
      1 ≤ rowCount o r ∧ (textCells o r.elems).length ≤ 120 * rowCount o r ∧
        (120 < (textCells o r.elems).length → 120 * (rowCount o r - 1) < (textCells o r.elems).length)) ∧
    (∀ (galley : Nat) (name : Text), galley ≤ 65535 →
      let digits := (decimal galley).map cell
      let shown := (name.take 16).map cell
      headerCells galley name =
        (ascii "GALLEY").map cell ++ blanks 1 ++ (blanks (5 - digits.length) ++ digits) ++ blanks 1 ++
          (ascii "JOB").map cell ++ blanks 1 ++ (shown ++ blanks (16 - shown.length)) ++ blanks 99 ∧
        (headerCells galley name).length = 132)

/-! ### Invariants over all of it -/

/-- Through every step the text queue holds at most 4,096 bytes, the reply queue 4 replies, the store 24 records, records,
open line and held line 2,048 elements together, and at most 15 rows are outstanding or granted. -/
def Obligations.BuffersStayWithinTheirLimits : Prop :=
  ∀ s t : State, BuffersSafe s → step s = .next t → BuffersSafe t

/-- The 410 is safe after a reset of either kind: every invariant above holds there. -/
def Obligations.ResetIsSafe : Prop :=
  Safe State.reset ∧ ∀ (c : Cause) (s : State), Safe (resetAll c s)
end

