-- ==== Sys2Proof/Laws/State.lean ====
section
/-! SUPPORT. One lemma per field of `State` and per replacement of a block, and the laws of two replacements of one block,
so that no proof unfolds a record update. -/

namespace Sys2Proof.Machine

@[simp] theorem State.withPending_pending (s : State) (x) : (s.withPending x).pending = x := rfl
@[simp] theorem State.withPending_pins (s : State) (x) : (s.withPending x).pins = s.pins := rfl
@[simp] theorem State.withPending_thermReads (s : State) (x) : (s.withPending x).thermReads = s.thermReads := rfl
@[simp] theorem State.withPending_link (s : State) (x) : (s.withPending x).link = s.link := rfl
@[simp] theorem State.withPending_txq (s : State) (x) : (s.withPending x).txq = s.txq := rfl
@[simp] theorem State.withPending_cmp (s : State) (x) : (s.withPending x).cmp = s.cmp := rfl
@[simp] theorem State.withPending_hyu (s : State) (x) : (s.withPending x).hyu = s.hyu := rfl
@[simp] theorem State.withPending_sls (s : State) (x) : (s.withPending x).sls = s.sls := rfl
@[simp] theorem State.withPending_opc (s : State) (x) : (s.withPending x).opc = s.opc := rfl
@[simp] theorem State.withPending_exc (s : State) (x) : (s.withPending x).exc = s.exc := rfl
@[simp] theorem State.withPending_ftc (s : State) (x) : (s.withPending x).ftc = s.ftc := rfl
@[simp] theorem State.withPending_prc (s : State) (x) : (s.withPending x).prc = s.prc := rfl
@[simp] theorem State.withPending_withPending (s : State) (x y) : (s.withPending x).withPending y = s.withPending y := rfl
@[simp] theorem State.withPending_self (s : State) : s.withPending s.pending = s := rfl

@[simp] theorem State.withPins_pending (s : State) (x) : (s.withPins x).pending = s.pending := rfl
@[simp] theorem State.withPins_pins (s : State) (x) : (s.withPins x).pins = x := rfl
@[simp] theorem State.withPins_thermReads (s : State) (x) : (s.withPins x).thermReads = s.thermReads := rfl
@[simp] theorem State.withPins_link (s : State) (x) : (s.withPins x).link = s.link := rfl
@[simp] theorem State.withPins_txq (s : State) (x) : (s.withPins x).txq = s.txq := rfl
@[simp] theorem State.withPins_cmp (s : State) (x) : (s.withPins x).cmp = s.cmp := rfl
@[simp] theorem State.withPins_hyu (s : State) (x) : (s.withPins x).hyu = s.hyu := rfl
@[simp] theorem State.withPins_sls (s : State) (x) : (s.withPins x).sls = s.sls := rfl
@[simp] theorem State.withPins_opc (s : State) (x) : (s.withPins x).opc = s.opc := rfl
@[simp] theorem State.withPins_exc (s : State) (x) : (s.withPins x).exc = s.exc := rfl
@[simp] theorem State.withPins_ftc (s : State) (x) : (s.withPins x).ftc = s.ftc := rfl
@[simp] theorem State.withPins_prc (s : State) (x) : (s.withPins x).prc = s.prc := rfl
@[simp] theorem State.withPins_withPins (s : State) (x y) : (s.withPins x).withPins y = s.withPins y := rfl
@[simp] theorem State.withPins_self (s : State) : s.withPins s.pins = s := rfl

@[simp] theorem State.withReads_pending (s : State) (x) : (s.withReads x).pending = s.pending := rfl
@[simp] theorem State.withReads_pins (s : State) (x) : (s.withReads x).pins = s.pins := rfl
@[simp] theorem State.withReads_thermReads (s : State) (x) : (s.withReads x).thermReads = x := rfl
@[simp] theorem State.withReads_link (s : State) (x) : (s.withReads x).link = s.link := rfl
@[simp] theorem State.withReads_txq (s : State) (x) : (s.withReads x).txq = s.txq := rfl
@[simp] theorem State.withReads_cmp (s : State) (x) : (s.withReads x).cmp = s.cmp := rfl
@[simp] theorem State.withReads_hyu (s : State) (x) : (s.withReads x).hyu = s.hyu := rfl
@[simp] theorem State.withReads_sls (s : State) (x) : (s.withReads x).sls = s.sls := rfl
@[simp] theorem State.withReads_opc (s : State) (x) : (s.withReads x).opc = s.opc := rfl
@[simp] theorem State.withReads_exc (s : State) (x) : (s.withReads x).exc = s.exc := rfl
@[simp] theorem State.withReads_ftc (s : State) (x) : (s.withReads x).ftc = s.ftc := rfl
@[simp] theorem State.withReads_prc (s : State) (x) : (s.withReads x).prc = s.prc := rfl
@[simp] theorem State.withReads_withReads (s : State) (x y) : (s.withReads x).withReads y = s.withReads y := rfl
@[simp] theorem State.withReads_self (s : State) : s.withReads s.thermReads = s := rfl

@[simp] theorem State.withLink_pending (s : State) (x) : (s.withLink x).pending = s.pending := rfl
@[simp] theorem State.withLink_pins (s : State) (x) : (s.withLink x).pins = s.pins := rfl
@[simp] theorem State.withLink_thermReads (s : State) (x) : (s.withLink x).thermReads = s.thermReads := rfl
@[simp] theorem State.withLink_link (s : State) (x) : (s.withLink x).link = x := rfl
@[simp] theorem State.withLink_txq (s : State) (x) : (s.withLink x).txq = s.txq := rfl
@[simp] theorem State.withLink_cmp (s : State) (x) : (s.withLink x).cmp = s.cmp := rfl
@[simp] theorem State.withLink_hyu (s : State) (x) : (s.withLink x).hyu = s.hyu := rfl
@[simp] theorem State.withLink_sls (s : State) (x) : (s.withLink x).sls = s.sls := rfl
@[simp] theorem State.withLink_opc (s : State) (x) : (s.withLink x).opc = s.opc := rfl
@[simp] theorem State.withLink_exc (s : State) (x) : (s.withLink x).exc = s.exc := rfl
@[simp] theorem State.withLink_ftc (s : State) (x) : (s.withLink x).ftc = s.ftc := rfl
@[simp] theorem State.withLink_prc (s : State) (x) : (s.withLink x).prc = s.prc := rfl
@[simp] theorem State.withLink_withLink (s : State) (x y) : (s.withLink x).withLink y = s.withLink y := rfl
@[simp] theorem State.withLink_self (s : State) : s.withLink s.link = s := rfl

@[simp] theorem State.withTxq_pending (s : State) (x) : (s.withTxq x).pending = s.pending := rfl
@[simp] theorem State.withTxq_pins (s : State) (x) : (s.withTxq x).pins = s.pins := rfl
@[simp] theorem State.withTxq_thermReads (s : State) (x) : (s.withTxq x).thermReads = s.thermReads := rfl
@[simp] theorem State.withTxq_link (s : State) (x) : (s.withTxq x).link = s.link := rfl
@[simp] theorem State.withTxq_txq (s : State) (x) : (s.withTxq x).txq = x := rfl
@[simp] theorem State.withTxq_cmp (s : State) (x) : (s.withTxq x).cmp = s.cmp := rfl
@[simp] theorem State.withTxq_hyu (s : State) (x) : (s.withTxq x).hyu = s.hyu := rfl
@[simp] theorem State.withTxq_sls (s : State) (x) : (s.withTxq x).sls = s.sls := rfl
@[simp] theorem State.withTxq_opc (s : State) (x) : (s.withTxq x).opc = s.opc := rfl
@[simp] theorem State.withTxq_exc (s : State) (x) : (s.withTxq x).exc = s.exc := rfl
@[simp] theorem State.withTxq_ftc (s : State) (x) : (s.withTxq x).ftc = s.ftc := rfl
@[simp] theorem State.withTxq_prc (s : State) (x) : (s.withTxq x).prc = s.prc := rfl
@[simp] theorem State.withTxq_withTxq (s : State) (x y) : (s.withTxq x).withTxq y = s.withTxq y := rfl
@[simp] theorem State.withTxq_self (s : State) : s.withTxq s.txq = s := rfl

@[simp] theorem State.withCmp_pending (s : State) (x) : (s.withCmp x).pending = s.pending := rfl
@[simp] theorem State.withCmp_pins (s : State) (x) : (s.withCmp x).pins = s.pins := rfl
@[simp] theorem State.withCmp_thermReads (s : State) (x) : (s.withCmp x).thermReads = s.thermReads := rfl
@[simp] theorem State.withCmp_link (s : State) (x) : (s.withCmp x).link = s.link := rfl
@[simp] theorem State.withCmp_txq (s : State) (x) : (s.withCmp x).txq = s.txq := rfl
@[simp] theorem State.withCmp_cmp (s : State) (x) : (s.withCmp x).cmp = x := rfl
@[simp] theorem State.withCmp_hyu (s : State) (x) : (s.withCmp x).hyu = s.hyu := rfl
@[simp] theorem State.withCmp_sls (s : State) (x) : (s.withCmp x).sls = s.sls := rfl
@[simp] theorem State.withCmp_opc (s : State) (x) : (s.withCmp x).opc = s.opc := rfl
@[simp] theorem State.withCmp_exc (s : State) (x) : (s.withCmp x).exc = s.exc := rfl
@[simp] theorem State.withCmp_ftc (s : State) (x) : (s.withCmp x).ftc = s.ftc := rfl
@[simp] theorem State.withCmp_prc (s : State) (x) : (s.withCmp x).prc = s.prc := rfl
@[simp] theorem State.withCmp_withCmp (s : State) (x y) : (s.withCmp x).withCmp y = s.withCmp y := rfl
@[simp] theorem State.withCmp_self (s : State) : s.withCmp s.cmp = s := rfl

@[simp] theorem State.withHyu_pending (s : State) (x) : (s.withHyu x).pending = s.pending := rfl
@[simp] theorem State.withHyu_pins (s : State) (x) : (s.withHyu x).pins = s.pins := rfl
@[simp] theorem State.withHyu_thermReads (s : State) (x) : (s.withHyu x).thermReads = s.thermReads := rfl
@[simp] theorem State.withHyu_link (s : State) (x) : (s.withHyu x).link = s.link := rfl
@[simp] theorem State.withHyu_txq (s : State) (x) : (s.withHyu x).txq = s.txq := rfl
@[simp] theorem State.withHyu_cmp (s : State) (x) : (s.withHyu x).cmp = s.cmp := rfl
@[simp] theorem State.withHyu_hyu (s : State) (x) : (s.withHyu x).hyu = x := rfl
@[simp] theorem State.withHyu_sls (s : State) (x) : (s.withHyu x).sls = s.sls := rfl
@[simp] theorem State.withHyu_opc (s : State) (x) : (s.withHyu x).opc = s.opc := rfl
@[simp] theorem State.withHyu_exc (s : State) (x) : (s.withHyu x).exc = s.exc := rfl
@[simp] theorem State.withHyu_ftc (s : State) (x) : (s.withHyu x).ftc = s.ftc := rfl
@[simp] theorem State.withHyu_prc (s : State) (x) : (s.withHyu x).prc = s.prc := rfl
@[simp] theorem State.withHyu_withHyu (s : State) (x y) : (s.withHyu x).withHyu y = s.withHyu y := rfl
@[simp] theorem State.withHyu_self (s : State) : s.withHyu s.hyu = s := rfl

@[simp] theorem State.withSls_pending (s : State) (x) : (s.withSls x).pending = s.pending := rfl
@[simp] theorem State.withSls_pins (s : State) (x) : (s.withSls x).pins = s.pins := rfl
@[simp] theorem State.withSls_thermReads (s : State) (x) : (s.withSls x).thermReads = s.thermReads := rfl
@[simp] theorem State.withSls_link (s : State) (x) : (s.withSls x).link = s.link := rfl
@[simp] theorem State.withSls_txq (s : State) (x) : (s.withSls x).txq = s.txq := rfl
@[simp] theorem State.withSls_cmp (s : State) (x) : (s.withSls x).cmp = s.cmp := rfl
@[simp] theorem State.withSls_hyu (s : State) (x) : (s.withSls x).hyu = s.hyu := rfl
@[simp] theorem State.withSls_sls (s : State) (x) : (s.withSls x).sls = x := rfl
@[simp] theorem State.withSls_opc (s : State) (x) : (s.withSls x).opc = s.opc := rfl
@[simp] theorem State.withSls_exc (s : State) (x) : (s.withSls x).exc = s.exc := rfl
@[simp] theorem State.withSls_ftc (s : State) (x) : (s.withSls x).ftc = s.ftc := rfl
@[simp] theorem State.withSls_prc (s : State) (x) : (s.withSls x).prc = s.prc := rfl
@[simp] theorem State.withSls_withSls (s : State) (x y) : (s.withSls x).withSls y = s.withSls y := rfl
@[simp] theorem State.withSls_self (s : State) : s.withSls s.sls = s := rfl

@[simp] theorem State.withOpc_pending (s : State) (x) : (s.withOpc x).pending = s.pending := rfl
@[simp] theorem State.withOpc_pins (s : State) (x) : (s.withOpc x).pins = s.pins := rfl
@[simp] theorem State.withOpc_thermReads (s : State) (x) : (s.withOpc x).thermReads = s.thermReads := rfl
@[simp] theorem State.withOpc_link (s : State) (x) : (s.withOpc x).link = s.link := rfl
@[simp] theorem State.withOpc_txq (s : State) (x) : (s.withOpc x).txq = s.txq := rfl
@[simp] theorem State.withOpc_cmp (s : State) (x) : (s.withOpc x).cmp = s.cmp := rfl
@[simp] theorem State.withOpc_hyu (s : State) (x) : (s.withOpc x).hyu = s.hyu := rfl
@[simp] theorem State.withOpc_sls (s : State) (x) : (s.withOpc x).sls = s.sls := rfl
@[simp] theorem State.withOpc_opc (s : State) (x) : (s.withOpc x).opc = x := rfl
@[simp] theorem State.withOpc_exc (s : State) (x) : (s.withOpc x).exc = s.exc := rfl
@[simp] theorem State.withOpc_ftc (s : State) (x) : (s.withOpc x).ftc = s.ftc := rfl
@[simp] theorem State.withOpc_prc (s : State) (x) : (s.withOpc x).prc = s.prc := rfl
@[simp] theorem State.withOpc_withOpc (s : State) (x y) : (s.withOpc x).withOpc y = s.withOpc y := rfl
@[simp] theorem State.withOpc_self (s : State) : s.withOpc s.opc = s := rfl

@[simp] theorem State.withExc_pending (s : State) (x) : (s.withExc x).pending = s.pending := rfl
@[simp] theorem State.withExc_pins (s : State) (x) : (s.withExc x).pins = s.pins := rfl
@[simp] theorem State.withExc_thermReads (s : State) (x) : (s.withExc x).thermReads = s.thermReads := rfl
@[simp] theorem State.withExc_link (s : State) (x) : (s.withExc x).link = s.link := rfl
@[simp] theorem State.withExc_txq (s : State) (x) : (s.withExc x).txq = s.txq := rfl
@[simp] theorem State.withExc_cmp (s : State) (x) : (s.withExc x).cmp = s.cmp := rfl
@[simp] theorem State.withExc_hyu (s : State) (x) : (s.withExc x).hyu = s.hyu := rfl
@[simp] theorem State.withExc_sls (s : State) (x) : (s.withExc x).sls = s.sls := rfl
@[simp] theorem State.withExc_opc (s : State) (x) : (s.withExc x).opc = s.opc := rfl
@[simp] theorem State.withExc_exc (s : State) (x) : (s.withExc x).exc = x := rfl
@[simp] theorem State.withExc_ftc (s : State) (x) : (s.withExc x).ftc = s.ftc := rfl
@[simp] theorem State.withExc_prc (s : State) (x) : (s.withExc x).prc = s.prc := rfl
@[simp] theorem State.withExc_withExc (s : State) (x y) : (s.withExc x).withExc y = s.withExc y := rfl
@[simp] theorem State.withExc_self (s : State) : s.withExc s.exc = s := rfl

@[simp] theorem State.withFtc_pending (s : State) (x) : (s.withFtc x).pending = s.pending := rfl
@[simp] theorem State.withFtc_pins (s : State) (x) : (s.withFtc x).pins = s.pins := rfl
@[simp] theorem State.withFtc_thermReads (s : State) (x) : (s.withFtc x).thermReads = s.thermReads := rfl
@[simp] theorem State.withFtc_link (s : State) (x) : (s.withFtc x).link = s.link := rfl
@[simp] theorem State.withFtc_txq (s : State) (x) : (s.withFtc x).txq = s.txq := rfl
@[simp] theorem State.withFtc_cmp (s : State) (x) : (s.withFtc x).cmp = s.cmp := rfl
@[simp] theorem State.withFtc_hyu (s : State) (x) : (s.withFtc x).hyu = s.hyu := rfl
@[simp] theorem State.withFtc_sls (s : State) (x) : (s.withFtc x).sls = s.sls := rfl
@[simp] theorem State.withFtc_opc (s : State) (x) : (s.withFtc x).opc = s.opc := rfl
@[simp] theorem State.withFtc_exc (s : State) (x) : (s.withFtc x).exc = s.exc := rfl
@[simp] theorem State.withFtc_ftc (s : State) (x) : (s.withFtc x).ftc = x := rfl
@[simp] theorem State.withFtc_prc (s : State) (x) : (s.withFtc x).prc = s.prc := rfl
@[simp] theorem State.withFtc_withFtc (s : State) (x y) : (s.withFtc x).withFtc y = s.withFtc y := rfl
@[simp] theorem State.withFtc_self (s : State) : s.withFtc s.ftc = s := rfl

@[simp] theorem State.withPrc_pending (s : State) (x) : (s.withPrc x).pending = s.pending := rfl
@[simp] theorem State.withPrc_pins (s : State) (x) : (s.withPrc x).pins = s.pins := rfl
@[simp] theorem State.withPrc_thermReads (s : State) (x) : (s.withPrc x).thermReads = s.thermReads := rfl
@[simp] theorem State.withPrc_link (s : State) (x) : (s.withPrc x).link = s.link := rfl
@[simp] theorem State.withPrc_txq (s : State) (x) : (s.withPrc x).txq = s.txq := rfl
@[simp] theorem State.withPrc_cmp (s : State) (x) : (s.withPrc x).cmp = s.cmp := rfl
@[simp] theorem State.withPrc_hyu (s : State) (x) : (s.withPrc x).hyu = s.hyu := rfl
@[simp] theorem State.withPrc_sls (s : State) (x) : (s.withPrc x).sls = s.sls := rfl
@[simp] theorem State.withPrc_opc (s : State) (x) : (s.withPrc x).opc = s.opc := rfl
@[simp] theorem State.withPrc_exc (s : State) (x) : (s.withPrc x).exc = s.exc := rfl
@[simp] theorem State.withPrc_ftc (s : State) (x) : (s.withPrc x).ftc = s.ftc := rfl
@[simp] theorem State.withPrc_prc (s : State) (x) : (s.withPrc x).prc = x := rfl
@[simp] theorem State.withPrc_withPrc (s : State) (x y) : (s.withPrc x).withPrc y = s.withPrc y := rfl
@[simp] theorem State.withPrc_self (s : State) : s.withPrc s.prc = s := rfl

end Sys2Proof.Machine
end

