-- ==== Sys2Proof/Laws/Frame.lean ====
section
/-! SUPPORT. The frame of every shared operation, one lemma each: the blocks it leaves as they are, whatever else it does. -/

namespace Sys2Proof.Machine

@[simp] theorem raise_frame (f : Flag) (s : State) :
    (raise f s).pending = s.pending ∧ (raise f s).pins = s.pins ∧ (raise f s).thermReads = s.thermReads ∧ (raise f
    s).txq = s.txq ∧ (raise f s).cmp = s.cmp ∧ (raise f s).hyu = s.hyu ∧ (raise f s).sls = s.sls ∧ (raise f s).opc =
    s.opc ∧ (raise f s).exc = s.exc ∧ (raise f s).ftc = s.ftc ∧ (raise f s).prc = s.prc := by
  unfold raise
  simp

@[simp] theorem exposureFault_frame (kind : ExposureKind) (s : State) :
    (exposureFault kind s).pending = s.pending ∧ (exposureFault kind s).pins = s.pins ∧ (exposureFault kind
    s).thermReads = s.thermReads ∧ (exposureFault kind s).txq = s.txq ∧ (exposureFault kind s).cmp = s.cmp ∧
    (exposureFault kind s).hyu = s.hyu ∧ (exposureFault kind s).sls = s.sls ∧ (exposureFault kind s).opc = s.opc ∧
    (exposureFault kind s).exc = s.exc ∧ (exposureFault kind s).ftc = s.ftc ∧ (exposureFault kind s).prc = s.prc := by
  unfold exposureFault
  simp

@[simp] theorem filmFault_frame (kind : FilmKind) (line : Nat) (s : State) :
    (filmFault kind line s).pending = s.pending ∧ (filmFault kind line s).pins = s.pins ∧ (filmFault kind line
    s).thermReads = s.thermReads ∧ (filmFault kind line s).txq = s.txq ∧ (filmFault kind line s).cmp = s.cmp ∧
    (filmFault kind line s).hyu = s.hyu ∧ (filmFault kind line s).sls = s.sls ∧ (filmFault kind line s).opc = s.opc
    ∧ (filmFault kind line s).exc = s.exc ∧ (filmFault kind line s).ftc = s.ftc ∧ (filmFault kind line s).prc =
    s.prc := by
  unfold filmFault
  simp

@[simp] theorem proofFault_frame (kind : ProofKind) (line : Nat) (s : State) :
    (proofFault kind line s).pending = s.pending ∧ (proofFault kind line s).pins = s.pins ∧ (proofFault kind line
    s).thermReads = s.thermReads ∧ (proofFault kind line s).txq = s.txq ∧ (proofFault kind line s).cmp = s.cmp ∧
    (proofFault kind line s).hyu = s.hyu ∧ (proofFault kind line s).sls = s.sls ∧ (proofFault kind line s).opc =
    s.opc ∧ (proofFault kind line s).exc = s.exc ∧ (proofFault kind line s).ftc = s.ftc ∧ (proofFault kind line
    s).prc = s.prc := by
  unfold proofFault
  simp

@[simp] theorem updateRecord_frame (n : Nat) (f : LineRecord → LineRecord) (s : State) :
    (updateRecord n f s).pending = s.pending ∧ (updateRecord n f s).pins = s.pins ∧ (updateRecord n f s).thermReads =
    s.thermReads ∧ (updateRecord n f s).link = s.link ∧ (updateRecord n f s).txq = s.txq ∧ (updateRecord n f s).cmp
    = s.cmp ∧ (updateRecord n f s).hyu = s.hyu ∧ (updateRecord n f s).opc = s.opc ∧ (updateRecord n f s).exc = s.exc
    ∧ (updateRecord n f s).ftc = s.ftc ∧ (updateRecord n f s).prc = s.prc := by
  unfold updateRecord
  simp

@[simp] theorem drainTo_frame (bytes : Text) (s : State) :
    (drainTo bytes s).pending = s.pending ∧ (drainTo bytes s).pins = s.pins ∧ (drainTo bytes s).thermReads =
    s.thermReads ∧ (drainTo bytes s).cmp = s.cmp ∧ (drainTo bytes s).hyu = s.hyu ∧ (drainTo bytes s).sls = s.sls ∧
    (drainTo bytes s).opc = s.opc ∧ (drainTo bytes s).exc = s.exc ∧ (drainTo bytes s).ftc = s.ftc ∧ (drainTo bytes
    s).prc = s.prc := by
  dsimp only [drainTo]
  split <;> simp

@[simp] theorem requestMech_frame (k : Mechanism) (by_ : Requester) (t : Nat) (s : State) :
    (requestMech k by_ t s).pending = s.pending ∧ (requestMech k by_ t s).pins = s.pins ∧ (requestMech k by_ t
    s).thermReads = s.thermReads ∧ (requestMech k by_ t s).link = s.link ∧ (requestMech k by_ t s).txq = s.txq ∧
    (requestMech k by_ t s).cmp = s.cmp ∧ (requestMech k by_ t s).hyu = s.hyu ∧ (requestMech k by_ t s).sls = s.sls
    ∧ (requestMech k by_ t s).exc = s.exc ∧ (requestMech k by_ t s).ftc = s.ftc ∧ (requestMech k by_ t s).prc =
    s.prc := by
  unfold requestMech
  simp

@[simp] theorem requestEsc_frame (x : Nat) (why : EscMove) (s : State) :
    (requestEsc x why s).pending = s.pending ∧ (requestEsc x why s).pins = s.pins ∧ (requestEsc x why s).thermReads =
    s.thermReads ∧ (requestEsc x why s).link = s.link ∧ (requestEsc x why s).txq = s.txq ∧ (requestEsc x why s).cmp
    = s.cmp ∧ (requestEsc x why s).hyu = s.hyu ∧ (requestEsc x why s).sls = s.sls ∧ (requestEsc x why s).opc = s.opc
    ∧ (requestEsc x why s).ftc = s.ftc ∧ (requestEsc x why s).prc = s.prc := by
  unfold requestEsc
  simp

@[simp] theorem withdrawRequests_frame (s : State) :
    (withdrawRequests s).pending = s.pending ∧ (withdrawRequests s).pins = s.pins ∧ (withdrawRequests s).thermReads =
    s.thermReads ∧ (withdrawRequests s).link = s.link ∧ (withdrawRequests s).txq = s.txq ∧ (withdrawRequests s).cmp
    = s.cmp ∧ (withdrawRequests s).hyu = s.hyu ∧ (withdrawRequests s).sls = s.sls ∧ (withdrawRequests s).ftc = s.ftc
    ∧ (withdrawRequests s).prc = s.prc := by
  unfold withdrawRequests
  simp

@[simp] theorem requestBox_frame (m p : Fin 8) (x : Nat) (s : State) :
    (requestBox m p x s).pending = s.pending ∧ (requestBox m p x s).pins = s.pins ∧ (requestBox m p x s).thermReads =
    s.thermReads ∧ (requestBox m p x s).link = s.link ∧ (requestBox m p x s).txq = s.txq ∧ (requestBox m p x s).cmp
    = s.cmp ∧ (requestBox m p x s).hyu = s.hyu ∧ (requestBox m p x s).sls = s.sls ∧ (requestBox m p x s).ftc = s.ftc
    ∧ (requestBox m p x s).prc = s.prc := by
  unfold requestBox
  simp

@[simp] theorem testLowFilm_frame (s : State) :
    (testLowFilm s).pending = s.pending ∧ (testLowFilm s).pins = s.pins ∧ (testLowFilm s).thermReads = s.thermReads ∧
    (testLowFilm s).txq = s.txq ∧ (testLowFilm s).cmp = s.cmp ∧ (testLowFilm s).hyu = s.hyu ∧ (testLowFilm s).sls =
    s.sls ∧ (testLowFilm s).opc = s.opc ∧ (testLowFilm s).exc = s.exc ∧ (testLowFilm s).prc = s.prc := by
  unfold testLowFilm
  split <;> simp

@[simp] theorem issueLineMove_frame (m : LineMove) (s : State) :
    (issueLineMove m s).2.pending = s.pending ∧ (issueLineMove m s).2.pins = s.pins ∧ (issueLineMove m s).2.thermReads =
    s.thermReads ∧ (issueLineMove m s).2.txq = s.txq ∧ (issueLineMove m s).2.cmp = s.cmp ∧ (issueLineMove m s).2.hyu
    = s.hyu ∧ (issueLineMove m s).2.sls = s.sls ∧ (issueLineMove m s).2.opc = s.opc ∧ (issueLineMove m s).2.exc =
    s.exc ∧ (issueLineMove m s).2.prc = s.prc := by
  unfold issueLineMove
  split <;> simp

@[simp] theorem requestMove_frame (r : LineRecord) (s : State) :
    (requestMove r s).2.pending = s.pending ∧ (requestMove r s).2.pins = s.pins ∧ (requestMove r s).2.thermReads =
    s.thermReads ∧ (requestMove r s).2.txq = s.txq ∧ (requestMove r s).2.cmp = s.cmp ∧ (requestMove r s).2.hyu =
    s.hyu ∧ (requestMove r s).2.sls = s.sls ∧ (requestMove r s).2.opc = s.opc ∧ (requestMove r s).2.exc = s.exc ∧
    (requestMove r s).2.prc = s.prc := by
  dsimp only [requestMove]
  split <;> simp

@[simp] theorem startCutter_frame (s : State) :
    (startCutter s).pending = s.pending ∧ (startCutter s).pins = s.pins ∧ (startCutter s).thermReads = s.thermReads ∧
    (startCutter s).link = s.link ∧ (startCutter s).txq = s.txq ∧ (startCutter s).cmp = s.cmp ∧ (startCutter s).hyu
    = s.hyu ∧ (startCutter s).sls = s.sls ∧ (startCutter s).opc = s.opc ∧ (startCutter s).exc = s.exc ∧ (startCutter
    s).prc = s.prc := by
  unfold startCutter
  simp

@[simp] theorem marginMoved_frame (target : Nat) (newE : Int) (s : State) :
    (marginMoved target newE s).pending = s.pending ∧ (marginMoved target newE s).pins = s.pins ∧ (marginMoved target
    newE s).thermReads = s.thermReads ∧ (marginMoved target newE s).txq = s.txq ∧ (marginMoved target newE s).cmp =
    s.cmp ∧ (marginMoved target newE s).hyu = s.hyu ∧ (marginMoved target newE s).sls = s.sls ∧ (marginMoved target
    newE s).opc = s.opc ∧ (marginMoved target newE s).exc = s.exc ∧ (marginMoved target newE s).prc = s.prc := by
  unfold marginMoved
  simp

@[simp] theorem issueMargin_frame (target : Nat) (s : State) :
    (issueMargin target s).pending = s.pending ∧ (issueMargin target s).pins = s.pins ∧ (issueMargin target
    s).thermReads = s.thermReads ∧ (issueMargin target s).txq = s.txq ∧ (issueMargin target s).cmp = s.cmp ∧
    (issueMargin target s).hyu = s.hyu ∧ (issueMargin target s).sls = s.sls ∧ (issueMargin target s).opc = s.opc ∧
    (issueMargin target s).exc = s.exc ∧ (issueMargin target s).prc = s.prc := by
  unfold issueMargin
  split <;> simp

@[simp] theorem startCut_frame (line : Nat) (s : State) :
    (startCut line s).pending = s.pending ∧ (startCut line s).pins = s.pins ∧ (startCut line s).thermReads =
    s.thermReads ∧ (startCut line s).txq = s.txq ∧ (startCut line s).cmp = s.cmp ∧ (startCut line s).hyu = s.hyu ∧
    (startCut line s).sls = s.sls ∧ (startCut line s).opc = s.opc ∧ (startCut line s).exc = s.exc ∧ (startCut line
    s).prc = s.prc := by
  unfold startCut
  simp

@[simp] theorem hold_frame (stage : Stage) (mount : Bool) (s : State) :
    (hold stage mount s).pending = s.pending ∧ (hold stage mount s).pins = s.pins ∧ (hold stage mount s).thermReads =
    s.thermReads ∧ (hold stage mount s).txq = s.txq ∧ (hold stage mount s).cmp = s.cmp ∧ (hold stage mount s).hyu =
    s.hyu ∧ (hold stage mount s).sls = s.sls ∧ (hold stage mount s).opc = s.opc ∧ (hold stage mount s).ftc = s.ftc ∧
    (hold stage mount s).prc = s.prc := by
  unfold hold
  split <;> simp

@[simp] theorem freeExposure_frame (s : State) :
    (freeExposure s).pending = s.pending ∧ (freeExposure s).pins = s.pins ∧ (freeExposure s).thermReads = s.thermReads ∧
    (freeExposure s).link = s.link ∧ (freeExposure s).txq = s.txq ∧ (freeExposure s).cmp = s.cmp ∧ (freeExposure
    s).hyu = s.hyu ∧ (freeExposure s).sls = s.sls ∧ (freeExposure s).opc = s.opc ∧ (freeExposure s).ftc = s.ftc ∧
    (freeExposure s).prc = s.prc := by
  unfold freeExposure
  simp

@[simp] theorem closeLineExposure_frame (final : LineRecord → LineRecord) (s : State) :
    (closeLineExposure final s).pending = s.pending ∧ (closeLineExposure final s).pins = s.pins ∧ (closeLineExposure
    final s).thermReads = s.thermReads ∧ (closeLineExposure final s).link = s.link ∧ (closeLineExposure final s).txq
    = s.txq ∧ (closeLineExposure final s).cmp = s.cmp ∧ (closeLineExposure final s).hyu = s.hyu ∧ (closeLineExposure
    final s).opc = s.opc ∧ (closeLineExposure final s).ftc = s.ftc ∧ (closeLineExposure final s).prc = s.prc := by
  unfold closeLineExposure
  split <;> simp

@[simp] theorem endPartial_frame (s : State) :
    (endPartial s).pending = s.pending ∧ (endPartial s).pins = s.pins ∧ (endPartial s).thermReads = s.thermReads ∧
    (endPartial s).link = s.link ∧ (endPartial s).txq = s.txq ∧ (endPartial s).cmp = s.cmp ∧ (endPartial s).hyu =
    s.hyu ∧ (endPartial s).opc = s.opc ∧ (endPartial s).ftc = s.ftc ∧ (endPartial s).prc = s.prc := by
  unfold endPartial
  simp

@[simp] theorem lineDone_frame (s : State) :
    (lineDone s).pending = s.pending ∧ (lineDone s).pins = s.pins ∧ (lineDone s).thermReads = s.thermReads ∧ (lineDone
    s).txq = s.txq ∧ (lineDone s).cmp = s.cmp ∧ (lineDone s).hyu = s.hyu ∧ (lineDone s).opc = s.opc ∧ (lineDone
    s).prc = s.prc := by
  dsimp only [lineDone]
  (repeat' split) <;> simp

@[simp] theorem countElement_frame (s : State) :
    (countElement s).pending = s.pending ∧ (countElement s).pins = s.pins ∧ (countElement s).thermReads = s.thermReads ∧
    (countElement s).link = s.link ∧ (countElement s).txq = s.txq ∧ (countElement s).cmp = s.cmp ∧ (countElement
    s).hyu = s.hyu ∧ (countElement s).opc = s.opc ∧ (countElement s).ftc = s.ftc ∧ (countElement s).prc = s.prc := by
  unfold countElement
  split <;> simp

@[simp] theorem goElements_frame (es : List Elem) (s : State) :
    (goElements es s).pending = s.pending ∧ (goElements es s).pins = s.pins ∧ (goElements es s).thermReads =
    s.thermReads ∧ (goElements es s).txq = s.txq ∧ (goElements es s).cmp = s.cmp ∧ (goElements es s).hyu = s.hyu ∧
    (goElements es s).prc = s.prc := by
  induction es generalizing s with
  | nil => unfold goElements; split <;> simp
  | cons e es ih =>
    unfold goElements
    split
    · simp
    · split
      · simp
      · split <;> simp [ih]

@[simp] theorem goElement_frame (s : State) :
    (goElement s).pending = s.pending ∧ (goElement s).pins = s.pins ∧ (goElement s).thermReads = s.thermReads ∧
    (goElement s).txq = s.txq ∧ (goElement s).cmp = s.cmp ∧ (goElement s).hyu = s.hyu ∧ (goElement s).prc = s.prc := by
  unfold goElement
  split <;> simp

@[simp] theorem arm_frame (m : Fin 8) (slot : Nat) (p : Fin 8) (s : State) :
    (arm m slot p s).pending = s.pending ∧ (arm m slot p s).pins = s.pins ∧ (arm m slot p s).thermReads = s.thermReads ∧
    (arm m slot p s).link = s.link ∧ (arm m slot p s).txq = s.txq ∧ (arm m slot p s).cmp = s.cmp ∧ (arm m slot p
    s).hyu = s.hyu ∧ (arm m slot p s).sls = s.sls ∧ (arm m slot p s).opc = s.opc ∧ (arm m slot p s).ftc = s.ftc ∧
    (arm m slot p s).prc = s.prc := by
  unfold arm
  simp

@[simp] theorem armTest_frame (s : State) :
    (armTest s).pending = s.pending ∧ (armTest s).pins = s.pins ∧ (armTest s).thermReads = s.thermReads ∧ (armTest
    s).txq = s.txq ∧ (armTest s).cmp = s.cmp ∧ (armTest s).hyu = s.hyu ∧ (armTest s).prc = s.prc := by
  unfold armTest
  (repeat' split) <;> simp

@[simp] theorem stayStopped_frame (s : State) :
    (stayStopped s).pending = s.pending ∧ (stayStopped s).pins = s.pins ∧ (stayStopped s).thermReads = s.thermReads ∧
    (stayStopped s).txq = s.txq ∧ (stayStopped s).cmp = s.cmp ∧ (stayStopped s).hyu = s.hyu ∧ (stayStopped s).prc =
    s.prc := by
  unfold stayStopped
  split <;> simp

@[simp] theorem moveCompleted_frame (m : LineMove) (s : State) :
    (moveCompleted m s).pending = s.pending ∧ (moveCompleted m s).pins = s.pins ∧ (moveCompleted m s).thermReads =
    s.thermReads ∧ (moveCompleted m s).txq = s.txq ∧ (moveCompleted m s).cmp = s.cmp ∧ (moveCompleted m s).hyu =
    s.hyu ∧ (moveCompleted m s).prc = s.prc := by
  dsimp only [moveCompleted]
  (repeat' split) <;> simp

@[simp] theorem requestLineMove_frame (s : State) :
    (requestLineMove s).pending = s.pending ∧ (requestLineMove s).pins = s.pins ∧ (requestLineMove s).thermReads =
    s.thermReads ∧ (requestLineMove s).txq = s.txq ∧ (requestLineMove s).cmp = s.cmp ∧ (requestLineMove s).hyu =
    s.hyu ∧ (requestLineMove s).prc = s.prc := by
  unfold requestLineMove
  cases currentRecord s with
  | none => simp
  | some r =>
    have h := requestMove_frame r (s.withExc { s.exc.enter .movingFilm with moveOut := true, stage := .prepare })
    dsimp only
    generalize requestMove r (s.withExc { s.exc.enter .movingFilm with moveOut := true, stage := .prepare }) = m at h ⊢
    obtain ⟨rep, t⟩ := m
    cases rep <;> simp_all

@[simp] theorem beginMove_frame (s : State) :
    (beginMove s).pending = s.pending ∧ (beginMove s).pins = s.pins ∧ (beginMove s).thermReads = s.thermReads ∧
    (beginMove s).txq = s.txq ∧ (beginMove s).cmp = s.cmp ∧ (beginMove s).hyu = s.hyu ∧ (beginMove s).prc = s.prc := by
  dsimp only [beginMove]
  (repeat' split) <;> simp

@[simp] theorem takeLine_frame (r : LineRecord) (s : State) :
    (takeLine r s).pending = s.pending ∧ (takeLine r s).pins = s.pins ∧ (takeLine r s).txq = s.txq ∧ (takeLine r s).cmp
    = s.cmp ∧ (takeLine r s).hyu = s.hyu ∧ (takeLine r s).prc = s.prc := by
  unfold takeLine
  simp

@[simp] theorem beginStage_frame (s : State) :
    (beginStage s).pending = s.pending ∧ (beginStage s).pins = s.pins ∧ (beginStage s).thermReads = s.thermReads ∧
    (beginStage s).txq = s.txq ∧ (beginStage s).cmp = s.cmp ∧ (beginStage s).hyu = s.hyu ∧ (beginStage s).prc =
    s.prc := by
  unfold beginStage
  split <;> simp

@[simp] theorem cancelCountdown_frame (st : ExcState) (s : State) :
    (cancelCountdown st s).pending = s.pending ∧ (cancelCountdown st s).pins = s.pins ∧ (cancelCountdown st
    s).thermReads = s.thermReads ∧ (cancelCountdown st s).link = s.link ∧ (cancelCountdown st s).txq = s.txq ∧
    (cancelCountdown st s).cmp = s.cmp ∧ (cancelCountdown st s).hyu = s.hyu ∧ (cancelCountdown st s).sls = s.sls ∧
    (cancelCountdown st s).opc = s.opc ∧ (cancelCountdown st s).ftc = s.ftc ∧ (cancelCountdown st s).prc = s.prc := by
  unfold cancelCountdown
  split <;> simp

@[simp] theorem lineFault_frame (kind : ExposureKind) (stage : Stage) (s : State) :
    (lineFault kind stage s).pending = s.pending ∧ (lineFault kind stage s).pins = s.pins ∧ (lineFault kind stage
    s).thermReads = s.thermReads ∧ (lineFault kind stage s).txq = s.txq ∧ (lineFault kind stage s).cmp = s.cmp ∧
    (lineFault kind stage s).hyu = s.hyu ∧ (lineFault kind stage s).sls = s.sls ∧ (lineFault kind stage s).ftc =
    s.ftc ∧ (lineFault kind stage s).prc = s.prc := by
  dsimp only [lineFault]
  (repeat' split) <;> simp

@[simp] theorem slotMiss_frame (s : State) :
    (slotMiss s).pending = s.pending ∧ (slotMiss s).pins = s.pins ∧ (slotMiss s).thermReads = s.thermReads ∧ (slotMiss
    s).txq = s.txq ∧ (slotMiss s).cmp = s.cmp ∧ (slotMiss s).hyu = s.hyu ∧ (slotMiss s).ftc = s.ftc ∧ (slotMiss
    s).prc = s.prc := by
  dsimp only [slotMiss]
  (repeat' split) <;> simp

@[simp] theorem slotArrives_frame (s : State) :
    (slotArrives s).pending = s.pending ∧ (slotArrives s).pins = s.pins ∧ (slotArrives s).thermReads = s.thermReads ∧
    (slotArrives s).txq = s.txq ∧ (slotArrives s).cmp = s.cmp ∧ (slotArrives s).hyu = s.hyu ∧ (slotArrives s).ftc =
    s.ftc ∧ (slotArrives s).prc = s.prc := by
  unfold slotArrives
  (repeat' split) <;> simp

@[simp] theorem confirmFlash_frame (s : State) :
    (confirmFlash s).pending = s.pending ∧ (confirmFlash s).pins = s.pins ∧ (confirmFlash s).thermReads = s.thermReads ∧
    (confirmFlash s).txq = s.txq ∧ (confirmFlash s).cmp = s.cmp ∧ (confirmFlash s).hyu = s.hyu ∧ (confirmFlash
    s).prc = s.prc := by
  unfold confirmFlash
  simp

@[simp] theorem mechFailed_frame (k : Mechanism) (f : Flight) (s : State) :
    (mechFailed k f s).pending = s.pending ∧ (mechFailed k f s).pins = s.pins ∧ (mechFailed k f s).thermReads =
    s.thermReads ∧ (mechFailed k f s).txq = s.txq ∧ (mechFailed k f s).cmp = s.cmp ∧ (mechFailed k f s).hyu = s.hyu
    ∧ (mechFailed k f s).sls = s.sls ∧ (mechFailed k f s).ftc = s.ftc ∧ (mechFailed k f s).prc = s.prc := by
  dsimp only [mechFailed]
  (repeat' split) <;> simp

@[simp] theorem mechComplete_frame (k : Mechanism) (s : State) :
    (mechComplete k s).pending = s.pending ∧ (mechComplete k s).pins = s.pins ∧ (mechComplete k s).thermReads =
    s.thermReads ∧ (mechComplete k s).link = s.link ∧ (mechComplete k s).txq = s.txq ∧ (mechComplete k s).cmp =
    s.cmp ∧ (mechComplete k s).hyu = s.hyu ∧ (mechComplete k s).sls = s.sls ∧ (mechComplete k s).exc = s.exc ∧
    (mechComplete k s).ftc = s.ftc ∧ (mechComplete k s).prc = s.prc := by
  dsimp only [mechComplete]
  split <;> simp

@[simp] theorem mechTimeout_frame (k : Mechanism) (s : State) :
    (mechTimeout k s).pending = s.pending ∧ (mechTimeout k s).pins = s.pins ∧ (mechTimeout k s).thermReads =
    s.thermReads ∧ (mechTimeout k s).txq = s.txq ∧ (mechTimeout k s).cmp = s.cmp ∧ (mechTimeout k s).hyu = s.hyu ∧
    (mechTimeout k s).sls = s.sls ∧ (mechTimeout k s).ftc = s.ftc ∧ (mechTimeout k s).prc = s.prc := by
  unfold mechTimeout
  split <;> simp

@[simp] theorem escComplete_frame (s : State) :
    (escComplete s).pending = s.pending ∧ (escComplete s).pins = s.pins ∧ (escComplete s).thermReads = s.thermReads ∧
    (escComplete s).link = s.link ∧ (escComplete s).txq = s.txq ∧ (escComplete s).cmp = s.cmp ∧ (escComplete s).hyu
    = s.hyu ∧ (escComplete s).sls = s.sls ∧ (escComplete s).opc = s.opc ∧ (escComplete s).ftc = s.ftc ∧ (escComplete
    s).prc = s.prc := by
  unfold escComplete
  split <;> simp

@[simp] theorem escTimeout_frame (s : State) :
    (escTimeout s).pending = s.pending ∧ (escTimeout s).pins = s.pins ∧ (escTimeout s).thermReads = s.thermReads ∧
    (escTimeout s).txq = s.txq ∧ (escTimeout s).cmp = s.cmp ∧ (escTimeout s).hyu = s.hyu ∧ (escTimeout s).sls =
    s.sls ∧ (escTimeout s).ftc = s.ftc ∧ (escTimeout s).prc = s.prc := by
  unfold escTimeout
  (repeat' split) <;> simp

@[simp] theorem endCutWait_frame (s : State) :
    (endCutWait s).pending = s.pending ∧ (endCutWait s).pins = s.pins ∧ (endCutWait s).thermReads = s.thermReads ∧
    (endCutWait s).link = s.link ∧ (endCutWait s).txq = s.txq ∧ (endCutWait s).cmp = s.cmp ∧ (endCutWait s).hyu =
    s.hyu ∧ (endCutWait s).sls = s.sls ∧ (endCutWait s).opc = s.opc ∧ (endCutWait s).ftc = s.ftc ∧ (endCutWait
    s).prc = s.prc := by
  unfold endCutWait
  split <;> simp

@[simp] theorem beginEnding_frame (why : Ending) (s : State) :
    (beginEnding why s).pending = s.pending ∧ (beginEnding why s).pins = s.pins ∧ (beginEnding why s).thermReads =
    s.thermReads ∧ (beginEnding why s).link = s.link ∧ (beginEnding why s).txq = s.txq ∧ (beginEnding why s).cmp =
    s.cmp ∧ (beginEnding why s).hyu = s.hyu ∧ (beginEnding why s).sls = s.sls ∧ (beginEnding why s).ftc = s.ftc ∧
    (beginEnding why s).prc = s.prc := by
  unfold beginEnding
  simp

@[simp] theorem exposureRemoval_frame (s : State) :
    (exposureRemoval s).pending = s.pending ∧ (exposureRemoval s).pins = s.pins ∧ (exposureRemoval s).thermReads =
    s.thermReads ∧ (exposureRemoval s).link = s.link ∧ (exposureRemoval s).txq = s.txq ∧ (exposureRemoval s).cmp =
    s.cmp ∧ (exposureRemoval s).hyu = s.hyu ∧ (exposureRemoval s).sls = s.sls ∧ (exposureRemoval s).ftc = s.ftc ∧
    (exposureRemoval s).prc = s.prc := by
  dsimp only [exposureRemoval]
  split <;> simp

@[simp] theorem enterStopped_frame (s : State) :
    (enterStopped s).pending = s.pending ∧ (enterStopped s).pins = s.pins ∧ (enterStopped s).thermReads = s.thermReads ∧
    (enterStopped s).link = s.link ∧ (enterStopped s).txq = s.txq ∧ (enterStopped s).cmp = s.cmp ∧ (enterStopped
    s).hyu = s.hyu ∧ (enterStopped s).sls = s.sls ∧ (enterStopped s).opc = s.opc ∧ (enterStopped s).ftc = s.ftc ∧
    (enterStopped s).prc = s.prc := by
  unfold enterStopped
  simp

theorem exposureReact_frame (s : State) :
    ∀ t, exposureReact s = some t →
    t.pending = s.pending ∧ t.pins = s.pins ∧ t.thermReads = s.thermReads ∧ t.txq = s.txq ∧ t.cmp = s.cmp ∧ t.hyu =
    s.hyu ∧ t.prc = s.prc := by
  intro t h
  unfold exposureReact at h
  (repeat' split at h) <;> (simp at h) <;> (subst h; simp)

theorem exposureTake_frame (s : State) :
    ∀ t, exposureTake s = some t →
    t.pending = s.pending ∧ t.pins = s.pins ∧ t.txq = s.txq ∧ t.cmp = s.cmp ∧ t.hyu = s.hyu ∧ t.prc = s.prc := by
  intro t h
  dsimp only [exposureTake] at h
  (repeat' split at h) <;> first | (cases h; done) | (simp at h; done) | (simp at h; subst h; simp) | (simp at h; obtain ⟨_, _, h⟩ := h; subst h; simp)

@[simp] theorem stopDrum_frame (s : State) :
    (stopDrum s).pending = s.pending ∧ (stopDrum s).pins = s.pins ∧ (stopDrum s).thermReads = s.thermReads ∧ (stopDrum
    s).link = s.link ∧ (stopDrum s).txq = s.txq ∧ (stopDrum s).cmp = s.cmp ∧ (stopDrum s).hyu = s.hyu ∧ (stopDrum
    s).sls = s.sls ∧ (stopDrum s).ftc = s.ftc ∧ (stopDrum s).prc = s.prc := by
  unfold stopDrum
  simp

@[simp] theorem drumStall_frame (s : State) :
    (drumStall s).pending = s.pending ∧ (drumStall s).pins = s.pins ∧ (drumStall s).thermReads = s.thermReads ∧
    (drumStall s).txq = s.txq ∧ (drumStall s).cmp = s.cmp ∧ (drumStall s).hyu = s.hyu ∧ (drumStall s).sls = s.sls ∧
    (drumStall s).ftc = s.ftc ∧ (drumStall s).prc = s.prc := by
  unfold drumStall
  simp

@[simp] theorem spinUp_frame (s : State) :
    (spinUp s).pending = s.pending ∧ (spinUp s).pins = s.pins ∧ (spinUp s).thermReads = s.thermReads ∧ (spinUp s).link =
    s.link ∧ (spinUp s).txq = s.txq ∧ (spinUp s).cmp = s.cmp ∧ (spinUp s).hyu = s.hyu ∧ (spinUp s).sls = s.sls ∧
    (spinUp s).exc = s.exc ∧ (spinUp s).ftc = s.ftc ∧ (spinUp s).prc = s.prc := by
  unfold spinUp
  split <;> simp

@[simp] theorem wake_frame (s : State) :
    (wake s).pending = s.pending ∧ (wake s).pins = s.pins ∧ (wake s).thermReads = s.thermReads ∧ (wake s).link = s.link
    ∧ (wake s).txq = s.txq ∧ (wake s).cmp = s.cmp ∧ (wake s).hyu = s.hyu ∧ (wake s).sls = s.sls ∧ (wake s).exc =
    s.exc ∧ (wake s).ftc = s.ftc ∧ (wake s).prc = s.prc := by
  unfold wake
  simp

@[simp] theorem surveyShift_frame (p : Fin 4) (s : State) :
    (surveyShift p s).pending = s.pending ∧ (surveyShift p s).pins = s.pins ∧ (surveyShift p s).thermReads =
    s.thermReads ∧ (surveyShift p s).link = s.link ∧ (surveyShift p s).txq = s.txq ∧ (surveyShift p s).cmp = s.cmp ∧
    (surveyShift p s).hyu = s.hyu ∧ (surveyShift p s).sls = s.sls ∧ (surveyShift p s).exc = s.exc ∧ (surveyShift p
    s).ftc = s.ftc ∧ (surveyShift p s).prc = s.prc := by
  unfold surveyShift
  simp

@[simp] theorem beginSurvey_frame (s : State) :
    (beginSurvey s).pending = s.pending ∧ (beginSurvey s).pins = s.pins ∧ (beginSurvey s).thermReads = s.thermReads ∧
    (beginSurvey s).link = s.link ∧ (beginSurvey s).txq = s.txq ∧ (beginSurvey s).cmp = s.cmp ∧ (beginSurvey s).hyu
    = s.hyu ∧ (beginSurvey s).sls = s.sls ∧ (beginSurvey s).ftc = s.ftc ∧ (beginSurvey s).prc = s.prc := by
  unfold beginSurvey
  simp

theorem surveyReact_frame (s : State) :
    ∀ t, surveyReact s = some t →
    t.pending = s.pending ∧ t.pins = s.pins ∧ t.thermReads = s.thermReads ∧ t.link = s.link ∧ t.txq = s.txq ∧ t.cmp =
    s.cmp ∧ t.hyu = s.hyu ∧ t.sls = s.sls ∧ t.exc = s.exc ∧ t.ftc = s.ftc ∧ t.prc = s.prc := by
  intro t h
  unfold surveyReact at h
  (repeat' split at h) <;> (simp at h) <;> (subst h; simp)

@[simp] theorem surveyComplete_frame (s : State) :
    (surveyComplete s).pending = s.pending ∧ (surveyComplete s).pins = s.pins ∧ (surveyComplete s).thermReads =
    s.thermReads ∧ (surveyComplete s).txq = s.txq ∧ (surveyComplete s).cmp = s.cmp ∧ (surveyComplete s).hyu = s.hyu
    ∧ (surveyComplete s).sls = s.sls ∧ (surveyComplete s).exc = s.exc ∧ (surveyComplete s).ftc = s.ftc ∧
    (surveyComplete s).prc = s.prc := by
  dsimp only [surveyComplete]
  (repeat' split) <;> simp

@[simp] theorem surveyIndex_frame (upper lower : Byte) (s : State) :
    (surveyIndex upper lower s).pending = s.pending ∧ (surveyIndex upper lower s).pins = s.pins ∧ (surveyIndex upper
    lower s).thermReads = s.thermReads ∧ (surveyIndex upper lower s).txq = s.txq ∧ (surveyIndex upper lower s).cmp =
    s.cmp ∧ (surveyIndex upper lower s).hyu = s.hyu ∧ (surveyIndex upper lower s).sls = s.sls ∧ (surveyIndex upper
    lower s).exc = s.exc ∧ (surveyIndex upper lower s).ftc = s.ftc ∧ (surveyIndex upper lower s).prc = s.prc := by
  unfold surveyIndex
  (repeat' split) <;> simp

@[simp] theorem qualified_frame (s : State) :
    (qualified s).pending = s.pending ∧ (qualified s).pins = s.pins ∧ (qualified s).thermReads = s.thermReads ∧
    (qualified s).link = s.link ∧ (qualified s).txq = s.txq ∧ (qualified s).cmp = s.cmp ∧ (qualified s).hyu = s.hyu
    ∧ (qualified s).sls = s.sls ∧ (qualified s).ftc = s.ftc ∧ (qualified s).prc = s.prc := by
  dsimp only [qualified]
  split <;> simp

@[simp] theorem spinIndex_frame (interval : Nat) (s : State) :
    (spinIndex interval s).pending = s.pending ∧ (spinIndex interval s).pins = s.pins ∧ (spinIndex interval
    s).thermReads = s.thermReads ∧ (spinIndex interval s).link = s.link ∧ (spinIndex interval s).txq = s.txq ∧
    (spinIndex interval s).cmp = s.cmp ∧ (spinIndex interval s).hyu = s.hyu ∧ (spinIndex interval s).sls = s.sls ∧
    (spinIndex interval s).ftc = s.ftc ∧ (spinIndex interval s).prc = s.prc := by
  dsimp only [spinIndex]
  (repeat' split) <;> simp

@[simp] theorem indexArrives_frame (interval : Nat) (upper lower : Byte) (s : State) :
    (indexArrives interval upper lower s).pending = s.pending ∧ (indexArrives interval upper lower s).thermReads =
    s.thermReads ∧ (indexArrives interval upper lower s).txq = s.txq ∧ (indexArrives interval upper lower s).cmp =
    s.cmp ∧ (indexArrives interval upper lower s).hyu = s.hyu ∧ (indexArrives interval upper lower s).sls = s.sls ∧
    (indexArrives interval upper lower s).ftc = s.ftc ∧ (indexArrives interval upper lower s).prc = s.prc := by
  dsimp only [indexArrives]
  split <;> simp

@[simp] theorem doorOpened_frame (s : State) :
    (doorOpened s).pending = s.pending ∧ (doorOpened s).pins = s.pins ∧ (doorOpened s).thermReads = s.thermReads ∧
    (doorOpened s).link = s.link ∧ (doorOpened s).txq = s.txq ∧ (doorOpened s).cmp = s.cmp ∧ (doorOpened s).hyu =
    s.hyu ∧ (doorOpened s).sls = s.sls ∧ (doorOpened s).ftc = s.ftc ∧ (doorOpened s).prc = s.prc := by
  unfold doorOpened
  simp

@[simp] theorem doorClosed_frame (s : State) :
    (doorClosed s).pending = s.pending ∧ (doorClosed s).pins = s.pins ∧ (doorClosed s).thermReads = s.thermReads ∧
    (doorClosed s).link = s.link ∧ (doorClosed s).txq = s.txq ∧ (doorClosed s).cmp = s.cmp ∧ (doorClosed s).hyu =
    s.hyu ∧ (doorClosed s).sls = s.sls ∧ (doorClosed s).exc = s.exc ∧ (doorClosed s).ftc = s.ftc ∧ (doorClosed
    s).prc = s.prc := by
  unfold doorClosed
  simp

@[simp] theorem doorLevel_frame (level : DoorLevel) (s : State) :
    (doorLevel level s).pending = s.pending ∧ (doorLevel level s).thermReads = s.thermReads ∧ (doorLevel level s).link =
    s.link ∧ (doorLevel level s).txq = s.txq ∧ (doorLevel level s).cmp = s.cmp ∧ (doorLevel level s).hyu = s.hyu ∧
    (doorLevel level s).sls = s.sls ∧ (doorLevel level s).exc = s.exc ∧ (doorLevel level s).ftc = s.ftc ∧ (doorLevel
    level s).prc = s.prc := by
  unfold doorLevel
  split <;> simp

@[simp] theorem doorTake_frame (s : State) :
    (doorTake s).pending = s.pending ∧ (doorTake s).pins = s.pins ∧ (doorTake s).thermReads = s.thermReads ∧ (doorTake
    s).link = s.link ∧ (doorTake s).txq = s.txq ∧ (doorTake s).cmp = s.cmp ∧ (doorTake s).hyu = s.hyu ∧ (doorTake
    s).sls = s.sls ∧ (doorTake s).ftc = s.ftc ∧ (doorTake s).prc = s.prc := by
  dsimp only [doorTake]
  (repeat' split) <;> simp

@[simp] theorem restService_frame (s : State) :
    (restService s).pending = s.pending ∧ (restService s).pins = s.pins ∧ (restService s).thermReads = s.thermReads ∧
    (restService s).link = s.link ∧ (restService s).txq = s.txq ∧ (restService s).cmp = s.cmp ∧ (restService s).hyu
    = s.hyu ∧ (restService s).sls = s.sls ∧ (restService s).exc = s.exc ∧ (restService s).ftc = s.ftc ∧ (restService
    s).prc = s.prc := by
  unfold restService
  (repeat' split) <;> simp

@[simp] theorem restDrum_frame (s : State) :
    (restDrum s).pending = s.pending ∧ (restDrum s).pins = s.pins ∧ (restDrum s).thermReads = s.thermReads ∧ (restDrum
    s).txq = s.txq ∧ (restDrum s).cmp = s.cmp ∧ (restDrum s).hyu = s.hyu ∧ (restDrum s).sls = s.sls ∧ (restDrum
    s).ftc = s.ftc ∧ (restDrum s).prc = s.prc := by
  unfold restDrum
  simp

@[simp] theorem stepperDone_frame (s : State) :
    (stepperDone s).pending = s.pending ∧ (stepperDone s).pins = s.pins ∧ (stepperDone s).thermReads = s.thermReads ∧
    (stepperDone s).txq = s.txq ∧ (stepperDone s).cmp = s.cmp ∧ (stepperDone s).hyu = s.hyu ∧ (stepperDone s).prc =
    s.prc := by
  unfold stepperDone
  (repeat' split) <;> simp

@[simp] theorem moveFailed_frame (s : State) :
    (moveFailed s).pending = s.pending ∧ (moveFailed s).pins = s.pins ∧ (moveFailed s).thermReads = s.thermReads ∧
    (moveFailed s).link = s.link ∧ (moveFailed s).txq = s.txq ∧ (moveFailed s).cmp = s.cmp ∧ (moveFailed s).hyu =
    s.hyu ∧ (moveFailed s).sls = s.sls ∧ (moveFailed s).opc = s.opc ∧ (moveFailed s).ftc = s.ftc ∧ (moveFailed
    s).prc = s.prc := by
  unfold moveFailed
  split <;> simp

@[simp] theorem moveJams_frame (s : State) :
    (moveJams s).pending = s.pending ∧ (moveJams s).pins = s.pins ∧ (moveJams s).thermReads = s.thermReads ∧ (moveJams
    s).txq = s.txq ∧ (moveJams s).cmp = s.cmp ∧ (moveJams s).hyu = s.hyu ∧ (moveJams s).sls = s.sls ∧ (moveJams
    s).opc = s.opc ∧ (moveJams s).prc = s.prc := by
  unfold moveJams
  split <;> simp

@[simp] theorem cutterDone_frame (s : State) :
    (cutterDone s).pending = s.pending ∧ (cutterDone s).pins = s.pins ∧ (cutterDone s).thermReads = s.thermReads ∧
    (cutterDone s).txq = s.txq ∧ (cutterDone s).cmp = s.cmp ∧ (cutterDone s).hyu = s.hyu ∧ (cutterDone s).sls =
    s.sls ∧ (cutterDone s).opc = s.opc ∧ (cutterDone s).prc = s.prc := by
  unfold cutterDone
  split <;> simp

@[simp] theorem cutterFails_frame (s : State) :
    (cutterFails s).pending = s.pending ∧ (cutterFails s).pins = s.pins ∧ (cutterFails s).thermReads = s.thermReads ∧
    (cutterFails s).txq = s.txq ∧ (cutterFails s).cmp = s.cmp ∧ (cutterFails s).hyu = s.hyu ∧ (cutterFails s).sls =
    s.sls ∧ (cutterFails s).opc = s.opc ∧ (cutterFails s).prc = s.prc := by
  unfold cutterFails
  split <;> simp

@[simp] theorem retryFilm_frame (s : State) :
    (retryFilm s).pending = s.pending ∧ (retryFilm s).pins = s.pins ∧ (retryFilm s).thermReads = s.thermReads ∧
    (retryFilm s).txq = s.txq ∧ (retryFilm s).cmp = s.cmp ∧ (retryFilm s).hyu = s.hyu ∧ (retryFilm s).prc = s.prc := by
  unfold retryFilm
  split
  · split
    · rename_i m _
      split
      · have h := issueLineMove_frame m s
        generalize issueLineMove m s = x at h ⊢
        obtain ⟨rep, t⟩ := x
        cases rep <;> simp_all
      · simp
    · split <;> simp
    · simp
    · simp
  · simp

@[simp] theorem cassetteLevel_frame (level : CassetteLevel) (s : State) :
    (cassetteLevel level s).pending = s.pending ∧ (cassetteLevel level s).thermReads = s.thermReads ∧ (cassetteLevel
    level s).link = s.link ∧ (cassetteLevel level s).txq = s.txq ∧ (cassetteLevel level s).cmp = s.cmp ∧
    (cassetteLevel level s).hyu = s.hyu ∧ (cassetteLevel level s).sls = s.sls ∧ (cassetteLevel level s).opc = s.opc
    ∧ (cassetteLevel level s).exc = s.exc ∧ (cassetteLevel level s).prc = s.prc := by
  unfold cassetteLevel
  split <;> simp

@[simp] theorem cassetteTake_frame (s : State) :
    (cassetteTake s).pending = s.pending ∧ (cassetteTake s).pins = s.pins ∧ (cassetteTake s).thermReads = s.thermReads ∧
    (cassetteTake s).txq = s.txq ∧ (cassetteTake s).cmp = s.cmp ∧ (cassetteTake s).hyu = s.hyu ∧ (cassetteTake
    s).sls = s.sls ∧ (cassetteTake s).prc = s.prc := by
  dsimp only [cassetteTake]
  (repeat' split) <;> simp

@[simp] theorem setTask_frame (t : Option Task) (s : State) :
    (setTask t s).pending = s.pending ∧ (setTask t s).pins = s.pins ∧ (setTask t s).thermReads = s.thermReads ∧ (setTask
    t s).link = s.link ∧ (setTask t s).txq = s.txq ∧ (setTask t s).hyu = s.hyu ∧ (setTask t s).sls = s.sls ∧
    (setTask t s).opc = s.opc ∧ (setTask t s).exc = s.exc ∧ (setTask t s).ftc = s.ftc ∧ (setTask t s).prc = s.prc := by
  unfold setTask
  simp

@[simp] theorem stallSetup_frame (cause : StallCause) (s : State) :
    (stallSetup cause s).pending = s.pending ∧ (stallSetup cause s).pins = s.pins ∧ (stallSetup cause s).thermReads =
    s.thermReads ∧ (stallSetup cause s).txq = s.txq ∧ (stallSetup cause s).hyu = s.hyu ∧ (stallSetup cause s).sls =
    s.sls ∧ (stallSetup cause s).opc = s.opc ∧ (stallSetup cause s).exc = s.exc ∧ (stallSetup cause s).ftc = s.ftc ∧
    (stallSetup cause s).prc = s.prc := by
  unfold stallSetup
  split <;> simp

@[simp] theorem stallRoom_frame (s : State) :
    (stallRoom s).pending = s.pending ∧ (stallRoom s).pins = s.pins ∧ (stallRoom s).thermReads = s.thermReads ∧
    (stallRoom s).link = s.link ∧ (stallRoom s).txq = s.txq ∧ (stallRoom s).hyu = s.hyu ∧ (stallRoom s).sls = s.sls
    ∧ (stallRoom s).opc = s.opc ∧ (stallRoom s).exc = s.exc ∧ (stallRoom s).ftc = s.ftc ∧ (stallRoom s).prc = s.prc := by
  unfold stallRoom
  simp

@[simp] theorem openLine_frame (s : State) :
    (openLine s).pending = s.pending ∧ (openLine s).pins = s.pins ∧ (openLine s).thermReads = s.thermReads ∧ (openLine
    s).link = s.link ∧ (openLine s).txq = s.txq ∧ (openLine s).hyu = s.hyu ∧ (openLine s).opc = s.opc ∧ (openLine
    s).exc = s.exc ∧ (openLine s).ftc = s.ftc ∧ (openLine s).prc = s.prc := by
  unfold openLine
  simp

@[simp] theorem ensureOpen_frame (s : State) :
    (ensureOpen s).pending = s.pending ∧ (ensureOpen s).pins = s.pins ∧ (ensureOpen s).thermReads = s.thermReads ∧
    (ensureOpen s).link = s.link ∧ (ensureOpen s).txq = s.txq ∧ (ensureOpen s).hyu = s.hyu ∧ (ensureOpen s).opc =
    s.opc ∧ (ensureOpen s).exc = s.exc ∧ (ensureOpen s).ftc = s.ftc ∧ (ensureOpen s).prc = s.prc := by
  unfold ensureOpen
  split <;> simp

@[simp] theorem codeDone_frame (c : Composer) (s : State) :
    (codeDone c s).pending = s.pending ∧ (codeDone c s).pins = s.pins ∧ (codeDone c s).thermReads = s.thermReads ∧
    (codeDone c s).link = s.link ∧ (codeDone c s).txq = s.txq ∧ (codeDone c s).hyu = s.hyu ∧ (codeDone c s).sls =
    s.sls ∧ (codeDone c s).opc = s.opc ∧ (codeDone c s).exc = s.exc ∧ (codeDone c s).ftc = s.ftc ∧ (codeDone c
    s).prc = s.prc := by
  unfold codeDone
  simp

@[simp] theorem pushElem_frame (byte : Byte) (mk : Fin 8 → LensSel → Elem) (s : State) :
    (pushElem byte mk s).pending = s.pending ∧ (pushElem byte mk s).pins = s.pins ∧ (pushElem byte mk s).thermReads =
    s.thermReads ∧ (pushElem byte mk s).txq = s.txq ∧ (pushElem byte mk s).hyu = s.hyu ∧ (pushElem byte mk s).sls =
    s.sls ∧ (pushElem byte mk s).opc = s.opc ∧ (pushElem byte mk s).exc = s.exc ∧ (pushElem byte mk s).ftc = s.ftc ∧
    (pushElem byte mk s).prc = s.prc := by
  unfold pushElem
  split <;> simp

@[simp] theorem actCode_frame (byte : Byte) (code : Code) (s : State) :
    (actCode byte code s).pending = s.pending ∧ (actCode byte code s).pins = s.pins ∧ (actCode byte code s).thermReads =
    s.thermReads ∧ (actCode byte code s).txq = s.txq ∧ (actCode byte code s).hyu = s.hyu ∧ (actCode byte code s).sls
    = s.sls ∧ (actCode byte code s).opc = s.opc ∧ (actCode byte code s).exc = s.exc ∧ (actCode byte code s).ftc =
    s.ftc ∧ (actCode byte code s).prc = s.prc := by
  dsimp only [actCode]
  (repeat' split) <;> simp

@[simp] theorem codeStep_frame (byte : Byte) (ps : Text) (s : State) :
    (codeStep byte ps s).pending = s.pending ∧ (codeStep byte ps s).pins = s.pins ∧ (codeStep byte ps s).thermReads =
    s.thermReads ∧ (codeStep byte ps s).txq = s.txq ∧ (codeStep byte ps s).hyu = s.hyu ∧ (codeStep byte ps s).opc =
    s.opc ∧ (codeStep byte ps s).exc = s.exc ∧ (codeStep byte ps s).ftc = s.ftc ∧ (codeStep byte ps s).prc = s.prc := by
  dsimp only [codeStep]
  split <;> simp

@[simp] theorem closeLine_frame (brk : BreakKind) (cut : Bool) (flags : List LineFlag) (rest : WordBuf) (carried : Option BreakOpp) (s : State) :
    (closeLine brk cut flags rest carried s).pending = s.pending ∧ (closeLine brk cut flags rest carried s).pins =
    s.pins ∧ (closeLine brk cut flags rest carried s).thermReads = s.thermReads ∧ (closeLine brk cut flags rest
    carried s).link = s.link ∧ (closeLine brk cut flags rest carried s).txq = s.txq ∧ (closeLine brk cut flags rest
    carried s).hyu = s.hyu ∧ (closeLine brk cut flags rest carried s).sls = s.sls ∧ (closeLine brk cut flags rest
    carried s).opc = s.opc ∧ (closeLine brk cut flags rest carried s).exc = s.exc ∧ (closeLine brk cut flags rest
    carried s).ftc = s.ftc ∧ (closeLine brk cut flags rest carried s).prc = s.prc := by
  unfold closeLine
  split <;> simp

@[simp] theorem enterStore_frame (r : LineRecord) (s : State) :
    (enterStore r s).pending = s.pending ∧ (enterStore r s).pins = s.pins ∧ (enterStore r s).thermReads = s.thermReads ∧
    (enterStore r s).link = s.link ∧ (enterStore r s).txq = s.txq ∧ (enterStore r s).hyu = s.hyu ∧ (enterStore r
    s).exc = s.exc ∧ (enterStore r s).ftc = s.ftc ∧ (enterStore r s).prc = s.prc := by
  unfold enterStore
  split <;> simp

@[simp] theorem offerStep_frame (r : LineRecord) (carried : Option BreakOpp) (s : State) :
    (offerStep r carried s).pending = s.pending ∧ (offerStep r carried s).pins = s.pins ∧ (offerStep r carried
    s).thermReads = s.thermReads ∧ (offerStep r carried s).link = s.link ∧ (offerStep r carried s).txq = s.txq ∧
    (offerStep r carried s).hyu = s.hyu ∧ (offerStep r carried s).exc = s.exc ∧ (offerStep r carried s).ftc = s.ftc
    ∧ (offerStep r carried s).prc = s.prc := by
  dsimp only [offerStep]
  (repeat' split) <;> simp

@[simp] theorem afterStep_frame (opp : BreakOpp) (s : State) :
    (afterStep opp s).pending = s.pending ∧ (afterStep opp s).pins = s.pins ∧ (afterStep opp s).thermReads =
    s.thermReads ∧ (afterStep opp s).link = s.link ∧ (afterStep opp s).txq = s.txq ∧ (afterStep opp s).hyu = s.hyu ∧
    (afterStep opp s).opc = s.opc ∧ (afterStep opp s).exc = s.exc ∧ (afterStep opp s).ftc = s.ftc ∧ (afterStep opp
    s).prc = s.prc := by
  unfold afterStep
  (repeat' split) <;> simp

@[simp] theorem makeReferral_frame (x : Exam) (opp : BreakOpp) (s : State) :
    (makeReferral x opp s).pending = s.pending ∧ (makeReferral x opp s).pins = s.pins ∧ (makeReferral x opp
    s).thermReads = s.thermReads ∧ (makeReferral x opp s).txq = s.txq ∧ (makeReferral x opp s).sls = s.sls ∧
    (makeReferral x opp s).opc = s.opc ∧ (makeReferral x opp s).exc = s.exc ∧ (makeReferral x opp s).ftc = s.ftc ∧
    (makeReferral x opp s).prc = s.prc := by
  unfold makeReferral
  simp

@[simp] theorem examineStep_frame (l : OpenLine) (opp : BreakOpp) (s : State) :
    (examineStep l opp s).pending = s.pending ∧ (examineStep l opp s).pins = s.pins ∧ (examineStep l opp s).thermReads =
    s.thermReads ∧ (examineStep l opp s).txq = s.txq ∧ (examineStep l opp s).sls = s.sls ∧ (examineStep l opp s).opc
    = s.opc ∧ (examineStep l opp s).exc = s.exc ∧ (examineStep l opp s).ftc = s.ftc ∧ (examineStep l opp s).prc =
    s.prc := by
  dsimp only [examineStep]
  (repeat' split) <;> simp

@[simp] theorem closeBefore_frame (flags : List LineFlag) (opp : BreakOpp) (s : State) :
    (closeBefore flags opp s).pending = s.pending ∧ (closeBefore flags opp s).pins = s.pins ∧ (closeBefore flags opp
    s).thermReads = s.thermReads ∧ (closeBefore flags opp s).link = s.link ∧ (closeBefore flags opp s).txq = s.txq ∧
    (closeBefore flags opp s).hyu = s.hyu ∧ (closeBefore flags opp s).sls = s.sls ∧ (closeBefore flags opp s).opc =
    s.opc ∧ (closeBefore flags opp s).exc = s.exc ∧ (closeBefore flags opp s).ftc = s.ftc ∧ (closeBefore flags opp
    s).prc = s.prc := by
  unfold closeBefore
  simp

@[simp] theorem fitStep_frame (opp : BreakOpp) (s : State) :
    (fitStep opp s).pending = s.pending ∧ (fitStep opp s).pins = s.pins ∧ (fitStep opp s).thermReads = s.thermReads ∧
    (fitStep opp s).txq = s.txq ∧ (fitStep opp s).opc = s.opc ∧ (fitStep opp s).exc = s.exc ∧ (fitStep opp s).ftc =
    s.ftc ∧ (fitStep opp s).prc = s.prc := by
  dsimp only [fitStep]
  (repeat' split) <;> simp

@[simp] theorem placeStep_frame (opp : BreakOpp) (s : State) :
    (placeStep opp s).pending = s.pending ∧ (placeStep opp s).pins = s.pins ∧ (placeStep opp s).thermReads =
    s.thermReads ∧ (placeStep opp s).link = s.link ∧ (placeStep opp s).txq = s.txq ∧ (placeStep opp s).hyu = s.hyu ∧
    (placeStep opp s).sls = s.sls ∧ (placeStep opp s).opc = s.opc ∧ (placeStep opp s).exc = s.exc ∧ (placeStep opp
    s).ftc = s.ftc ∧ (placeStep opp s).prc = s.prc := by
  dsimp only [placeStep]
  (repeat' split) <;> simp

@[simp] theorem breakStep_frame (b : Break) (flags : List LineFlag) (opp : BreakOpp) (s : State) :
    (breakStep b flags opp s).pending = s.pending ∧ (breakStep b flags opp s).pins = s.pins ∧ (breakStep b flags opp
    s).thermReads = s.thermReads ∧ (breakStep b flags opp s).link = s.link ∧ (breakStep b flags opp s).txq = s.txq ∧
    (breakStep b flags opp s).hyu = s.hyu ∧ (breakStep b flags opp s).sls = s.sls ∧ (breakStep b flags opp s).opc =
    s.opc ∧ (breakStep b flags opp s).exc = s.exc ∧ (breakStep b flags opp s).ftc = s.ftc ∧ (breakStep b flags opp
    s).prc = s.prc := by
  dsimp only [breakStep]
  (repeat' split) <;> simp

@[simp] theorem oversetStep_frame (flags : List LineFlag) (opp : BreakOpp) (s : State) :
    (oversetStep flags opp s).pending = s.pending ∧ (oversetStep flags opp s).pins = s.pins ∧ (oversetStep flags opp
    s).thermReads = s.thermReads ∧ (oversetStep flags opp s).link = s.link ∧ (oversetStep flags opp s).txq = s.txq ∧
    (oversetStep flags opp s).hyu = s.hyu ∧ (oversetStep flags opp s).sls = s.sls ∧ (oversetStep flags opp s).opc =
    s.opc ∧ (oversetStep flags opp s).exc = s.exc ∧ (oversetStep flags opp s).ftc = s.ftc ∧ (oversetStep flags opp
    s).prc = s.prc := by
  dsimp only [oversetStep]
  (repeat' split) <;> simp

@[simp] theorem noBreakStep_frame (flags : List LineFlag) (opp : BreakOpp) (s : State) :
    (noBreakStep flags opp s).pending = s.pending ∧ (noBreakStep flags opp s).pins = s.pins ∧ (noBreakStep flags opp
    s).thermReads = s.thermReads ∧ (noBreakStep flags opp s).link = s.link ∧ (noBreakStep flags opp s).txq = s.txq ∧
    (noBreakStep flags opp s).hyu = s.hyu ∧ (noBreakStep flags opp s).sls = s.sls ∧ (noBreakStep flags opp s).opc =
    s.opc ∧ (noBreakStep flags opp s).exc = s.exc ∧ (noBreakStep flags opp s).ftc = s.ftc ∧ (noBreakStep flags opp
    s).prc = s.prc := by
  unfold noBreakStep
  (repeat' split) <;> simp

@[simp] theorem taskStep_frame (t : Task) (s : State) :
    (taskStep t s).pending = s.pending ∧ (taskStep t s).pins = s.pins ∧ (taskStep t s).thermReads = s.thermReads ∧
    (taskStep t s).txq = s.txq ∧ (taskStep t s).exc = s.exc ∧ (taskStep t s).ftc = s.ftc ∧ (taskStep t s).prc =
    s.prc := by
  unfold taskStep
  split <;> simp

theorem composerStep_frame (s : State) :
    ∀ t, composerStep s = some t →
    t.pending = s.pending ∧ t.pins = s.pins ∧ t.thermReads = s.thermReads ∧ t.txq = s.txq ∧ t.exc = s.exc ∧ t.ftc =
    s.ftc ∧ t.prc = s.prc := by
  intro t h
  unfold composerStep at h
  (repeat' split at h) <;> (simp at h) <;> (subst h; simp)

theorem composerRest_frame (s : State) :
    ∀ t, composerRest s = some t →
    t.pending = s.pending ∧ t.pins = s.pins ∧ t.thermReads = s.thermReads ∧ t.link = s.link ∧ t.txq = s.txq ∧ t.hyu =
    s.hyu ∧ t.sls = s.sls ∧ t.opc = s.opc ∧ t.exc = s.exc ∧ t.ftc = s.ftc ∧ t.prc = s.prc := by
  intro t h
  unfold composerRest at h
  (repeat' split at h) <;> (simp at h) <;> (subst h; simp)

@[simp] theorem takeCode_frame (s : State) :
    (takeCode s).pending = s.pending ∧ (takeCode s).pins = s.pins ∧ (takeCode s).thermReads = s.thermReads ∧ (takeCode
    s).hyu = s.hyu ∧ (takeCode s).sls = s.sls ∧ (takeCode s).opc = s.opc ∧ (takeCode s).exc = s.exc ∧ (takeCode
    s).ftc = s.ftc ∧ (takeCode s).prc = s.prc := by
  unfold takeCode
  split
  · simp
  all_goals
    dsimp only [takeCode.gather]
    split <;> simp

@[simp] theorem endReferral_frame (how : LastEnd) (p : Option Position) (flags : List LineFlag) (s : State) :
    (endReferral how p flags s).pending = s.pending ∧ (endReferral how p flags s).pins = s.pins ∧ (endReferral how p
    flags s).thermReads = s.thermReads ∧ (endReferral how p flags s).txq = s.txq ∧ (endReferral how p flags s).sls =
    s.sls ∧ (endReferral how p flags s).opc = s.opc ∧ (endReferral how p flags s).exc = s.exc ∧ (endReferral how p
    flags s).ftc = s.ftc ∧ (endReferral how p flags s).prc = s.prc := by
  dsimp only [endReferral]
  split <;> simp

@[simp] theorem withdrawReferral_frame (s : State) :
    (withdrawReferral s).pending = s.pending ∧ (withdrawReferral s).pins = s.pins ∧ (withdrawReferral s).thermReads =
    s.thermReads ∧ (withdrawReferral s).txq = s.txq ∧ (withdrawReferral s).cmp = s.cmp ∧ (withdrawReferral s).sls =
    s.sls ∧ (withdrawReferral s).opc = s.opc ∧ (withdrawReferral s).exc = s.exc ∧ (withdrawReferral s).ftc = s.ftc ∧
    (withdrawReferral s).prc = s.prc := by
  unfold withdrawReferral
  simp

@[simp] theorem retrySetup_frame (s : State) :
    (retrySetup s).pending = s.pending ∧ (retrySetup s).pins = s.pins ∧ (retrySetup s).thermReads = s.thermReads ∧
    (retrySetup s).txq = s.txq ∧ (retrySetup s).hyu = s.hyu ∧ (retrySetup s).sls = s.sls ∧ (retrySetup s).opc =
    s.opc ∧ (retrySetup s).exc = s.exc ∧ (retrySetup s).ftc = s.ftc ∧ (retrySetup s).prc = s.prc := by
  unfold retrySetup
  split <;> simp

@[simp] theorem proofEnded_frame (r : LineRecord) (s : State) :
    (proofEnded r s).pending = s.pending ∧ (proofEnded r s).pins = s.pins ∧ (proofEnded r s).thermReads = s.thermReads ∧
    (proofEnded r s).link = s.link ∧ (proofEnded r s).txq = s.txq ∧ (proofEnded r s).cmp = s.cmp ∧ (proofEnded r
    s).hyu = s.hyu ∧ (proofEnded r s).opc = s.opc ∧ (proofEnded r s).exc = s.exc ∧ (proofEnded r s).ftc = s.ftc := by
  unfold proofEnded
  split <;> simp

@[simp] theorem skipRecord_frame (r : LineRecord) (s : State) :
    (skipRecord r s).pending = s.pending ∧ (skipRecord r s).pins = s.pins ∧ (skipRecord r s).thermReads = s.thermReads ∧
    (skipRecord r s).link = s.link ∧ (skipRecord r s).txq = s.txq ∧ (skipRecord r s).cmp = s.cmp ∧ (skipRecord r
    s).hyu = s.hyu ∧ (skipRecord r s).opc = s.opc ∧ (skipRecord r s).exc = s.exc ∧ (skipRecord r s).ftc = s.ftc := by
  unfold skipRecord
  simp

@[simp] theorem proofDone_frame (r : LineRecord) (s : State) :
    (proofDone r s).pending = s.pending ∧ (proofDone r s).pins = s.pins ∧ (proofDone r s).thermReads = s.thermReads ∧
    (proofDone r s).txq = s.txq ∧ (proofDone r s).cmp = s.cmp ∧ (proofDone r s).hyu = s.hyu ∧ (proofDone r s).opc =
    s.opc ∧ (proofDone r s).exc = s.exc ∧ (proofDone r s).ftc = s.ftc := by
  unfold proofDone
  simp

@[simp] theorem skipAll_frame (rs : List LineRecord) (s : State) :
    (skipAll rs s).pending = s.pending ∧ (skipAll rs s).pins = s.pins ∧ (skipAll rs s).thermReads = s.thermReads ∧
    (skipAll rs s).link = s.link ∧ (skipAll rs s).txq = s.txq ∧ (skipAll rs s).cmp = s.cmp ∧ (skipAll rs s).hyu =
    s.hyu ∧ (skipAll rs s).opc = s.opc ∧ (skipAll rs s).exc = s.exc ∧ (skipAll rs s).ftc = s.ftc := by
  unfold skipAll
  induction rs generalizing s with
  | nil => simp
  | cons r rs ih => simp [ih]

@[simp] theorem sendHeader_frame (s : State) :
    (sendHeader s).pending = s.pending ∧ (sendHeader s).pins = s.pins ∧ (sendHeader s).thermReads = s.thermReads ∧
    (sendHeader s).link = s.link ∧ (sendHeader s).txq = s.txq ∧ (sendHeader s).cmp = s.cmp ∧ (sendHeader s).hyu =
    s.hyu ∧ (sendHeader s).sls = s.sls ∧ (sendHeader s).opc = s.opc ∧ (sendHeader s).exc = s.exc ∧ (sendHeader
    s).ftc = s.ftc := by
  unfold sendHeader
  simp

@[simp] theorem sendRow_frame (r : LineRecord) (j : Nat) (s : State) :
    (sendRow r j s).pending = s.pending ∧ (sendRow r j s).pins = s.pins ∧ (sendRow r j s).thermReads = s.thermReads ∧
    (sendRow r j s).link = s.link ∧ (sendRow r j s).txq = s.txq ∧ (sendRow r j s).cmp = s.cmp ∧ (sendRow r j s).hyu
    = s.hyu ∧ (sendRow r j s).opc = s.opc ∧ (sendRow r j s).exc = s.exc ∧ (sendRow r j s).ftc = s.ftc := by
  unfold sendRow
  split <;> simp

@[simp] theorem sendReady_frame (s : State) :
    (sendReady s).pending = s.pending ∧ (sendReady s).pins = s.pins ∧ (sendReady s).thermReads = s.thermReads ∧
    (sendReady s).link = s.link ∧ (sendReady s).txq = s.txq ∧ (sendReady s).cmp = s.cmp ∧ (sendReady s).hyu = s.hyu
    ∧ (sendReady s).opc = s.opc ∧ (sendReady s).exc = s.exc ∧ (sendReady s).ftc = s.ftc := by
  unfold sendReady
  (repeat' split) <;> simp

@[simp] theorem proofAct_frame (s : State) :
    (proofAct s).pending = s.pending ∧ (proofAct s).pins = s.pins ∧ (proofAct s).thermReads = s.thermReads ∧ (proofAct
    s).link = s.link ∧ (proofAct s).txq = s.txq ∧ (proofAct s).cmp = s.cmp ∧ (proofAct s).hyu = s.hyu ∧ (proofAct
    s).opc = s.opc ∧ (proofAct s).exc = s.exc ∧ (proofAct s).ftc = s.ftc := by
  dsimp only [proofAct]
  (repeat' split) <;> simp

@[simp] theorem timerService_frame (s : State) :
    (timerService s).pending = s.pending ∧ (timerService s).pins = s.pins ∧ (timerService s).thermReads = s.thermReads ∧
    (timerService s).link = s.link ∧ (timerService s).txq = s.txq ∧ (timerService s).cmp = s.cmp ∧ (timerService
    s).hyu = s.hyu ∧ (timerService s).sls = s.sls ∧ (timerService s).opc = s.opc ∧ (timerService s).exc = s.exc ∧
    (timerService s).ftc = s.ftc := by
  unfold timerService
  (repeat' split) <;> simp

@[simp] theorem proofService_frame (s : State) :
    (proofService s).pending = s.pending ∧ (proofService s).pins = s.pins ∧ (proofService s).thermReads = s.thermReads ∧
    (proofService s).link = s.link ∧ (proofService s).txq = s.txq ∧ (proofService s).cmp = s.cmp ∧ (proofService
    s).hyu = s.hyu ∧ (proofService s).opc = s.opc ∧ (proofService s).exc = s.exc ∧ (proofService s).ftc = s.ftc := by
  unfold proofService
  split <;> simp

theorem skipReact_frame (s : State) :
    ∀ t, skipReact s = some t →
    t.pending = s.pending ∧ t.pins = s.pins ∧ t.thermReads = s.thermReads ∧ t.link = s.link ∧ t.txq = s.txq ∧ t.cmp =
    s.cmp ∧ t.hyu = s.hyu ∧ t.opc = s.opc ∧ t.exc = s.exc ∧ t.ftc = s.ftc := by
  intro t h
  dsimp only [skipReact] at h
  (repeat' split at h) <;> first | (cases h; done) | (simp at h; done) | (simp at h; subst h; simp) | (simp at h; obtain ⟨_, _, h⟩ := h; subst h; simp)

@[simp] theorem restartGrant_frame (s : State) :
    (restartGrant s).pending = s.pending ∧ (restartGrant s).pins = s.pins ∧ (restartGrant s).thermReads = s.thermReads ∧
    (restartGrant s).link = s.link ∧ (restartGrant s).txq = s.txq ∧ (restartGrant s).cmp = s.cmp ∧ (restartGrant
    s).hyu = s.hyu ∧ (restartGrant s).sls = s.sls ∧ (restartGrant s).opc = s.opc ∧ (restartGrant s).exc = s.exc ∧
    (restartGrant s).ftc = s.ftc := by
  unfold restartGrant
  split <;> simp

@[simp] theorem readyTaken_frame (n : Nat) (s : State) :
    (readyTaken n s).pending = s.pending ∧ (readyTaken n s).pins = s.pins ∧ (readyTaken n s).thermReads = s.thermReads ∧
    (readyTaken n s).link = s.link ∧ (readyTaken n s).txq = s.txq ∧ (readyTaken n s).cmp = s.cmp ∧ (readyTaken n
    s).hyu = s.hyu ∧ (readyTaken n s).sls = s.sls ∧ (readyTaken n s).opc = s.opc ∧ (readyTaken n s).exc = s.exc ∧
    (readyTaken n s).ftc = s.ftc := by
  unfold readyTaken
  simp

@[simp] theorem takeReady_frame (n : Byte) (s : State) :
    (takeReady n s).pending = s.pending ∧ (takeReady n s).pins = s.pins ∧ (takeReady n s).thermReads = s.thermReads ∧
    (takeReady n s).link = s.link ∧ (takeReady n s).txq = s.txq ∧ (takeReady n s).cmp = s.cmp ∧ (takeReady n s).hyu
    = s.hyu ∧ (takeReady n s).sls = s.sls ∧ (takeReady n s).opc = s.opc ∧ (takeReady n s).exc = s.exc ∧ (takeReady n
    s).ftc = s.ftc := by
  unfold takeReady
  split <;> simp

@[simp] theorem rowPrinted_frame (w : ProofRow) (s : State) :
    (rowPrinted w s).pending = s.pending ∧ (rowPrinted w s).pins = s.pins ∧ (rowPrinted w s).thermReads = s.thermReads ∧
    (rowPrinted w s).txq = s.txq ∧ (rowPrinted w s).cmp = s.cmp ∧ (rowPrinted w s).hyu = s.hyu ∧ (rowPrinted w
    s).opc = s.opc ∧ (rowPrinted w s).exc = s.exc ∧ (rowPrinted w s).ftc = s.ftc := by
  unfold rowPrinted
  (repeat' split) <;> simp

@[simp] theorem takePrinted_frame (s : State) :
    (takePrinted s).pending = s.pending ∧ (takePrinted s).pins = s.pins ∧ (takePrinted s).thermReads = s.thermReads ∧
    (takePrinted s).txq = s.txq ∧ (takePrinted s).cmp = s.cmp ∧ (takePrinted s).hyu = s.hyu ∧ (takePrinted s).opc =
    s.opc ∧ (takePrinted s).exc = s.exc ∧ (takePrinted s).ftc = s.ftc := by
  unfold takePrinted
  split <;> simp

@[simp] theorem returnToPending_frame (s : State) :
    (returnToPending s).pending = s.pending ∧ (returnToPending s).pins = s.pins ∧ (returnToPending s).thermReads =
    s.thermReads ∧ (returnToPending s).link = s.link ∧ (returnToPending s).txq = s.txq ∧ (returnToPending s).cmp =
    s.cmp ∧ (returnToPending s).hyu = s.hyu ∧ (returnToPending s).opc = s.opc ∧ (returnToPending s).exc = s.exc ∧
    (returnToPending s).ftc = s.ftc ∧ (returnToPending s).prc = s.prc := by
  unfold returnToPending
  simp

@[simp] theorem endWaitReturned_frame (s : State) :
    (endWaitReturned s).pending = s.pending ∧ (endWaitReturned s).pins = s.pins ∧ (endWaitReturned s).thermReads =
    s.thermReads ∧ (endWaitReturned s).link = s.link ∧ (endWaitReturned s).txq = s.txq ∧ (endWaitReturned s).cmp =
    s.cmp ∧ (endWaitReturned s).hyu = s.hyu ∧ (endWaitReturned s).sls = s.sls ∧ (endWaitReturned s).opc = s.opc ∧
    (endWaitReturned s).exc = s.exc ∧ (endWaitReturned s).ftc = s.ftc := by
  unfold endWaitReturned
  (repeat' split) <;> simp

@[simp] theorem takeFault_frame (c : Byte) (s : State) :
    (takeFault c s).pending = s.pending ∧ (takeFault c s).pins = s.pins ∧ (takeFault c s).thermReads = s.thermReads ∧
    (takeFault c s).txq = s.txq ∧ (takeFault c s).cmp = s.cmp ∧ (takeFault c s).hyu = s.hyu ∧ (takeFault c s).opc =
    s.opc ∧ (takeFault c s).exc = s.exc ∧ (takeFault c s).ftc = s.ftc := by
  dsimp only [takeFault]
  (repeat' split) <;> simp

@[simp] theorem enterSkipping_frame (s : State) :
    (enterSkipping s).pending = s.pending ∧ (enterSkipping s).pins = s.pins ∧ (enterSkipping s).thermReads =
    s.thermReads ∧ (enterSkipping s).txq = s.txq ∧ (enterSkipping s).cmp = s.cmp ∧ (enterSkipping s).hyu = s.hyu ∧
    (enterSkipping s).sls = s.sls ∧ (enterSkipping s).opc = s.opc ∧ (enterSkipping s).exc = s.exc ∧ (enterSkipping
    s).ftc = s.ftc := by
  unfold enterSkipping
  simp

@[simp] theorem requiredSilence_frame (s : State) :
    (requiredSilence s).pending = s.pending ∧ (requiredSilence s).pins = s.pins ∧ (requiredSilence s).thermReads =
    s.thermReads ∧ (requiredSilence s).txq = s.txq ∧ (requiredSilence s).cmp = s.cmp ∧ (requiredSilence s).hyu =
    s.hyu ∧ (requiredSilence s).sls = s.sls ∧ (requiredSilence s).opc = s.opc ∧ (requiredSilence s).exc = s.exc ∧
    (requiredSilence s).ftc = s.ftc := by
  dsimp only [requiredSilence]
  split <;> simp

@[simp] theorem abortGiveUp_frame (s : State) :
    (abortGiveUp s).pending = s.pending ∧ (abortGiveUp s).pins = s.pins ∧ (abortGiveUp s).thermReads = s.thermReads ∧
    (abortGiveUp s).txq = s.txq ∧ (abortGiveUp s).cmp = s.cmp ∧ (abortGiveUp s).hyu = s.hyu ∧ (abortGiveUp s).opc =
    s.opc ∧ (abortGiveUp s).exc = s.exc ∧ (abortGiveUp s).ftc = s.ftc := by
  dsimp only [abortGiveUp]
  split <;> simp

@[simp] theorem grantExpires_frame (s : State) :
    (grantExpires s).pending = s.pending ∧ (grantExpires s).pins = s.pins ∧ (grantExpires s).thermReads = s.thermReads ∧
    (grantExpires s).txq = s.txq ∧ (grantExpires s).cmp = s.cmp ∧ (grantExpires s).hyu = s.hyu ∧ (grantExpires
    s).opc = s.opc ∧ (grantExpires s).exc = s.exc ∧ (grantExpires s).ftc = s.ftc := by
  unfold grantExpires
  (repeat' split) <;> simp

@[simp] theorem proofRetry_frame (s : State) :
    (proofRetry s).pending = s.pending ∧ (proofRetry s).pins = s.pins ∧ (proofRetry s).thermReads = s.thermReads ∧
    (proofRetry s).link = s.link ∧ (proofRetry s).txq = s.txq ∧ (proofRetry s).cmp = s.cmp ∧ (proofRetry s).hyu =
    s.hyu ∧ (proofRetry s).sls = s.sls ∧ (proofRetry s).opc = s.opc ∧ (proofRetry s).exc = s.exc ∧ (proofRetry
    s).ftc = s.ftc := by
  unfold proofRetry
  (repeat' split) <;> simp

@[simp] theorem proofAbort_frame (s : State) :
    (proofAbort s).pending = s.pending ∧ (proofAbort s).pins = s.pins ∧ (proofAbort s).thermReads = s.thermReads ∧
    (proofAbort s).link = s.link ∧ (proofAbort s).txq = s.txq ∧ (proofAbort s).cmp = s.cmp ∧ (proofAbort s).hyu =
    s.hyu ∧ (proofAbort s).sls = s.sls ∧ (proofAbort s).opc = s.opc ∧ (proofAbort s).exc = s.exc ∧ (proofAbort
    s).ftc = s.ftc := by
  unfold proofAbort
  simp

@[simp] theorem proofAbortEnds_frame (s : State) :
    (proofAbortEnds s).pending = s.pending ∧ (proofAbortEnds s).pins = s.pins ∧ (proofAbortEnds s).thermReads =
    s.thermReads ∧ (proofAbortEnds s).link = s.link ∧ (proofAbortEnds s).txq = s.txq ∧ (proofAbortEnds s).cmp =
    s.cmp ∧ (proofAbortEnds s).hyu = s.hyu ∧ (proofAbortEnds s).sls = s.sls ∧ (proofAbortEnds s).opc = s.opc ∧
    (proofAbortEnds s).exc = s.exc ∧ (proofAbortEnds s).ftc = s.ftc := by
  unfold proofAbortEnds
  simp

@[simp] theorem printerByte_frame (s : State) (b : Byte) :
    (printerByte s b).pending = s.pending ∧ (printerByte s b).pins = s.pins ∧ (printerByte s b).thermReads =
    s.thermReads ∧ (printerByte s b).txq = s.txq ∧ (printerByte s b).cmp = s.cmp ∧ (printerByte s b).hyu = s.hyu ∧
    (printerByte s b).opc = s.opc ∧ (printerByte s b).exc = s.exc ∧ (printerByte s b).ftc = s.ftc := by
  unfold printerByte
  (repeat' split) <;> simp

theorem releaseOldest_frame (s : State) :
    ∀ t, releaseOldest s = some t →
    t.pending = s.pending ∧ t.pins = s.pins ∧ t.thermReads = s.thermReads ∧ t.link = s.link ∧ t.txq = s.txq ∧ t.cmp =
    s.cmp ∧ t.hyu = s.hyu ∧ t.opc = s.opc ∧ t.exc = s.exc ∧ t.ftc = s.ftc ∧ t.prc = s.prc := by
  intro t h
  unfold releaseOldest at h
  (repeat' split at h) <;> (simp at h) <;> (subst h; simp)

@[simp] theorem completeAbort_frame (s : State) :
    (completeAbort s).pending = s.pending ∧ (completeAbort s).pins = s.pins ∧ (completeAbort s).thermReads =
    s.thermReads ∧ (completeAbort s).txq = s.txq ∧ (completeAbort s).hyu = s.hyu ∧ (completeAbort s).opc = s.opc ∧
    (completeAbort s).exc = s.exc ∧ (completeAbort s).ftc = s.ftc := by
  unfold completeAbort
  simp

theorem abortReact_frame (s : State) :
    ∀ t, abortReact s = some t →
    t.pending = s.pending ∧ t.pins = s.pins ∧ t.thermReads = s.thermReads ∧ t.txq = s.txq ∧ t.hyu = s.hyu ∧ t.opc =
    s.opc ∧ t.exc = s.exc ∧ t.ftc = s.ftc := by
  intro t h
  unfold abortReact at h
  (repeat' split at h) <;> (simp at h) <;> (subst h; simp)

@[simp] theorem idleService_frame (before : Bool) (s : State) :
    (idleService before s).pending = s.pending ∧ (idleService before s).pins = s.pins ∧ (idleService before
    s).thermReads = s.thermReads ∧ (idleService before s).txq = s.txq ∧ (idleService before s).cmp = s.cmp ∧
    (idleService before s).hyu = s.hyu ∧ (idleService before s).sls = s.sls ∧ (idleService before s).opc = s.opc ∧
    (idleService before s).exc = s.exc ∧ (idleService before s).ftc = s.ftc ∧ (idleService before s).prc = s.prc := by
  unfold idleService
  split <;> simp

end Sys2Proof.Machine
end

