-- ==== Sys2Proof/Laws/Link.lean ====
section
/-! SUPPORT. What taking a record does, once for all of them: when it is taken, what the reply queue receives, and that a
refusal leaves the state; the texts of the replies. -/

namespace Sys2Proof.Machine

/-! ### The texts of the replies -/

theorem no_unknown : no .unknown = ascii "NO UNKNOWN" := by decide
theorem no_badSyntax : no .badSyntax = ascii "NO SYNTAX" := by decide
theorem no_range : no .range = ascii "NO RANGE" := by decide
theorem no_full : no .full = ascii "NO FULL" := by decide
theorem no_busy : no .busy = ascii "NO BUSY" := by decide
theorem no_inUse : no .inUse = ascii "NO INUSE" := by decide
theorem no_state : no .state = ascii "NO STATE" := by decide
theorem no_late : no .late = ascii "NO LATE" := by decide
theorem no_noRefer : no .noRefer = ascii "NO NOREFER" := by decide
theorem no_notFound : no .notFound = ascii "NO NOTFOUND" := by decide
theorem no_badFrame : no .badFrame = ascii "NO BADFRAME" := by decide

/-- Every refusal's reply begins with NO, and OK replies with OK. -/
theorem no_take (r : Reason) : (no r).take 2 = ascii "NO" := by cases r <;> decide
theorem okWith_take (fs : List Text) : (okWith fs).take 2 = ascii "OK" := by
  unfold okWith ok
  rw [List.take_append_of_le_length (by decide)]
  decide

@[simp] theorem refuse_fst (r : Reason) (s : State) : (refuse r s).1 = s := rfl
@[simp] theorem refuse_snd (r : Reason) (s : State) : (refuse r s).2 = no r := rfl

/-! ### The receive buffer emptied and a reply added -/

@[simp] theorem heard_pending (s : State) : (heard s).pending = s.pending := rfl
@[simp] theorem heard_pins (s : State) : (heard s).pins = s.pins := rfl
@[simp] theorem heard_thermReads (s : State) : (heard s).thermReads = s.thermReads := rfl
@[simp] theorem heard_txq (s : State) : (heard s).txq = s.txq := rfl
@[simp] theorem heard_cmp (s : State) : (heard s).cmp = s.cmp := rfl
@[simp] theorem heard_hyu (s : State) : (heard s).hyu = s.hyu := rfl
@[simp] theorem heard_sls (s : State) : (heard s).sls = s.sls := rfl
@[simp] theorem heard_opc (s : State) : (heard s).opc = s.opc := rfl
@[simp] theorem heard_exc (s : State) : (heard s).exc = s.exc := rfl
@[simp] theorem heard_ftc (s : State) : (heard s).ftc = s.ftc := rfl
@[simp] theorem heard_prc (s : State) : (heard s).prc = s.prc := rfl
@[simp] theorem heard_link (s : State) : (heard s).link = { s.link with rx := .hunting } := rfl

@[simp] theorem answered_pending (t : Text) (s : State) : (answered t s).pending = s.pending := rfl
@[simp] theorem answered_pins (t : Text) (s : State) : (answered t s).pins = s.pins := rfl
@[simp] theorem answered_thermReads (t : Text) (s : State) : (answered t s).thermReads = s.thermReads := rfl
@[simp] theorem answered_txq (t : Text) (s : State) : (answered t s).txq = s.txq := rfl
@[simp] theorem answered_cmp (t : Text) (s : State) : (answered t s).cmp = s.cmp := rfl
@[simp] theorem answered_hyu (t : Text) (s : State) : (answered t s).hyu = s.hyu := rfl
@[simp] theorem answered_sls (t : Text) (s : State) : (answered t s).sls = s.sls := rfl
@[simp] theorem answered_opc (t : Text) (s : State) : (answered t s).opc = s.opc := rfl
@[simp] theorem answered_exc (t : Text) (s : State) : (answered t s).exc = s.exc := rfl
@[simp] theorem answered_ftc (t : Text) (s : State) : (answered t s).ftc = s.ftc := rfl
@[simp] theorem answered_prc (t : Text) (s : State) : (answered t s).prc = s.prc := rfl
@[simp] theorem answered_link (t : Text) (s : State) :
    (answered t s).link = { s.link with replies := s.link.replies ++ [{ text := t, ofReset := false }] } := rfl

/-! ### Taking a record -/

/-- All that the arrival of a complete frame can do. -/
theorem receive_cases (r : LinkRecord) (s : State) :
    (s.link.resetTaken = true ∧ receive r s = heard s) ∨
      (s.link.resetTaken = false ∧ s.link.rx.holdsFrame = true ∧ receive r s = s) ∨
      (LinkReady s ∧ receive r s = takeRecord r (heard s)) ∨
      (s.link.resetTaken = false ∧ s.link.rx.holdsFrame = false ∧ Config.replyQueue ≤ s.link.replies.length ∧
        receive r s = setRx (.waiting r) s) := by
  unfold receive LinkReady heard
  cases hr : s.link.resetTaken
  · cases hx : s.link.rx <;> simp [Receiver.holdsFrame] <;>
      rcases Nat.lt_or_ge s.link.replies.length Config.replyQueue with h | h <;>
      simp [h, Nat.not_lt.mpr, Nat.not_le.mpr]
  · simp

/-- A record that arrives at a ready link is taken. -/
theorem receive_of_ready {r : LinkRecord} {s : State} (h : LinkReady s) : receive r s = takeRecord r (heard s) := by
  rcases receive_cases r s with ⟨h1, _⟩ | ⟨_, h1, _⟩ | ⟨_, h1⟩ | ⟨_, _, h1, _⟩
  · simp [h.1] at h1
  · simp [h.2.1] at h1
  · exact h1
  · exact absurd h.2.2 (Nat.not_lt.mpr h1)

/-- A record that begins no reset is answered at the end of the reply queue. -/
theorem takeRecord_eq {r : LinkRecord} {s u : State} {reply : Text} (h : recordBody r s = (u, reply))
    (hr : u.link.resetTaken = false) : takeRecord r s = answered reply u := by
  unfold takeRecord addReply answered
  rw [h]
  simp [hr]

/-- A record event at a ready link, by what the record brings. -/
theorem recordEvent_of_ready {r : LinkRecord} {s u : State} {reply : Text} (h : LinkReady s)
    (hb : recordBody r (heard s) = (u, reply)) (hr : u.link.resetTaken = false) :
    recordEvent r s = .next (finish s (answered reply u)) := by
  unfold recordEvent
  rw [receive_of_ready h, takeRecord_eq hb hr]

/-- A command of clean words at a ready link. -/
theorem commandEvent_of_ready {k : Keyword} {ps : List Text} {s u : State} {reply : Text} (h : LinkReady s)
    (hc : ps.all cleanWord = true) (hb : commandBody k ps (heard s) = (u, reply)) (hr : u.link.resetTaken = false) :
    recordEvent (.command k ps) s = .next (finish s (answered reply u)) :=
  recordEvent_of_ready h (by simp [recordBody, cleanWords, hc, hb]) hr

/-- A command refused SYNTAX, by its words' characters or by its form. -/
theorem commandEvent_badSyntax {k : Keyword} {ps : List Text} {s : State} (h : LinkReady s)
    (hb : ps.all cleanWord = true → commandBody k ps (heard s) = refuse .badSyntax (heard s)) :
    recordEvent (.command k ps) s = .next (finish s (answered (ascii "NO SYNTAX") (heard s))) := by
  rw [← no_badSyntax]
  by_cases hc : ps.all cleanWord = true
  · exact commandEvent_of_ready h hc (hb hc) h.1
  · exact recordEvent_of_ready h (by simp [recordBody, cleanWords, hc, refuse]) h.1

end Sys2Proof.Machine
end

