-- ==== Sys2Proof/Laws/Reactions.lean ====
section
/-! SUPPORT. What a step is made of, once for all commands: the reactions, what they preserve together, what follows an
event, and the step itself. -/

namespace Sys2Proof.Machine

/-! ### The reactions -/

/-- A reaction is one of the eight. -/
theorem react_cases {s t : State} (h : react s = some t) :
    exposureReact s = some t ∨ surveyReact s = some t ∨ releaseOldest s = some t ∨ skipReact s = some t ∨
      composerStep s = some t ∨ exposureTake s = some t ∨ composerRest s = some t ∨ abortReact s = some t := by
  unfold react reactions at h
  obtain ⟨f, hf, ht⟩ := List.exists_of_findSome?_eq_some h
  simp only [List.mem_cons, List.not_mem_nil, or_false] at hf
  rcases hf with rfl | rfl | rfl | rfl | rfl | rfl | rfl | rfl <;> simp [ht]

/-- What every reaction preserves, their settling preserves. -/
theorem settle_induct {P : State → Prop} (hP : ∀ s t, react s = some t → P s → P t) :
    ∀ (n : Nat) (s : State), P s → P (settle n s)
  | 0, _, h => h
  | n + 1, s, h => by
    unfold settle
    cases hr : react s with
    | none => exact h
    | some t => exact settle_induct hP n t (hP s t hr h)

/-- A state with no reaction is settled at once. -/
theorem settle_of_none {n : Nat} {s : State} (h : react s = none) : settle n s = s := by
  cases n with
  | zero => rfl
  | succ n => unfold settle; rw [h]

/-- What the reactions, the four services, the IDLE flag and the transmitter preserve, the rest of an event preserves. -/
theorem finish_induct {P : State → Prop} (hr : ∀ s t, react s = some t → P s → P t) (hu : ∀ s, P s → P (spinUp s))
    (ht : ∀ s, P s → P (restService s)) (hp : ∀ s, P s → P (proofService s)) (hi : ∀ s, P s → P (raise .idle s))
    (hx : ∀ s, P s → P (pumpTx s)) (s u : State) (h : P u) : P (finish s u) := by
  unfold finish afterEvent
  refine hx _ ?_
  have h' := hp _ (ht _ (hu _ (settle_induct hr Config.cascade u h)))
  unfold idleService
  split
  · exact hi _ h'
  · exact h'

@[simp] theorem pumpTx_frame (s : State) :
    (pumpTx s).pending = s.pending ∧ (pumpTx s).pins = s.pins ∧ (pumpTx s).thermReads = s.thermReads ∧
    (pumpTx s).txq = s.txq ∧ (pumpTx s).cmp = s.cmp ∧ (pumpTx s).hyu = s.hyu ∧ (pumpTx s).sls = s.sls ∧
    (pumpTx s).opc = s.opc ∧ (pumpTx s).exc = s.exc ∧ (pumpTx s).ftc = s.ftc ∧ (pumpTx s).prc = s.prc := by
  unfold pumpTx
  simp

/-- A reaction touches no pin, no byte of the text queue and not the queue of commands. -/
theorem react_frame {s t : State} (h : react s = some t) :
    t.pending = s.pending ∧ t.pins = s.pins ∧ t.txq = s.txq := by
  rcases react_cases h with h | h | h | h | h | h | h | h
  · have := exposureReact_frame s t h; simp [this]
  · have := surveyReact_frame s t h; simp [this]
  · have := releaseOldest_frame s t h; simp [this]
  · have := skipReact_frame s t h; simp [this]
  · have := composerStep_frame s t h; simp [this]
  · have := exposureTake_frame s t h; simp [this]
  · have := composerRest_frame s t h; simp [this]
  · have := abortReact_frame s t h; simp [this]

/-! ### Flags, records of the store, the text queue -/

/-- A member of a set kept in table order. -/
theorem mem_insertIn {α : Type} [BEq α] [LawfulBEq α] {all set : List α} {x y : α} :
    y ∈ insertIn all x set ↔ y ∈ all ∧ (y = x ∨ y ∈ set) := by
  simp [insertIn, List.mem_filter]

/-- Every flag is in the table. -/
theorem flag_mem_all (f : Flag) : f ∈ Flag.all := by cases f <;> decide

/-- All that raising a flag does to the Link Interface. -/
theorem link_raise_cases (f : Flag) (l : Link) :
    (f ∈ l.flags ∧ l.raise f = l) ∨
      (f ∉ l.flags ∧ l.raise f =
        { l with flags := insertIn Flag.all f l.flags, pendingNames := insertIn Flag.all f l.pendingNames }) := by
  unfold Link.raise
  by_cases h : f ∈ l.flags <;> simp [h]

/-- The store keeps its number of records under a change of one. -/
@[simp] theorem update_length (st : Store) (n : Nat) (f : LineRecord → LineRecord) :
    (st.update n f).records.length = st.records.length := by simp [Store.update]

/-- A change of the records numbered `n` touches nothing but the records. -/
@[simp] theorem update_frame (st : Store) (n : Nat) (f : LineRecord → LineRecord) :
    (st.update n f).counter = st.counter ∧ (st.update n f).lastOpened = st.lastOpened ∧
      (st.update n f).lastExposed = st.lastExposed ∧ (st.update n f).lastProofed = st.lastProofed ∧
      (st.update n f).abort = st.abort := ⟨rfl, rfl, rfl, rfl, rfl⟩

/-- A changed record is found under its number, changed. -/
theorem find_update {st : Store} {n : Nat} {r : LineRecord} {f : LineRecord → LineRecord}
    (hf : ∀ r, (f r).number = r.number) (h : st.find n = some r) : (st.update n f).find n = some (f r) := by
  unfold Store.find Store.update at *
  revert h
  generalize st.records = rs
  intro h
  induction rs with
  | nil => simp at h
  | cons a as ih =>
    by_cases ha : a.number = n
    · simp only [List.find?_cons, ha, beq_self_eq_true, Option.some.injEq] at h
      subst h
      simp [ha, hf]
    · have hb : (a.number == n) = false := by simpa using ha
      simp only [List.find?_cons, hb] at h
      simp only [List.map_cons, hb, List.find?_cons, Bool.false_eq_true, if_false]
      exact ih h

/-- All that draining the text queue does. -/
theorem drainTo_cases (bytes : Text) (s : State) :
    (s.txq.watch = true ∧ bytes.length ≤ Config.textQueue - Config.roomWatch ∧
        drainTo bytes s = raise .room (s.withTxq { bytes := bytes, watch := false })) ∨
      ((s.txq.watch = false ∨ Config.textQueue - Config.roomWatch < bytes.length) ∧
        drainTo bytes s = s.withTxq { s.txq with bytes := bytes }) := by
  have hl : bytes.length ≤ Config.textQueue - Config.roomWatch ↔
      (TextQueue.mk bytes s.txq.watch).room ≥ Config.roomWatch := by
    simp only [TextQueue.room, Config.textQueue, Config.roomWatch]
    omega
  unfold drainTo
  dsimp only
  rw [hl, ← Nat.not_le, hl]
  cases hw : s.txq.watch
  · simp
  · by_cases h : (TextQueue.mk bytes true).room ≥ Config.roomWatch <;> simp [h]

/-! ### The step -/

/-- All that a step can do. -/
theorem step_cases {s : State} {o : Host.Outcome State Fault Refusal} (h : step s = o) :
    (s.pending = [] ∧ o = .next s) ∨ ∃ c cs, s.pending = c :: cs ∧ o = exec c (s.withPending cs) := by
  unfold step at h
  split at h
  · exact Or.inl ⟨by assumption, h.symm⟩
  · exact Or.inr ⟨_, _, by assumption, h.symm⟩

end Sys2Proof.Machine
end

