-- ==== Sys2Proof/Laws/Ops.lean ====
section
/-! SUPPORT. For the shared operations that act only under a condition: both cases, once. -/

namespace Sys2Proof.Machine

/-- A countdown is cancelled in ARMED only. -/
theorem cancelCountdown_cases (st : ExcState) (s : State) :
    (s.exc.st = .armed ∧ cancelCountdown st s =
        s.withExc { s.exc with st := st, armed := none, flash := none, stage := .arm }) ∨
      (s.exc.st ≠ .armed ∧ cancelCountdown st s = s) := by
  unfold cancelCountdown
  by_cases h : s.exc.st = .armed <;> simp [h, Exposure.enter]

/-- A cut wait ends where there is one. -/
theorem endCutWait_cases (s : State) :
    (s.exc.cutWait = true ∧ endCutWait s = freeExposure s) ∨ (s.exc.cutWait = false ∧ endCutWait s = s) := by
  unfold endCutWait
  cases h : s.exc.cutWait <;> simp

/-- A setup stall raises SETUP but on a retry for the same cause. -/
theorem stallSetup_cases (cause : StallCause) (s : State) :
    let u := s.withCmp { s.cmp with st := .stallSetup, stallCause := some cause }
    (s.cmp.stallCause = some cause ∧ stallSetup cause s = u) ∨
      (s.cmp.stallCause ≠ some cause ∧ stallSetup cause s = raise .setup u) := by
  unfold stallSetup
  by_cases h : s.cmp.stallCause = some cause <;> simp [h]

/-- A FACE or LENS lets a composer in STALL_SETUP read on. -/
theorem retrySetup_cases (s : State) :
    (s.cmp.st = .stallSetup ∧ retrySetup s = s.withCmp { s.cmp with st := .reading }) ∨
      (s.cmp.st ≠ .stallSetup ∧ retrySetup s = s) := by
  unfold retrySetup
  by_cases h : s.cmp.st = .stallSetup <;> simp [h]

/-- The low-film match is made where it holds. -/
theorem testLowFilm_cases (s : State) :
    (s.ftc.lowNow = true ∧ testLowFilm s = raise .filmLow (s.withFtc { s.ftc with lowMatched := true })) ∨
      (s.ftc.lowNow = false ∧ testLowFilm s = s) := by
  unfold testLowFilm
  cases h : s.ftc.lowNow <;> simp

/-- Spin-up begins under its four conditions. -/
theorem spinUp_cases (s : State) :
    (s.opc.drum = .stopped ∧ s.opc.door = .closed ∧ s.opc.resting = false ∧ s.opc.stallHold = false ∧
        spinUp s = s.withOpc { s.opc with drum := .spinningUp, spinTimer := true, intervals := 0, indexSeen := false }) ∨
      spinUp s = s := by
  unfold spinUp
  split
  · rename_i h
    exact Or.inl ⟨h.1, h.2.1, h.2.2.1, h.2.2.2, rfl⟩
  · exact Or.inr rfl

/-- The rest timer after an event: as it was, started, or stopped. -/
theorem restService_cases (s : State) :
    restService s = s ∨ restService s = s.withOpc { s.opc with restTimer := some s.opc.restInterval } ∨
      restService s = s.withOpc { s.opc with restTimer := none } := by
  unfold restService
  split
  · split
    · exact Or.inr (Or.inl rfl)
    · exact Or.inl rfl
  · exact Or.inr (Or.inr rfl)

/-- A line's move is issued as a stepper operation, or completes at once. -/
theorem issueLineMove_cases (m : LineMove) (s : State) :
    (issueLineMove m s = (.completed, testLowFilm (s.withFtc (s.ftc.lineMoved m (s.ftc.stepping m.target).newE)))) ∨
      (s.ftc.p ≠ m.target ∧ (s.ftc.stepping m.target).steps ≠ 0 ∧ issueLineMove m s =
        (.moving, s.withFtc
          { s.ftc with st := .moving, op := some (.lineMove m (s.ftc.stepping m.target)), failed := none })) := by
  unfold issueLineMove Film.atOnce
  dsimp only
  split
  · exact Or.inl rfl
  · rename_i h
    simp only [Bool.or_eq_true, beq_iff_eq, not_or] at h
    exact Or.inr ⟨h.1, h.2, rfl⟩

/-- A line's move runs into the end of the film, or is issued. -/
theorem requestMove_cases (r : LineRecord) (s : State) :
    (s.ftc.cap < (s.ftc.lineTarget r).target ∧ requestMove r s =
        (.filmOut, raise .filmOut (s.withFtc { s.ftc with filmOut := true }))) ∨
      ((s.ftc.lineTarget r).target ≤ s.ftc.cap ∧ requestMove r s = issueLineMove (s.ftc.lineTarget r) s) := by
  unfold requestMove
  dsimp only
  split
  · exact Or.inl ⟨by assumption, rfl⟩
  · exact Or.inr ⟨Nat.not_lt.mp (by assumption), rfl⟩

/-- A fault recorded: the first kind and its line stay, another kind joins the also-seen kinds. -/
theorem record_cases {κ : Type} [BEq κ] (all : List κ) (kind : κ) (line : Nat) (r : FaultRecord κ) :
    (r.first = none ∧ r.record all kind line = { first := some kind, also := [], line := line }) ∨
      ∃ k, r.first = some k ∧ r.record all kind line =
        { r with also := if k == kind then r.also else insertIn all kind r.also } := by
  unfold FaultRecord.record
  cases h : r.first with
  | none => exact Or.inl ⟨rfl, rfl⟩
  | some k =>
    obtain ⟨first, also, at_⟩ := r
    cases h
    refine Or.inr ⟨k, rfl, ?_⟩
    dsimp only
    split <;> rfl

/-- A charged lamp fires at the armed energy; any other makes the slot a miss. -/
theorem slotArrives_cases (s : State) :
    (s.exc.armed = none ∧ slotArrives s = s) ∨
      ∃ a, s.exc.armed = some a ∧
        ((s.exc.lamp = .charged ∧ slotArrives s =
            s.withExc { s.exc with st := .flashing, armed := none, flash := some a.energy, lamp := .charging }) ∨
          (s.exc.lamp ≠ .charged ∧ slotArrives s = slotMiss s)) := by
  unfold slotArrives
  cases h : s.exc.armed with
  | none => simp
  | some a => by_cases hl : s.exc.lamp = .charged <;> simp [hl, Exposure.enter]

/-- The step in hand is retried only where the store or the pool has room for it. -/
theorem composerStep_cases {s t : State} (h : composerStep s = some t) :
    (∃ k, s.cmp.st = .reading ∧ s.cmp.task = some k ∧ t = taskStep k s) ∨
      ∃ k, s.cmp.st = .stallRoom ∧ s.cmp.task = some k ∧ roomFor k s = true ∧
        t = s.withCmp { s.cmp with st := .reading } := by
  unfold composerStep at h
  split at h
  · cases h
  · exact Or.inl ⟨_, by assumption, by assumption, (Option.some.inj h).symm⟩
  · split at h
    · exact Or.inr ⟨_, by assumption, by assumption, by assumption, (Option.some.inj h).symm⟩
    · cases h
  · cases h

/-- STOPPED is kept where a cut is waited for. -/
theorem stayStopped_cases (s : State) :
    (s.exc.cutWait = true ∧ stayStopped s = s.withExc { s.exc with st := .stopped }) ∨
      (s.exc.cutWait = false ∧ stayStopped s = s) := by
  unfold stayStopped
  cases h : s.exc.cutWait <;> simp

/-! ### Runs of an overset word -/

theorem widthSum_cons (e : Elem) (es : List Elem) : widthSum (e :: es) = e.width + widthSum es := by simp [widthSum]

/-- The leading run that fits is the longest within the width and the number. -/
theorem runLength_greatest (room n : Nat) (es : List Elem) :
    runLength room n es ≤ es.length ∧ runLength room n es ≤ n ∧ widthSum (es.take (runLength room n es)) ≤ room ∧
      ∀ k, k ≤ es.length → k ≤ n → widthSum (es.take k) ≤ room → k ≤ runLength room n es := by
  induction es generalizing room n with
  | nil => simp [runLength, widthSum]
  | cons e es ih =>
    cases n with
    | zero =>
      refine ⟨Nat.zero_le _, Nat.le_refl _, Nat.zero_le _, fun k _ hk _ => hk⟩
    | succ n =>
      unfold runLength
      split
      · obtain ⟨h1, h2, h3, h4⟩ := ih (room - e.width) n
        refine ⟨by simp; omega, by omega, by simp only [List.take_succ_cons, widthSum_cons]; omega, ?_⟩
        intro k hl hn hw
        cases k with
        | zero => omega
        | succ k =>
          simp only [List.take_succ_cons, widthSum_cons] at hw
          have := h4 k (by simpa using hl) (by omega) (by omega)
          omega
      · refine ⟨by simp, by simp, by simp [widthSum], ?_⟩
        intro k hl hn hw
        cases k with
        | zero => omega
        | succ k =>
          simp only [List.take_succ_cons, widthSum_cons] at hw
          omega

/-- An element at index `i` of a run from `start` keeps R6's bounds. -/
def KeepsBounds (start : Nat) (es : List Elem) (i : Nat) : Prop :=
  ∀ e, es[i]? = some e → start + widthSum (es.take i) ≤ 17279 ∧ start + widthSum (es.take i) + e.width ≤ 19920

/-- The bounded run is the longest whose elements all keep R6's bounds. -/
theorem boundedLength_greatest (start : Nat) (es : List Elem) :
    boundedLength start es ≤ es.length ∧ (∀ i < boundedLength start es, KeepsBounds start es i) ∧
      ∀ k, k ≤ es.length → (∀ i < k, KeepsBounds start es i) → k ≤ boundedLength start es := by
  induction es generalizing start with
  | nil => simp [boundedLength]
  | cons e es ih =>
    have hs : ∀ i, KeepsBounds start (e :: es) (i + 1) ↔ KeepsBounds (start + e.width) es i := by
      intro i
      simp only [KeepsBounds, List.getElem?_cons_succ, List.take_succ_cons, widthSum_cons, ← Nat.add_assoc]
    have h0 : KeepsBounds start (e :: es) 0 ↔ start ≤ 17279 ∧ start + e.width ≤ 19920 := by
      simp [KeepsBounds, widthSum]
    unfold boundedLength
    split
    · rename_i h
      obtain ⟨h1, h2, h3⟩ := ih (start + e.width)
      refine ⟨by simp; omega, ?_, ?_⟩
      · intro i hi
        cases i with
        | zero => exact h0.mpr h
        | succ i => exact (hs i).mpr (h2 i (by omega))
      · intro k hl hk
        cases k with
        | zero => omega
        | succ k =>
          have := h3 k (by simpa using hl) fun i hi => (hs i).mp (hk (i + 1) (by omega))
          omega
    · rename_i h
      refine ⟨by simp, by simp, ?_⟩
      intro k hl hk
      cases k with
      | zero => omega
      | succ k => exact absurd (h0.mp (hk 0 (by omega))) h

end Sys2Proof.Machine
end

