-- ==== Sys2Proof/Laws/PerInstr.lean ====
section
/-! SUPPORT. The per-command family `Sendable`: a well-formed command with a keyword is one frame's payload, of words that
no space breaks. It is about the command as it is written, not about what it does. -/

open Sys2Proof Sys2Proof.Machine

/-- A well-formed command with a keyword: its payload has at most 250 bytes, and its words hold no space (11.1, 11.3). -/
def Sys2Proof.Laws.Sendable.Statement (i : Instr) : Prop :=
  i.wf = true → ∀ k ps, recordOf i = some (.command k ps) →
    (k.text ++ fields ps).length ≤ Config.framePayload ∧ ∀ w ∈ ps, wordOk w = true

namespace Sys2Proof.Laws

theorem payloadLength_eq (n : Nat) (ps : List Text) : payloadLength n ps = n + (fields ps).length := by
  unfold payloadLength fields
  induction ps generalizing n with
  | nil => rfl
  | cons w ps ih =>
    rw [List.foldl_cons, ih]
    simp only [List.map_cons, List.flatten_cons, List.length_append, List.length_cons]
    omega

theorem paramsOk_sendable {n : Nat} {ps : List Text} (t : Text) (ht : t.length = n) (h : paramsOk n ps = true) :
    (t ++ fields ps).length ≤ Config.framePayload ∧ ∀ w ∈ ps, wordOk w = true := by
  simp only [paramsOk, Bool.and_eq_true, List.all_eq_true, decide_eq_true_eq, payloadLength_eq] at h
  exact ⟨by rw [List.length_append, ht]; exact h.2, h.1⟩

/-- A command with a keyword is sendable where its parameters are. -/
theorem sendable_command {i : Instr} {k : Keyword} {n : Nat} {ps : List Text} (hw : i.wf = paramsOk n ps)
    (hr : recordOf i = some (.command k ps)) (hk : k.text.length = n) : Sendable.Statement i := by
  intro h k' ps' hr'
  rw [hr, Option.some.injEq, LinkRecord.command.injEq] at hr'
  obtain ⟨rfl, rfl⟩ := hr'
  exact paramsOk_sendable k.text hk (hw ▸ h)

/-- A word outside the list of R189 is no keyword. -/
theorem ofText_eq_none {w : Text} (h : keywords.contains w = false) : Keyword.ofText w = none := by
  have e : keywords = Keyword.all.map Keyword.text := by decide
  rw [e] at h
  unfold Keyword.ofText
  rw [List.find?_eq_none]
  intro k hk hw
  simp only [List.contains_eq_mem, List.mem_map, decide_eq_false_iff_not, not_exists, not_and] at h
  exact h k hk (by simpa using hw)

/-- A command that brings no record with a keyword. -/
theorem sendable_other {i : Instr} (hr : ∀ k ps, recordOf i ≠ some (.command k ps)) : Sendable.Statement i :=
  fun _ k ps h => absurd h (hr k ps)

theorem Sendable.powerOnReset (b a : Bool) : Sendable.Statement (.powerOnReset b a) :=
  sendable_other nofun
theorem Sendable.gapTimerExpiry (r : Text) : Sendable.Statement (.gapTimerExpiry r) :=
  sendable_other nofun
theorem Sendable.badFrame (kind : Byte) (p : Text) (check : Byte) : Sendable.Statement (.badFrame kind p check) := by
  intro h k ps hr
  simp only [Instr.wf, Bool.and_eq_true, Bool.or_eq_true, bne_iff_ne] at h
  simp only [recordOf, frameRecord, Option.some.injEq] at hr
  split at hr
  · cases hr
  · rename_i h0
    rw [if_neg (h.2.resolve_left (by simpa using h0)).1, if_neg (h.2.resolve_left (by simpa using h0)).2] at hr
    cases hr
theorem Sendable.transmitFrameEnd : Sendable.Statement .transmitFrameEnd :=
  sendable_other nofun
theorem Sendable.unknownKeyword (w : Text) (ps : List Text) : Sendable.Statement (.unknownKeyword w ps) := by
  intro h k ps' hr
  simp only [Instr.wf, Bool.and_eq_true, Bool.not_eq_true'] at h
  simp [recordOf, commandRecord, ofText_eq_none h.1.2] at hr
theorem Sendable.text (p : Text) : Sendable.Statement (.text p) :=
  sendable_other nofun
theorem Sendable.textCodeRead : Sendable.Statement .textCodeRead :=
  sendable_other nofun
theorem Sendable.referralTimerExpiry : Sendable.Statement .referralTimerExpiry :=
  sendable_other nofun
theorem Sendable.job (ps : List Text) : Sendable.Statement (.job ps) :=
  sendable_command rfl rfl (by decide)
theorem Sendable.pairs (ps : List Text) : Sendable.Statement (.pairs ps) :=
  sendable_command rfl rfl (by decide)
theorem Sendable.dictAdd (ps : List Text) : Sendable.Statement (.dictAdd ps) :=
  sendable_command rfl rfl (by decide)
theorem Sendable.dictDel (ps : List Text) : Sendable.Statement (.dictDel ps) :=
  sendable_command rfl rfl (by decide)
theorem Sendable.dictClear (ps : List Text) : Sendable.Statement (.dictClear ps) :=
  sendable_command rfl rfl (by decide)
theorem Sendable.dictGet (ps : List Text) : Sendable.Statement (.dictGet ps) :=
  sendable_command rfl rfl (by decide)
theorem Sendable.dictList (ps : List Text) : Sendable.Statement (.dictList ps) :=
  sendable_command rfl rfl (by decide)
theorem Sendable.decideBreak (ps : List Text) : Sendable.Statement (.decideBreak ps) :=
  sendable_command rfl rfl (by decide)
theorem Sendable.line (ps : List Text) : Sendable.Statement (.line ps) :=
  sendable_command rfl rfl (by decide)
theorem Sendable.abort (ps : List Text) : Sendable.Statement (.abort ps) :=
  sendable_command rfl rfl (by decide)
theorem Sendable.face (ps : List Text) : Sendable.Statement (.face ps) :=
  sendable_command rfl rfl (by decide)
theorem Sendable.widths (ps : List Text) : Sendable.Statement (.widths ps) :=
  sendable_command rfl rfl (by decide)
theorem Sendable.unmount (ps : List Text) : Sendable.Statement (.unmount ps) :=
  sendable_command rfl rfl (by decide)
theorem Sendable.lens (ps : List Text) : Sendable.Statement (.lens ps) :=
  sendable_command rfl rfl (by decide)
theorem Sendable.survey (ps : List Text) : Sendable.Statement (.survey ps) :=
  sendable_command rfl rfl (by decide)
theorem Sendable.optics (ps : List Text) : Sendable.Statement (.optics ps) :=
  sendable_command rfl rfl (by decide)
theorem Sendable.stop (ps : List Text) : Sendable.Statement (.stop ps) :=
  sendable_command rfl rfl (by decide)
theorem Sendable.resume (ps : List Text) : Sendable.Statement (.resume ps) :=
  sendable_command rfl rfl (by decide)
theorem Sendable.temps (ps : List Text) : Sendable.Statement (.temps ps) :=
  sendable_command rfl rfl (by decide)
theorem Sendable.intensity (ps : List Text) : Sendable.Statement (.intensity ps) :=
  sendable_command rfl rfl (by decide)
theorem Sendable.cassette (ps : List Text) : Sendable.Statement (.cassette ps) :=
  sendable_command rfl rfl (by decide)
theorem Sendable.feedCut (ps : List Text) : Sendable.Statement (.feedCut ps) :=
  sendable_command rfl rfl (by decide)
theorem Sendable.transport (ps : List Text) : Sendable.Statement (.transport ps) :=
  sendable_command rfl rfl (by decide)
theorem Sendable.printer (ps : List Text) : Sendable.Statement (.printer ps) :=
  sendable_command rfl rfl (by decide)
theorem Sendable.rest (ps : List Text) : Sendable.Statement (.rest ps) :=
  sendable_command rfl rfl (by decide)
theorem Sendable.wake (ps : List Text) : Sendable.Statement (.wake ps) :=
  sendable_command rfl rfl (by decide)
theorem Sendable.reset (ps : List Text) : Sendable.Statement (.reset ps) :=
  sendable_command rfl rfl (by decide)
theorem Sendable.tune (ps : List Text) : Sendable.Statement (.tune ps) :=
  sendable_command rfl rfl (by decide)
theorem Sendable.clear (ps : List Text) : Sendable.Statement (.clear ps) :=
  sendable_command rfl rfl (by decide)
theorem Sendable.status (ps : List Text) : Sendable.Statement (.status ps) :=
  sendable_command rfl rfl (by decide)
theorem Sendable.faults (ps : List Text) : Sendable.Statement (.faults ps) :=
  sendable_command rfl rfl (by decide)
theorem Sendable.clearFault (ps : List Text) : Sendable.Statement (.clearFault ps) :=
  sendable_command rfl rfl (by decide)
theorem Sendable.caps (ps : List Text) : Sendable.Statement (.caps ps) :=
  sendable_command rfl rfl (by decide)
theorem Sendable.encoderCount : Sendable.Statement .encoderCount :=
  sendable_other nofun
theorem Sendable.slotArrival : Sendable.Statement .slotArrival :=
  sendable_other nofun
theorem Sendable.photocellSense : Sendable.Statement .photocellSense :=
  sendable_other nofun
theorem Sendable.confirmationWindowExpiry : Sendable.Statement .confirmationWindowExpiry :=
  sendable_other nofun
theorem Sendable.chargeSense : Sendable.Statement .chargeSense :=
  sendable_other nofun
theorem Sendable.opticsOperationComplete (k : Mechanism) : Sendable.Statement (.opticsOperationComplete k) :=
  sendable_other nofun
theorem Sendable.opticsOperationTimeout (k : Mechanism) : Sendable.Statement (.opticsOperationTimeout k) :=
  sendable_other nofun
theorem Sendable.escapementComplete : Sendable.Statement .escapementComplete :=
  sendable_other nofun
theorem Sendable.escapementTimeout : Sendable.Statement .escapementTimeout :=
  sendable_other nofun
theorem Sendable.doorSensorChange (l : DoorLevel) : Sendable.Statement (.doorSensorChange l) :=
  sendable_other nofun
theorem Sendable.doorDebounceExpiry : Sendable.Statement .doorDebounceExpiry :=
  sendable_other nofun
theorem Sendable.drumIndex (ms : Nat) (u l : Byte) : Sendable.Statement (.drumIndex ms u l) :=
  sendable_other nofun
theorem Sendable.spinUpTimerExpiry : Sendable.Statement .spinUpTimerExpiry :=
  sendable_other nofun
theorem Sendable.stallMonitorExpiry : Sendable.Statement .stallMonitorExpiry :=
  sendable_other nofun
theorem Sendable.restTimerExpiry : Sendable.Statement .restTimerExpiry :=
  sendable_other nofun
theorem Sendable.cassetteSensorChange (l : CassetteLevel) : Sendable.Statement (.cassetteSensorChange l) :=
  sendable_other nofun
theorem Sendable.cassetteDebounceExpiry : Sendable.Statement .cassetteDebounceExpiry :=
  sendable_other nofun
theorem Sendable.stepperComplete : Sendable.Statement .stepperComplete :=
  sendable_other nofun
theorem Sendable.moveTimeout : Sendable.Statement .moveTimeout :=
  sendable_other nofun
theorem Sendable.cutterComplete : Sendable.Statement .cutterComplete :=
  sendable_other nofun
theorem Sendable.cutterTimeout : Sendable.Statement .cutterTimeout :=
  sendable_other nofun
theorem Sendable.proofMessageEnd : Sendable.Statement .proofMessageEnd :=
  sendable_other nofun
theorem Sendable.printerReady (n : PrinterMessage) : Sendable.Statement (.printerReady n) :=
  sendable_other nofun
theorem Sendable.printed : Sendable.Statement .printed :=
  sendable_other nofun
theorem Sendable.printerFault (c : PrinterMessage) : Sendable.Statement (.printerFault c) :=
  sendable_other nofun
theorem Sendable.grantTimerExpiry : Sendable.Statement .grantTimerExpiry :=
  sendable_other nofun
theorem Sendable.lengthByteAbove250 (kind length : Byte) : Sendable.Statement (.lengthByteAbove250 kind length) :=
  sendable_other nofun

end Sys2Proof.Laws
end

