-- ==== Sys2Proof/Laws/Printer.lean ====
section
/-! SUPPORT. What the bytes of the printer do (R166), once for its three messages, what the escapement does with its waiting
requests (R129), and what a survey cut short leaves of the observed codes (R120, R184). -/

namespace Sys2Proof.Machine

/-- All that one byte of the printer can do. -/
theorem printerByte_cases (s : State) (b : Byte) :
    (s.prc.half = some .ready ∧ printerByte s b = takeReady b (s.withPrc { s.prc with half := none })) ∨
      (s.prc.half = some .fault ∧ printerByte s b = takeFault b (s.withPrc { s.prc with half := none })) ∨
      (s.prc.half = none ∧ b = 0x50#8 ∧ printerByte s b = takePrinted s) ∨
      (s.prc.half = none ∧ b = 0x52#8 ∧ printerByte s b = s.withPrc { s.prc with half := some .ready }) ∨
      (s.prc.half = none ∧ b = 0x46#8 ∧ printerByte s b = s.withPrc { s.prc with half := some .fault }) ∨
      (s.prc.half = none ∧ b ≠ 0x50#8 ∧ b ≠ 0x52#8 ∧ b ≠ 0x46#8 ∧ printerByte s b = s) := by
  unfold printerByte
  cases hh : s.prc.half with
  | none =>
    by_cases h1 : b = 0x50#8
    · simp [h1]
    · by_cases h2 : b = 0x52#8
      · simp [h2]
      · by_cases h3 : b = 0x46#8 <;> simp [h1, h2, h3]
  | some k => cases k <;> simp

/-- An event's end depends on the state it began in by the IDLE conditions alone (R191). -/
theorem finish_before {s s' : State} (h : idleHolds s = idleHolds s') (u : State) : finish s u = finish s' u := by
  unfold finish
  rw [h]

/-- A message half received is none of the IDLE conditions. -/
@[simp] theorem finish_withHalf (s u : State) (k : Option PrinterHead) :
    finish (s.withPrc { s.prc with half := k }) u = finish s u := finish_before rfl u

/-- A byte completes a message where one is half received, and where it is a PRINTED. -/
theorem completesMessage_iff (b : Byte) (s : State) : completesMessage b s = true ↔ s.prc.half ≠ none ∨ b = 0x50#8 := by
  unfold completesMessage
  cases s.prc.half <;> simp

/-- All that the reading of one byte of the printer can do: a message completed is an event. -/
theorem byteRead_cases (s : State) (b : Byte) :
    (s.prc.half = some .ready ∧ byteRead s b = finish s (takeReady b (s.withPrc { s.prc with half := none }))) ∨
      (s.prc.half = some .fault ∧ byteRead s b = finish s (takeFault b (s.withPrc { s.prc with half := none }))) ∨
      (s.prc.half = none ∧ b = 0x50#8 ∧ byteRead s b = finish s (takePrinted s)) ∨
      (s.prc.half = none ∧ b = 0x52#8 ∧ byteRead s b = s.withPrc { s.prc with half := some .ready }) ∨
      (s.prc.half = none ∧ b = 0x46#8 ∧ byteRead s b = s.withPrc { s.prc with half := some .fault }) ∨
      (s.prc.half = none ∧ b ≠ 0x50#8 ∧ b ≠ 0x52#8 ∧ b ≠ 0x46#8 ∧ byteRead s b = s) := by
  unfold byteRead completesMessage
  rcases printerByte_cases s b with ⟨h, e⟩ | ⟨h, e⟩ | ⟨h, hb, e⟩ | ⟨h, hb, e⟩ | ⟨h, hb, e⟩ | ⟨h, h1, h2, h3, e⟩ <;>
    simp_all

@[simp] theorem printerBytes_nil (s : State) : printerBytes [] s = s := rfl
@[simp] theorem printerBytes_cons (b : Byte) (bs : Text) (s : State) :
    printerBytes (b :: bs) s = printerBytes bs (byteRead s b) := rfl
theorem printerBytes_append (as bs : Text) (s : State) :
    printerBytes (as ++ bs) s = printerBytes bs (printerBytes as s) := by
  unfold printerBytes
  exact List.foldl_append

/-- A state that has no message half received, said once more. -/
theorem withPrc_half_none {s : State} (hs : s.prc.half = none) : s.withPrc { s.prc with half := none } = s := by
  have h : ({ s.prc with half := none } : Proof) = s.prc := by
    cases hp : s.prc
    simp_all
  rw [h, State.withPrc_self]

/-- Bytes that complete no message leave a message half received, or nothing. -/
theorem printerBytes_of_completesNone {bs : Text} (h : completesNoMessage bs = true) {s : State} (hs : s.prc.half = none) :
    printerBytes bs s = s.withPrc { s.prc with half := halfAfter bs } := by
  induction bs generalizing s with
  | nil =>
    simp only [printerBytes_nil, halfAfter, List.getLast?_nil, reduceCtorEq, if_false]
    exact (withPrc_half_none hs).symm
  | cons b bs ih =>
    cases bs with
    | nil =>
      simp only [completesNoMessage, bne_iff_ne, ne_eq] at h
      rcases byteRead_cases s b with ⟨h1, _⟩ | ⟨h1, _⟩ | ⟨_, h1, _⟩ | ⟨_, rfl, e⟩ | ⟨_, rfl, e⟩ | ⟨_, h1, h2, h3, e⟩
      · simp [hs] at h1
      · simp [hs] at h1
      · exact absurd h1 h
      · simp [e, halfAfter]
      · simp [e, halfAfter]
      · simp only [printerBytes_cons, printerBytes_nil, e, halfAfter, List.getLast?_singleton, Option.some.injEq, h2, h3,
          if_false]
        exact (withPrc_half_none hs).symm
    | cons b' bs =>
      simp only [completesNoMessage, Bool.and_eq_true, bne_iff_ne, ne_eq] at h
      have hb : byteRead s b = s := by
        rcases byteRead_cases s b with ⟨h1, _⟩ | ⟨h1, _⟩ | ⟨_, h1, _⟩ | ⟨_, h1, _⟩ | ⟨_, h1, _⟩ | ⟨_, _, _, _, e⟩
        · simp [hs] at h1
        · simp [hs] at h1
        · exact absurd h1 h.1.1.1
        · exact absurd h1 h.1.1.2
        · exact absurd h1 h.1.2
        · exact e
      rw [printerBytes_cons, hb, ih h.2 hs]
      simp [halfAfter]

/-- The bytes that complete a READY or a FAULT are its value taken in one event, where no message of the other kind is half
received. -/
theorem printerBytes_messageRest (head : PrinterHead) (value : Byte) (s : State) (h : s.prc.half = none ∨ s.prc.half = some head) :
    printerBytes (messageRest head value s) s =
      finish s
        (match head with
        | .ready => takeReady value (s.withPrc { s.prc with half := none })
        | .fault => takeFault value (s.withPrc { s.prc with half := none })) := by
  rcases h with h | h <;> cases head <;> simp [messageRest, byteRead, completesMessage, printerByte, h]

/-- The escapement takes its waiting requests in turn: one for where it stands starts nothing, the first other one starts its
move, and the rest wait on (R129). -/
theorem serveEscapement_cases (held : Option Nat) (ws : List (Nat × EscMove)) :
    (serveEscapement held ws = { held := held, flight := none, waiting := [] } ∧ ∀ w ∈ ws, held = some w.1) ∨
      ∃ as x why bs, ws = as ++ (x, why) :: bs ∧ (∀ w ∈ as, held = some w.1) ∧ held ≠ some x ∧
        serveEscapement held ws = { held := none, flight := some (x, why), waiting := bs } := by
  induction ws with
  | nil => exact Or.inl ⟨rfl, nofun⟩
  | cons w ws ih =>
    obtain ⟨x, why⟩ := w
    by_cases h : held = some x
    · rcases ih with ⟨e, ha⟩ | ⟨as, y, v, bs, e, ha, hy, eq⟩
      · refine Or.inl ⟨by simp only [serveEscapement, if_pos h, e], ?_⟩
        simpa [h] using ha
      · refine Or.inr ⟨(x, why) :: as, y, v, bs, by simp [e], ?_, hy, by simp only [serveEscapement, if_pos h, eq]⟩
        simpa [h] using ha
    · exact Or.inr ⟨[], x, why, ws, rfl, nofun, h, by simp [serveEscapement, h]⟩

/-- A survey cut short leaves the mounts of the strip positions not yet read UNVERIFIED, and all else. -/
theorem surveyCut_mounts (o : Optics) (v : Survey) (h : o.survey = some v) (m : Fin 8) :
    (surveyCut o).mount m =
      if 2 * v.pos.val ≤ m.val then { o.mount m with observed := none } else o.mount m := by
  unfold surveyCut Optics.mount
  simp only [h, Vector.get_eq_getElem, Vector.getElem_mapIdx]

/-- With no survey in progress nothing is cut short. -/
theorem surveyCut_none (o : Optics) (h : o.survey = none) : surveyCut o = o := by
  unfold surveyCut
  simp only [h]

/-- A survey cut short changes the observed codes alone. -/
theorem surveyCut_eq (o : Optics) : surveyCut o = { o with mounts := (surveyCut o).mounts } := by
  unfold surveyCut
  split <;> rfl

end Sys2Proof.Machine
end

