-- ==== Sys2Proof/Tests/Slice0.lean ====
section
/-! SUPPORT. Tests: the well-formedness checks each refuse an ill-formed command; the manual's worked examples; and for every
statement with hypotheses a state and operands that meet them, clause by clause. The expected values are the manual's. -/

open Sys2Proof Sys2Proof.Machine

namespace Sys2Proof.Tests

/-! ### Well-formedness: each check refuses an ill-formed command -/

/-- A text of `n` bytes. -/
def long (n : Nat) : Text := List.replicate n 0x41#8

theorem test_wf_gap_complete_frame : (Instr.gapTimerExpiry [0xA5#8, 0x43#8, 0#8, 0xBD#8]).wf = false := by decide
theorem test_wf_gap_partial_frame : (Instr.gapTimerExpiry [0xA5#8, 0x43#8, 1#8, 0x41#8]).wf = true := by decide
set_option maxRecDepth 4000 in
theorem test_wf_badFrame_too_long : (Instr.badFrame 0x43#8 (long 251) 0#8).wf = false := by decide
theorem test_wf_badFrame_good_frame : (Instr.badFrame 0x43#8 (ascii "CAPS") 0x92#8).wf = false := by decide
theorem test_wf_badFrame_other_kind : (Instr.badFrame 0x52#8 [] 0xAE#8).wf = true := by decide
theorem test_wf_unknown_is_keyword : (Instr.unknownKeyword (ascii "CAPS") []).wf = false := by decide
theorem test_wf_unknown_space : (Instr.unknownKeyword (ascii "A B") []).wf = false := by decide
set_option maxRecDepth 4000 in
theorem test_wf_unknown_too_long : (Instr.unknownKeyword (ascii "A") [long 249]).wf = false := by decide
set_option maxRecDepth 4000 in
theorem test_wf_text_too_long : (Instr.text (long 251)).wf = false := by decide
set_option maxRecDepth 4000 in
theorem test_wf_text_full : (Instr.text (long 250)).wf = true := by decide
theorem test_wf_params_space : (Instr.job [ascii "A B"]).wf = false := by decide
set_option maxRecDepth 4000 in
theorem test_wf_params_too_long : (Instr.clearFault [long 240]).wf = false := by decide
set_option maxRecDepth 4000 in
theorem test_wf_params_full : (Instr.clearFault [long 239]).wf = true := by decide
theorem test_wf_ready_with_printed : (Instr.printerReady ⟨1#8, [0x50#8]⟩).wf = false := by decide
theorem test_wf_fault_with_ready : (Instr.printerFault ⟨1#8, [0x52#8, 0x52#8]⟩).wf = false := by decide
theorem test_wf_ready_then_half : (Instr.printerReady ⟨0x50#8, [0x20#8, 0x52#8]⟩).wf = true := by decide
theorem test_wf_length_250 : (Instr.lengthByteAbove250 0x43#8 250#8).wf = false := by decide
theorem test_wf_length_251 : (Instr.lengthByteAbove250 0x43#8 251#8).wf = true := by decide

/-! ### The manual's worked examples -/

/-- The state an outcome leads to. -/
def outOf (o : Host.Outcome State Fault Refusal) : Option State :=
  match o with
  | .next s => some s
  | _ => none

/-- The newest reply after a command at `s`. -/
def replyOf (c : Instr) (s : State) : Option Text := (outOf (exec c s)).bind fun t => t.link.replies.getLast?.map Reply.text

/-- 1.4: a 22, i 12 at 6½ pt; m 36 and THIN at 10 pt. -/
theorem test_widths_example : width 22 13 = 60 ∧ width 12 13 = 33 ∧ width 36 20 = 150 ∧ width 12 20 = 50 := by decide
/-- R5: the reset glue at sizes 20, 13 and 16. -/
theorem test_glue_example : glueAt .reset 20 = { min := 33, opt := 50, max := 83 } ∧
    glueAt .reset 13 = { min := 22, opt := 33, max := 54 } ∧ glueAt .reset 16 = { min := 27, opt := 40, max := 67 } := by
  decide
/-- R9: the depth reports of the table. -/
theorem test_depth_example : depth 239 = ascii "0P11.19" ∧ depth 240 = ascii "1P0.0" ∧
    depth 3456000 = ascii "14400P0.0" ∧ depth (-2880) = ascii "-12P0.0" ∧ depth (-130) = ascii "-0P6.10" := by
  decide
/-- R10: positions of slots under a trim. -/
theorem test_slot_example : slotPosition 1 (-16) = 16 ∧ slotPosition 13 5 = 421 ∧ slotPosition 95 15 = 3055 ∧
    slotPosition 95 (-16) = 3024 := by decide
/-- 7.7: armed at count 2,900 for 421, and at 421 itself. -/
theorem test_countdown_example : countdownTo 421 2900 = 593 ∧ countdownTo 421 421 = 3072 := by decide
/-- 7.5: 180 at density 115, and at 150. -/
theorem test_energy_example : flashEnergy 180 115 = 207 ∧ flashEnergy 180 150 = 255 := by decide
/-- R130: 43 degrees under 30/40/50. -/
theorem test_band_example : bandOf 30 40 50 43 = 2 ∧ bandOf 30 40 50 51 = 3 ∧ bandOf 30 40 50 30 = 1 := by decide
/-- R112: 1 to 6, 6 to 1, 2 to 6. -/
theorem test_turret_example : driveFor .turret (some 1) 6 = .backward 3 ∧ driveFor .turret (some 6) 1 = .forward 3 ∧
    driveFor .turret (some 2) 6 = .forward 4 := by decide

/-- The lens table of 6.3's worked example. -/
def lensExample : Optics := { Optics.reset with lenses := #v[14, 16, 20, 24, 0, 17, 0, 16] }

/-- 6.3: sizes 16, 18, 22, 13 and 144 resolved. -/
theorem test_resolve_example :
    [16, 18, 22, 13, 144].map lensExample.resolve =
      [some ({ pos := 1, size := 16 }, false), some ({ pos := 5, size := 17 }, true),
       some ({ pos := 2, size := 20 }, true), some ({ pos := 0, size := 14 }, true),
       some ({ pos := 3, size := 24 }, true)] := by decide

/-- A line set of a measure and indents. -/
def lineSet (m l r : Nat) : LineSet := { LineSet.reset with measure := m, left := l, right := r }

/-- 2.9: indents against a narrowing measure. -/
theorem test_indents_example : (lineSet 2400 1500 900).agree = lineSet 2400 1500 660 ∧
    (lineSet 1200 480 480).agree = lineSet 1200 480 480 ∧ (lineSet 1200 600 480).agree = lineSet 1200 600 360 ∧
    (lineSet 240 600 360).agree = lineSet 240 0 0 := by decide

/-- A box of a width, with spaces before it. -/
def bx (w before : Nat) : Elem := { kind := .box 1 1 0, width := w, before := before, x := 0 }

/-- "The night press ran on time to-" of chapter 3. -/
def justified : List Elem :=
  [bx 117 0, bx 100 0, bx 88 0, bx 100 1, bx 50 0, bx 92 0, bx 100 0, bx 58 0, bx 100 1, bx 67 0, bx 88 0, bx 75 0,
   bx 75 0, bx 67 1, bx 92 0, bx 100 0, bx 100 1, bx 100 0, bx 58 1, bx 50 0, bx 150 0, bx 88 0, bx 58 1, bx 100 0,
   bx 58 0]

/-- The line's glue at size 20. -/
def glue20 : Glue := { min := 33, opt := 50, max := 83 }

/-- Chapter 3: the justified line's glue result and the x of its elements. -/
theorem test_justified_example :
    spacingOf .justify false glue20 0 2400 justified =
        { result := { n := 6, base := 44, r := 5, ls := 0 }, offset := 0, loose := false } ∧
      (placeFrom { n := 6, base := 44, r := 5, ls := 0 } 0 0 none justified).map Elem.x =
        [0, 117, 217, 350, 450, 500, 592, 692, 795, 895, 962, 1050, 1125, 1245, 1312, 1404, 1549, 1649, 1794, 1852,
         1902, 2052, 2184, 2242, 2342] := by decide
/-- Chapter 3: the same text at the ladder limit, with LSMAX 4 and with LSMAX 0. -/
theorem test_letterspaced_example :
    spacingOf .justify false glue20 4 2400 (justified.take 22) =
        { result := { n := 5, base := 84, r := 1, ls := 4 }, offset := 0, loose := true } ∧
      spacingOf .justify false glue20 0 2400 (justified.take 22) =
        { result := { n := 5, base := 97, r := 0, ls := 0 }, offset := 0, loose := true } := by decide
/-- Chapter 3: "ran on time" centred. -/
theorem test_centred_example :
    spacingOf .center false glue20 0 2400
        [bx 67 0, bx 92 0, bx 100 0, bx 100 1, bx 100 0, bx 58 1, bx 50 0, bx 150 0, bx 88 0] =
      { result := { n := 2, base := 50, r := 0, ls := 0 }, offset := 747, loose := false } := by decide

/-- An item of the word "tonight" with its width. -/
def item (c : Byte) (w : Nat) : WordItem :=
  .elem c (bx w 0) { face := 1, lens := some { pos := 0, size := 20 } }

/-- The word "tonight" of chapter 4. -/
def tonight : List WordItem :=
  [item 0x74#8 58, item 0x6F#8 100, item 0x6E#8 100, item 0x69#8 50, item 0x67#8 92, item 0x68#8 100, item 0x74#8 58]

/-- Mount 1 with the hyphen's width, and a lens of size 20. -/
def chapter4Optics : Optics :=
  ({ Optics.reset with lenses := #v[20, 0, 0, 0, 0, 0, 0, 0] }).setMount 1
    { Mount.reset with expected := 9, widths := (Vector.replicate 95 0).set 12 14 }

/-- The rows of the pair table that "tonight" meets. -/
def chapter4Pairs : Hyphenation :=
  { Hyphenation.reset with
    pairs := Vector.ofFn fun a => Vector.ofFn fun b =>
      if a.val = 19 ∧ b.val = 14 then 3 else if a.val = 14 ∧ b.val = 13 then 2
      else if (a.val = 13 ∧ b.val = 8) ∨ (a.val = 7 ∧ b.val = 19) then 1 else 0 }

/-- The open line that "tonight" does not fit. -/
def chapter4Line : OpenLine :=
  { elems := justified.take 22, set := lineSet 2400 0 0, ret := none, marks := [], glue := some glue20, flags := []
    number := 1, exp := .pending, proof := .pending }

set_option maxRecDepth 4000 in
/-- Chapter 4: qualities, fits, fit limit and own choice of "tonight", and the REFER notice under UW. -/
theorem test_tonight_example :
    let x := examine chapter4Optics chapter4Pairs .reset chapter4Line (some 20) tonight
    x.positions.map Position.q = [0, 2, 1, 0, 0, 0] ∧
      x.positions.map Position.fits = [true, true, false, false, false, false] ∧ x.fit = 2 ∧ x.own = 2 ∧
      x.notice { u := true, w := true, c := false } =
        ascii "REFER WORD=tonight LEN=7 Q=021000 FIT=2 OWN=2 CLASS=UW" := by decide

/-- The film transport at an accumulator value under a feed correction. -/
def feedExample (p : Nat) (e feed : Int) : Film := { Film.reset with p := p, e := e, feed := feed }

/-- 8.4: feed correction over several moves. -/
theorem test_feed_example :
    (feedExample 0 900000 250).stepping 240 = { steps := 240, forward := true, timeout := 130, newE := 960000 } ∧
      (feedExample 0 960000 250).stepping 240 = { steps := 241, forward := true, timeout := 130, newE := 20000 } ∧
      (feedExample 1000 (-700000) (-400)).stepping 0 =
        { steps := 999, forward := false, timeout := 224, newE := -100000 } := by decide

/-- 11.1: CAPS as it is sent. -/
theorem test_frame_example :
    frameBytes 0x43#8 (ascii "CAPS") = [0xA5#8, 0x43#8, 0x04#8, 0x43#8, 0x41#8, 0x50#8, 0x53#8, 0x92#8] := by decide
/-- R192: two flags raised before the notice begins stand in one notice, in table order. -/
theorem test_flag_notice :
    (TxFrame.flagNotice (((Link.reset .b9600 .power).raise .proof).raise .line).pendingNames).payload =
      ascii "FLAG LINE PROOF" := by decide
/-- R193: the example of FAULTS. -/
theorem test_faults_example :
    { Link.reset .b9600 .power with
      exposure := { first := some .flash, also := [.strip], line := 62 }
      proof := { first := some .silent, also := [.printer], line := 10 } : Link }.faultsReport =
      ascii "OK EXPOSURE=FLASH/STRIP/62 FILM=-/-/0 PROOF=SILENT/PRINTER/10" := by decide

/-- A record of 5.5's worked example. -/
def record1 : LineRecord :=
  { number := 1, exp := .done, proof := .inProgress, quad := .justify, measure := 2400, left := 0, right := 0
    move := .lead 240, marks := [], cutAfter := false, brk := .hyphen, glue := { n := 6, base := 44, r := 5, ls := 0 }
    flags := [], elems := justified, exposed := 25, misses := 0, band := some 1, galley := some 1, discard := false }

set_option maxRecDepth 4000 in
/-- 5.5: the reply to LINE 1. -/
theorem test_line_example : record1.summary =
    ascii ("OK LINE=1 QUAD=JUSTIFY MEAS=10P0.0 IND=0P0.0,0P0.0 MOVE=LEAD:1P0.0 MARKS=- CUT=N BREAK=HYPHEN " ++
      "GLUE=6,0P2.4,5,0P0.0 FLAGS=- ELEM=25 EXP=DONE PROOF=IN_PROGRESS MISS=0 BAND=1 GALLEY=1") := by decide

/-- 9.4: the justified line's proof row: 31 text cells, one row, the number and the break mark. -/
theorem test_proof_row_example :
    (textCells chapter4Optics justified).length = 31 ∧ rowCount chapter4Optics record1 = 1 ∧
      ((rowCellsOf chapter4Optics record1 1).take 7).map Cell.code = ascii "    1 H" := by decide

/-! ### Witnesses: for every statement with hypotheses, a state and operands that meet them

`witness_<Name>` stands for `Obligations.<Name>`; its parts follow the statement's clauses. A statement of many clauses has
further parts in `witness_<Name>_<part>`. -/

/-- `State.reset` with one block changed. -/
def rlink (f : Link → Link) : State := State.reset.withLink (f State.reset.link)
def rtxq (bytes : Text) (watch : Bool) : State := State.reset.withTxq { bytes := bytes, watch := watch }
def rcmp (f : Composer → Composer) : State := State.reset.withCmp (f State.reset.cmp)
def rhyu (f : Hyphenation → Hyphenation) : State := State.reset.withHyu (f State.reset.hyu)
def rsls (f : Store → Store) : State := State.reset.withSls (f State.reset.sls)
def ropc (f : Optics → Optics) : State := State.reset.withOpc (f State.reset.opc)
def rexc (f : Exposure → Exposure) : State := State.reset.withExc (f State.reset.exc)
def rftc (f : Film → Film) : State := State.reset.withFtc (f State.reset.ftc)
def rprc (f : Proof → Proof) : State := State.reset.withPrc (f State.reset.prc)

/-- A state whose link is as after a reset takes a record at once. -/
theorem ready {s : State} (h : s.link = State.reset.link) : LinkReady s := by
  unfold LinkReady
  rw [h]
  decide

/-- The link at the bound of the reply queue takes no record, one reply less and it does. -/
def okReply : Reply := { text := ascii "OK", ofReset := false }
theorem ready_bound : LinkReady (rlink fun l => { l with replies := List.replicate 3 okReply }) ∧
    ¬ LinkReady (rlink fun l => { l with replies := List.replicate 4 okReply }) := by unfold LinkReady; decide

/-! #### Queue, resets, link -/

theorem witness_FollowUpsKeepTablesAndSettings : Settled State.reset ∧
    Settled (ropc fun o => { o with drum := .atSpeed }) := by unfold Settled; decide

theorem witness_ResetActsWhenItsReplyIsSent : LinkReady State.reset ∧
    (rlink fun l => { l with tx := some (.reply { text := ascii "OK", ofReset := true }) }).link.tx =
      some (.reply { text := ascii "OK", ofReset := true }) := ⟨ready rfl, rfl⟩

/-- A link that holds a frame for reply room. -/
def heldFrame (refer : Option Text) (last : TxKind) : Link :=
  { State.reset.link with rx := .waiting .bad, replies := List.replicate 4 okReply, refer := refer, lastSent := last }
theorem witness_FrameEndFreesTheTransmitter :
    (State.reset.link.tx = some (.hello .power) ∧ TxFrame.ofReset (.hello .power) = false ∧
      (∀ r, State.reset.link.rx ≠ .waiting r)) ∧
    ((heldFrame none .notice).tx = some (.hello .power) ∧ (heldFrame none .notice).rx = .waiting .bad ∧
      ({ heldFrame none .notice with tx := none } : Link).pump.replies.length = 3 ∧
      (heldFrame none .notice).resetTaken = false) ∧
    ((heldFrame (some []) .reply).tx = some (.hello .power) ∧ (heldFrame (some []) .reply).rx = .waiting .bad ∧
      ({ heldFrame (some []) .reply with tx := none } : Link).pump.replies.length = 4) ∧
    (let free : Link := { State.reset.link with tx := none }
     free.tx = none ∧ free.replies = [] ∧ free.refer = none ∧ free.pendingNames = [] ∧
       ({ free with replies := [okReply], refer := some [] } : Link).lastSent = .notice ∧
       ({ free with replies := [okReply], refer := some [], lastSent := .reply } : Link).lastSent = .reply ∧
       (free.raise .line).refer = none ∧ (free.raise .line).pendingNames ≠ [] ∧ (free.raise .line).replies = []) :=
  ⟨⟨rfl, rfl, nofun⟩, by decide, by decide, by decide⟩

set_option maxRecDepth 4000 in
theorem witness_FramesAreReadBackFromTheirBytes :
    (∀ w ∈ [long 246], wordOk w = true) ∧ (Keyword.text .job ++ fields [long 246]).length = 250 ∧
      (long 250).length = 250 ∧ State.reset.link.rx = .hunting := by decide

theorem witness_MalformedFramesLeaveNoTrace :
    (LinkReady State.reset ∧ (Instr.badFrame 0x52#8 [] 0xAE#8).wf = true ∧
      (Instr.unknownKeyword (ascii "X") []).wf = true ∧
      recordOf (.caps [[]]) = some (.command .caps [[]]) ∧ (∃ w ∈ [([] : Text)], cleanWord w = false)) ∧
    (State.reset.link.rx.midFrame = false ∧ (Instr.gapTimerExpiry [0xA5#8, 0x43#8]).wf = true ∧ 250 < (251#8 : Byte).toNat ∧
      (Instr.lengthByteAbove250 0x43#8 251#8).wf = true ∧ ∃ t, exec (.lengthByteAbove250 0x43#8 251#8) State.reset = .next t) :=
  ⟨⟨ready rfl, by decide⟩, by decide, by decide, by decide, by decide, _, rfl⟩

theorem witness_FramesWaitForReplyRoom : recordOf (.caps []) = some (.command .caps []) ∧ LinkReady State.reset ∧
    (let s := rlink fun l => { l with replies := List.replicate 4 okReply }
     s.link.resetTaken = false ∧ s.link.rx.holdsFrame = false ∧ 4 ≤ s.link.replies.length) ∧
    (let s := rlink fun _ => heldFrame none .notice
     s.link.resetTaken = false ∧ s.link.rx.holdsFrame = true) ∧
    (rlink fun l => { l with resetTaken := true }).link.resetTaken = true := ⟨rfl, ready rfl, by decide⟩

theorem witness_RefusedCommandsChangeNothing :
    (commandBody .caps [ascii "X"] State.reset).2.take 2 = ascii "NO" ∧
      (commandBody .caps [] State.reset).2.take 2 = ascii "OK" := by decide

theorem witness_TuneSetsEveryPairOrNone : LinkReady State.reset ∧ parseTune [ascii "REST"] = none ∧
    [ascii "REST=61"].all cleanWord = true ∧
    parseTune [ascii "REST=61"] = some [(.rest, .num 61 false)] ∧ [(TuneKey.rest, TuneValue.num 61 false)].all tuneInRange = false ∧
    parseTune [ascii "REST=60", ascii "FEED=-1000", ascii "LOWFILM=600", ascii "PROOF=BEST"] =
      some [(.rest, .num 60 false), (.feed, .num (-1000) true), (.lowFilm, .num 600 false), (.proof, .mode .best)] ∧
    [(TuneKey.rest, TuneValue.num 60 false), (.feed, .num (-1000) true), (.lowFilm, .num 600 false),
      (.proof, .mode .best)].all tuneInRange = true := ⟨ready rfl, by decide⟩

theorem witness_ClearTakesFlagsDown : LinkReady State.reset ∧ [Flag.line, .pfault] ≠ [] ∧ [Flag.line, .pfault].Nodup ∧
    ¬ [ascii "LINE", ascii "LINE"].Nodup ∧ [ascii "LINE", ascii "ALL"] ≠ [ascii "ALL"] ∧
    ∃ w ∈ [ascii "LINE", ascii "ALL"], ∀ f : Flag, w ≠ f.name :=
  ⟨ready rfl, by decide, by decide, by decide, by decide, ascii "ALL", by decide, by intro f; cases f <;> decide⟩

/-- A state with the flag LINE set and its name pending, and a CLEAR waiting. -/
def flagged : State := (rlink fun l => l.raise .line).withPending [.clear [ascii "LINE"]]
theorem witness_FlagsLatchUntilCleared : Flag.line ∈ flagged.link.flags ∧ Flag.proof ∉ flagged.link.flags ∧
    PendingNamesSet flagged ∧ ∃ t, step flagged = .next t :=
  ⟨by decide, by decide, by unfold PendingNamesSet; decide, _, rfl⟩

theorem witness_ReportsChangeNothing : LinkReady State.reset ∧ Instr.status [ascii "X"] = .status (ascii "X" :: []) :=
  ⟨ready rfl, rfl⟩

theorem witness_FaultRecordsKeepTheFirstKind :
    State.reset.link.exposure.first = none ∧ State.reset.link.film.first = none ∧ State.reset.link.proof.first = none ∧
    (let s := rlink fun l => { l with
       exposure := { first := some .flash, also := [.strip], line := 62 }
       film := { first := some .jam, also := [], line := 1 }
       proof := { first := some .silent, also := [.printer], line := 10 } }
     s.link.exposure.first = some .flash ∧ s.link.exposure.also.Sublist ExposureKind.all ∧
       s.link.film.first = some .jam ∧ s.link.film.also.Sublist FilmKind.all ∧
       s.link.proof.first = some .silent ∧ s.link.proof.also.Sublist ProofKind.all) := by decide

/-- The Exposure Controller FAULTED at a stage, under a stop request. -/
def faultedAt (stage : Stage) (stopReq : Option HaltForm) : State :=
  rexc fun e => { e with st := .faulted, stage := stage, stopReq := stopReq, ptr := some 1 }
/-- The film transport FAULTED at position 0 by a failed operation, with line 1's move out. -/
def filmFaulted (failed : FailedStep) (cap : Nat) : State :=
  (rexc fun e => { e with ptr := some 1, moveOut := true, st := .held }).withFtc
    { State.reset.ftc with
      st := .faulted, failed := some failed, cap := cap, lowMatched := true, cut := some { target := cap, line := 0 } }
/-- A failed move of a line to a target. -/
def failedMove (target n : Nat) : LineMove :=
  { target := target, number := n, marks := [], noMark := false, clamped := false }
theorem witness_ClearFaultEmptiesItsRecord :
    (LinkReady State.reset ∧ State.reset.exc.st ≠ .faulted ∧ (∀ v, State.reset.opc.survey = some v → v.stage ≠ .failed)) ∧
    (let s := ropc fun o => { o with survey := some { pos := 3, stage := .failed } }
     LinkReady s ∧ s.exc.st ≠ .faulted ∧ s.opc.survey = some { pos := 3, stage := .failed } ∧
       s.opc.strip.flight = none ∧ s.opc.strip.held = none ∧ s.opc.strip.waiting = []) ∧
    (∀ stage stopReq, LinkReady (faultedAt stage stopReq) ∧ (faultedAt stage stopReq).exc.st = .faulted ∧
      (faultedAt stage stopReq).exc.ending = none ∧ (faultedAt stage stopReq).opc.survey = none) ∧
    ((faultedAt .prepare (some .hard)).exc.stopReq = some .hard ∧ (faultedAt .prepare none).exc.stopReq ≠ some .hard ∧
      (faultedAt .prepare (some .soft)).exc.stage ≠ .arm ∧ (faultedAt .arm none).exc.stage = .arm) ∧
    (State.reset.ftc.st ≠ .faulted ∧ (∀ op cap, LinkReady (filmFaulted op cap)) ∧
      (filmFaulted .cutter 17280).ftc.failed = some .cutter) ∧
    ((filmFaulted (.lineMove (failedMove 240 1)) 17280).exc.ptr = some (failedMove 240 1).number ∧
      (filmFaulted (.lineMove (failedMove 240 1)) 17280).exc.moveOut = true ∧
      (filmFaulted (.lineMove (failedMove 240 1)) 17280).ftc.p ≠ (failedMove 240 1).target ∧
      0 < ((filmFaulted (.lineMove (failedMove 240 1)) 17280).ftc.stepping (failedMove 240 1).target).steps ∧
      (filmFaulted (.lineMove (failedMove 0 1)) 17280).ftc.p = (failedMove 0 1).target ∧
      (filmFaulted (.lineMove (failedMove 240 2)) 17280).exc.ptr ≠ some (failedMove 240 2).number) ∧
    ((filmFaulted .margin 17280).ftc.cut = some { target := 17280, line := 0 } ∧
      (filmFaulted .margin 17280).ftc.p ≠ 17280 ∧ 0 < ((filmFaulted .margin 17280).ftc.stepping 17280).steps ∧
      (filmFaulted .margin 0).ftc.cut = some { target := 0, line := 0 } ∧ (filmFaulted .margin 0).ftc.p = 0 ∧
      (filmFaulted .margin 0).ftc.lowMatched = true) ∧
    (State.reset.prc.st = .idle ∧
      (let s := rprc fun p => { p with st := .faulted }
       LinkReady s ∧ s.prc.st = .faulted ∧ s.prc.port = none) ∧
      (let s := rprc fun p => { p with st := .waiting, ask := true }
       LinkReady s ∧ s.prc.st = .waiting ∧ s.prc.ask = true)) ∧
    [] ≠ [ascii "EXPOSURE"] ∧ [] ≠ [ascii "FILM"] ∧ [] ≠ [ascii "PROOF"] :=
  ⟨⟨ready rfl, by decide, nofun⟩, ⟨ready rfl, by decide⟩, fun _ _ => ⟨ready rfl, rfl, rfl, rfl⟩, by decide,
    ⟨by decide, fun _ _ => ready rfl, by decide⟩, by decide, by decide,
    ⟨by decide, ⟨ready rfl, by decide⟩, ready rfl, by decide⟩, by decide⟩

theorem witness_IdleFlagMarksTheOnset :
    idleHolds (finish (rcmp fun c => { c with st := .reading }) State.reset) = true ∧
      idleHolds (rcmp fun c => { c with st := .reading }) = false ∧
      Flag.idle ∈ (finish (rcmp fun c => { c with st := .reading }) State.reset).link.flags ∧
      (let s := rcmp fun c => { c with st := .aborting }
       aborting s = true ∧ aborting (finish s s) = false) := by decide

/-! #### Text stream and composer -/

theorem long_length (n : Nat) : (long n).length = n := List.length_replicate

theorem bytes_long (n : Nat) (w : Bool) : (rtxq (long n) w).txq.bytes.length = n := long_length n
theorem witness_TextIsTakenWholeOrRefused : LinkReady State.reset ∧
    (rcmp fun c => { c with st := .aborting }).cmp.st = .aborting ∧ State.reset.cmp.st ≠ .aborting ∧
    LinkReady (rtxq (long 4095) false) ∧ (long 1).length ≤ 4096 - (rtxq (long 4095) false).txq.bytes.length ∧
    4096 - (rtxq (long 4095) false).txq.bytes.length < (long 2).length := by
  refine ⟨ready rfl, rfl, by decide, ready rfl, ?_, ?_⟩ <;> first | (rw [bytes_long, long_length]; done) | (rw [bytes_long, long_length]; decide)

/-- A reading composer with bytes in its queue and part of a code. -/
def readingAt (bytes : Text) (part : Option (Byte × Text)) : State :=
  (rtxq bytes true).withCmp { State.reset.cmp with st := .reading, partCode := part }
theorem witness_CodesAreReadWithTheirParameters :
    (let s := readingAt [0x06#8, 1#8, 2#8, 3#8, 4#8] none
     s.cmp.st = .reading ∧ s.cmp.task = none ∧ s.cmp.partCode = none ∧ s.txq.bytes = 0x06#8 :: [1#8, 2#8, 3#8, 4#8] ∧
       paramCount 0x06#8 = [1#8, 2#8, 3#8, 4#8].length ∧ [1#8, 2#8, 3#8].length < paramCount 0x06#8) ∧
    (let s := readingAt [9#8] (some (0x06#8, [1#8, 2#8, 3#8]))
     s.cmp.partCode = some (0x06#8, [1#8, 2#8, 3#8]) ∧ s.txq.bytes ≠ [] ∧ [1#8, 2#8, 3#8].length + 1 = paramCount 0x06#8 ∧
       1 ≤ s.txq.bytes.length) ∧
    (let s := readingAt [9#8, 8#8] (some (0x06#8, [1#8]))
     s.cmp.partCode = some (0x06#8, [1#8]) ∧ s.txq.bytes ≠ [] ∧ [1#8].length + 3 = paramCount 0x06#8 ∧
       s.txq.bytes.length < 3) ∧
    (State.reset.cmp.st ≠ .reading ∧ (readingAt [] none).txq.bytes = []) ∧
    (rtxq [] true).txq.watch = true ∧ (long 2048).length ≤ 2048 ∧ (rtxq [] false).txq.watch = false ∧
    2048 < (long 2049).length :=
  ⟨by decide, by decide, by decide, by decide, by decide, by rw [long_length], by decide,
    by rw [long_length]; decide⟩

theorem witness_WidthsRoundToTheNearestSetStep : 96 ≤ 96 ∧ 144 ≤ 144 ∧ Job.reset.wsMin ≤ Job.reset.wsOpt ∧
    Job.reset.wsOpt ≤ Job.reset.wsMax := by decide

/-- Mount 0 defined with the widths of its slots, and a lens of size 20 selected. -/
def setUp : State :=
  (ropc fun o => ({ o with lenses := #v[20, 0, 0, 0, 0, 0, 0, 0] }).setMount 0
    { Mount.reset with expected := 255, widths := (Vector.replicate 95 0).set 94 96 }).withCmp
      { State.reset.cmp with lens := some { pos := 0, size := 20 } }
/-- The composer on an open line that holds these elements. -/
def onLine (elems : List Elem) : State := rcmp fun c => { c with line := some { chapter4Line with elems := elems } }
theorem witness_TextCodesTakeEffect :
    (0x21 ≤ (0x21#8 : Byte).toNat ∧ (0x7F#8 : Byte).toNat ≤ 0x7F ∧ 0x13 ≤ (0x13#8 : Byte).toNat ∧
      (0x1F#8 : Byte).toNat ≤ 0x1F ∧ 0x80 ≤ (0x80#8 : Byte).toNat ∧ (7#8 : Byte).toNat = (7 : Fin 8).val ∧
      (3#8 : Byte).toNat = (3 : Fin 4).val ∧ 8 ≤ (8#8 : Byte).toNat ∧ 4 ≤ (4#8 : Byte).toNat) ∧
    ((readCode 0x21#8 []).counted = true ∧ 48 ≤ (rcmp fun c => { c with word := { c.word with count := 48 } }).cmp.word.count ∧
      State.reset.cmp.word.count < 48 ∧ readCode 0x00#8 [] = .fill) ∧
    (State.reset.opc.resolve 20 = none ∧ setUp.opc.resolve 20 = some ({ pos := 0, size := 20 }, false) ∧
      setUp.opc.resolve 21 = some ({ pos := 0, size := 20 }, true)) ∧
    (onLine []).cmp.line = some { chapter4Line with elems := [] } ∧
    (State.reset.opc.mount State.reset.cmp.face).state = .empty ∧
    (setUp.cmp.lens = some { pos := 0, size := 20 } ∧ setUp.opc.lensSize 0 = 20 ∧
      (setUp.opc.mount setUp.cmp.face).state ≠ .empty ∧ (setUp.opc.mount setUp.cmp.face).widthOf 1 = 0 ∧
      (setUp.opc.mount setUp.cmp.face).widthOf 95 ≠ 0) ∧
    (let s := State.reset.withOpc setUp.opc
     (¬ ∃ l, s.cmp.lens = some l ∧ s.opc.lensSize l.pos = l.size) ∧ s.opc.resolve s.cmp.size = some ({ pos := 0, size := 20 }, false)) ∧
    (let s := State.reset.withOpc (Optics.reset.setMount 0 { Mount.reset with expected := 255 })
     (¬ ∃ l, s.cmp.lens = some l ∧ s.opc.lensSize l.pos = l.size) ∧ s.opc.resolve s.cmp.size = none ∧
       (s.opc.mount s.cmp.face).state ≠ .empty) :=
  ⟨by decide, by decide, by decide, by decide, by decide, by decide, ⟨nofun, by decide⟩, nofun, by decide, by decide⟩

/-- `State.reset` with one command waiting. -/
def withCommand (c : Instr) (s : State) : State := s.withPending [c]
/-- A step at a waiting code read completes. -/
theorem step_completes (s : State) : ∃ t, step (withCommand .textCodeRead s) = .next t := ⟨_, rfl⟩

theorem witness_IndentsAgreeWithTheMeasure :
    let s := withCommand .textCodeRead (State.reset.withCmp { State.reset.cmp with following := lineSet 240 0 0 })
    LineSetsInRange s ∧ ∃ t, step s = .next t :=
  ⟨⟨by unfold LineSet.InRange; decide, nofun⟩, step_completes _⟩

/-- No class of referral enabled. -/
def noClasses : ReferClasses := { u := false, w := false, c := false }
/-- The word "tonight" complete behind a held space, on the line of chapter 4 with another measure. -/
def fitting (measure : Nat) (hyph : Bool) (refer : ReferClasses) : State :=
  (((State.reset.withCmp { State.reset.cmp with
    line := some { chapter4Line with set := lineSet measure 0 0 }, held := some 20
    word := { items := tonight, count := 7, atSplit := false }
    job := { Job.reset with hyph := hyph, refer := refer } }).withHyu chapter4Pairs).withOpc chapter4Optics)
/-- The line and the part that "tonight" would make of it. -/
def fittedElems : List Elem := chapter4Line.elems ++ placeItems true 1 tonight
/-- A line of 199 elements without width. -/
def line199 : List Elem := List.replicate 199 (bx 0 0)
/-- A store whose elements fill the pool but for six. -/
def sixFree : State :=
  (fitting 3000 true noClasses).withSls
    { Store.reset with records := [{ record1 with elems := List.replicate (2048 - 28) (bx 0 0) }] }
set_option maxRecDepth 8000 in
theorem witness_CompleteWordsArePlacedOrReferred :
    (let s := fitting 2671 true noClasses
     s.cmp.line = some { chapter4Line with set := lineSet 2671 0 0 } ∧ itemElems s.cmp.word.items ≠ [] ∧
       placeItems (!chapter4Line.elems.isEmpty) (if s.cmp.held.isSome then 1 else 0) s.cmp.word.items =
         placeItems true 1 tonight ∧
       widthSum fittedElems + spaceCount fittedElems * glue20.min = 2671 ∧ fittedElems.length ≤ 200) ∧
    (¬ 2671 ≤ (lineSet 2670 0 0).available ∧ chapter4Line.elems.length < 200 ∧
      (fitting 2670 false noClasses).cmp.attempt = false ∧ (fitting 2670 true noClasses).cmp.attempt = true) ∧
    ((line199 ++ [bx 0 0]).length ≤ 200 ∧ ¬ (line199 ++ [bx 0 0, bx 0 0]).length ≤ 200 ∧ line199.length < 200) ∧
    (hyphenWanting chapter4Optics tonight = false ∧
      (let x := examine chapter4Optics chapter4Pairs .reset
         { chapter4Line with set := lineSet 2400 0 0 } (some 20) tonight
       2 ≤ x.len ∧ 1 ≤ x.fit ∧ (x.classes.meet { u := true, w := false, c := false }).u = true ∧
         x.classes.meet noClasses = noClasses)) ∧
    (itemElems tonight).length ≤ freePool (fitting 2671 true noClasses) ∧ freePool sixFree < (itemElems tonight).length ∧
    (let s := (fitting 2670 true noClasses).withOpc Optics.reset
     s.cmp.line = some { chapter4Line with set := lineSet 2670 0 0 } ∧ itemElems s.cmp.word.items ≠ [] ∧
       OpenLine.fits s.cmp.job { chapter4Line with set := lineSet 2670 0 0 } s.cmp.held s.cmp.word.items none = false ∧
       chapter4Line.elems.length < 200 ∧ s.cmp.attempt = true ∧ hyphenWanting s.opc s.cmp.word.items = true) ∧
    (itemElems (onLine [bx 67 0]).cmp.word.items = [] ∧ (onLine [bx 67 0]).cmp.line ≠ none) ∧
    ((onLine [bx 67 0]).cmp.line = some { chapter4Line with elems := [bx 67 0] } ∧ [bx 67 0] ≠ [] ∧
      ∀ l, (onLine []).cmp.line = some l → l.elems = []) ∧
    State.reset.cmp.line.isSome = false ∧ (openLine State.reset).cmp.line.isSome = true ∧
    (onLine []).cmp.line.isSome = true := by
  refine ⟨by decide, by decide, by decide, by decide, by decide, ?_, by decide, by decide, ⟨rfl, by decide, ?_⟩, by decide⟩
  · decide
  · intro l h
    injection h with h
    subst h
    rfl

/-- A fixed space. -/
def enSpace : Elem := { kind := .en, width := 100, before := 0, x := 0 }
/-- A word of a fixed space wider than a pica and a box behind it. -/
def wideWord : List WordItem :=
  [.elem 0x08#8 { kind := .em, width := 480, before := 0, x := 0 } { face := 1, lens := some { pos := 0, size := 48 } },
   item 0x74#8 58, item 0x6F#8 100]
/-- A word complete on an empty line of one pica, of a worked example of chapter 3. -/
def onePica (word : List WordItem) : State :=
  rcmp fun c => { c with
    line := some { chapter4Line with elems := [], set := lineSet 240 0 0, glue := none }
    word := { items := word, count := word.length, atSplit := false } }
/-- A store whose elements leave this many of the pool free. -/
def poolLeft (n : Nat) (s : State) : State :=
  s.withSls { Store.reset with records := [{ record1 with elems := List.replicate (2048 - n) (bx 0 0) }] }
/-- A word of a fixed space of 1,440 and a box of 2,880 at size 144. -/
def widestWord : List WordItem :=
  [.elem 0x08#8 { kind := .em, width := 1440, before := 0, x := 0 } { face := 1, lens := some { pos := 0, size := 144 } },
   item 0x74#8 2880]
/-- An open line of one pica at the right end of the widest measure. -/
def lastPica (elems : List Elem) : OpenLine :=
  { chapter4Line with elems := elems, set := lineSet 17280 17040 0, glue := none }
/-- R6, R47: the run is not extended to a box that would stand at x 18,480; a first box is placed whole; and where the line is
filled by fixed spaces to 17,280, no element is taken. -/
theorem test_overset_within_bounds :
    oversetRun (lastPica []) (itemElems widestWord) = 1 ∧ oversetRun (lastPica []) [bx 2880 0] = 1 ∧
      oversetRun (lastPica [{ enSpace with width := 240 }]) [bx 2880 0] = 0 ∧
      oversetRun (lastPica [{ enSpace with width := 239 }]) [bx 2880 0] = 0 ∧
      oversetRun (lastPica [{ enSpace with width := 100 }]) [bx 2780 0] = 1 := by decide
theorem witness_LinesCloseAsTheirBreakHasIt_bounds :
    let l := lastPica []
    let es := itemElems widestWord
    es ≠ [] ∧ l.elems.length < 200 ∧
      (0 ≤ es.length ∧ 0 ≤ 200 - l.elems.length ∧
        widthSum l.elems + widthSum (es.take 0) ≤ l.set.measure - l.set.left - l.set.right) ∧
      (∀ k' : Fin 3, widthSum l.elems + widthSum (es.take k'.val) ≤ l.set.measure - l.set.left - l.set.right → k'.val ≤ 0) ∧
      (es[1]? = some (bx 2880 0) ∧ (bx 2880 0).isBox = true ∧ (∀ e' ∈ es.take 1, e'.isBox = false) ∧
        2 = min (200 - l.elems.length) (1 + 1)) ∧
      (∀ i : Fin 1, ∀ e, es[i.val]? = some e → l.set.left + widthSum (es.take i.val) ≤ 17279 ∧
        l.set.left + widthSum (es.take i.val) + e.width ≤ 19920) ∧
      ¬ l.set.left + widthSum (es.take 1) ≤ 17279 ∧ 1 = max (if l.elems = [] then max 0 1 else 0) (min 1 2) ∧
      l.set.measure ≤ 17280 ∧ 240 ≤ l.set.measure ∧ l.set.left + l.set.right ≤ l.set.measure - 240 ∧
      (∀ e ∈ l.elems ++ es, 0 < e.width ∧ e.width ≤ 2880) ∧
      0 = max (if (lastPica [enSpace]).elems = [] then max 0 1 else 0) (min 0 1) := by
  refine ⟨by decide, by decide, by decide, by decide, by decide, ?_, by decide, by decide, by decide, by decide, by decide,
    by decide, by decide⟩
  intro i e h
  match i with
  | 0 => injection h with h; subst h; decide
set_option maxRecDepth 20000 in
theorem witness_LinesCloseAsTheirBreakHasIt :
    (widthSum justified + spaceCount justified * glue20.min = 2329 ∧ 1 ≤ spaceCount justified ∧
      widthSum [bx 67 0] + spaceCount [bx 67 0] * glue20.min ≤ 67) ∧
    (spaceCount [bx 67 0] = 0 ∧ 0 < spaceCount justified ∧ (2400 - widthSum justified) / 6 + 1 ≤ glue20.max ∧
      gapCount [bx 67 0, bx 67 1] = 0 ∧ 0 < gapCount (justified.take 22) ∧
      glue20.max < (2400 - widthSum (justified.take 22)) / 5 ∧ Quad.left ≠ .justify ∧
      widthSum justified + spaceCount justified * glue20.opt ≤ 2431 ∧ 2430 < widthSum justified + spaceCount justified * glue20.opt) ∧
    ((lineSet 17280 17040 0).measure ≤ 17280 ∧ 240 ≤ (lineSet 17280 17040 0).measure ∧
      (lineSet 17280 17040 0).left + (lineSet 17280 17040 0).right ≤ (lineSet 17280 17040 0).measure - 240 ∧
      BreakKind.word ≠ .overset ∧ widthSum [bx 240 0] + spaceCount [bx 240 0] * 0 ≤ (lineSet 17280 17040 0).available ∧
      (bx 2880 0).width ≤ 2880) ∧
    ((∃ e ∈ chapter4Line.elems, e.isBox = true) ∧ (∀ e ∈ [enSpace], e.isBox = false) ∧
      200 ≤ (List.replicate 200 (bx 0 0)).length ∧
      OpenLine.fits .reset { chapter4Line with elems := List.replicate 200 (bx 0 0) } none [item 0x74#8 58] none = false) ∧
    ((itemElems (tonight.take 2)).length + 1 ≤ freePool (onePica tonight) ∧
      freePool (poolLeft 2 (onePica tonight)) < (itemElems (tonight.take 2)).length + 1) ∧
    (24 ≤ (List.replicate 24 record1).length ∧ State.reset.sls.records.length < 24 ∧
      itemElems State.reset.cmp.word.items = [] ∧ itemElems (onePica tonight).cmp.word.items ≠ []) := by decide

set_option maxRecDepth 20000 in
/-- The runs of two overset words: two letters that fit the pica, and a fixed space that does not with the box behind it. -/
theorem witness_LinesCloseAsTheirBreakHasIt_overset :
    (let es := itemElems (onePica tonight).cmp.word.items
     es ≠ [] ∧ widthSum (es.take 2) ≤ 240 ∧ (∀ k ≤ 7, widthSum (es.take k) ≤ 240 → k ≤ 2) ∧ es.length = 7 ∧
       (∃ e ∈ es.take 2, e.isBox = true) ∧
       tonight = [item 0x74#8 58] ++ item 0x6F#8 100 :: tonight.drop 2 ∧
       (itemElems ([item 0x74#8 58] ++ [item 0x6F#8 100])).length = 2 ∧ (itemElems [item 0x6F#8 100]).length = 1 ∧
       2 ≤ freePool (onePica tonight) ∧ freePool (poolLeft 1 (onePica tonight)) < 2) ∧
    (let es := itemElems (onePica wideWord).cmp.word.items
     widthSum (es.take 0) ≤ 240 ∧ (∀ k ≤ 3, widthSum (es.take k) ≤ 240 → k ≤ 0) ∧ es.length = 3 ∧
       (es[1]?.any Elem.isBox) = true ∧ (∀ e ∈ es.take 1, e.isBox = false) ∧ 2 = min (200 - 0) (1 + 1)) := by decide

theorem witness_JobWaitsForTheNextLine : LinkReady State.reset ∧ parseJob [] = none ∧
    [ascii "WSMIN=97"].all cleanWord = true ∧ parseJob [ascii "WSMIN=97"] = some [(.wsMin, .num 97)] ∧
    [(JobKey.wsMin, JobValue.num 97)].all jobInRange = false ∧
    [ascii "WSMIN=12", ascii "MODE=FILM"].all cleanWord = true ∧
    parseJob [ascii "WSMIN=12", ascii "MODE=FILM"] = some [(.wsMin, .num 12), (.mode, .mode .film)] ∧
    [(JobKey.wsMin, JobValue.num 12), (.mode, .mode .film)].all jobInRange = true ∧
    (State.reset.cmp.job.apply (State.reset.cmp.pend.enterAll [(.wsMin, .num 12), (.mode, .mode .film)])).glueOk = true :=
  ⟨ready rfl, by decide⟩

theorem witness_GlueStaysInOrder : LinkReady State.reset ∧ [ascii "WSMIN=13"].all cleanWord = true ∧
    parseJob [ascii "WSMIN=13"] = some [(.wsMin, .num 13)] ∧
    ([(JobKey.wsMin, JobValue.num 13)].any fun p => p.1.isGlue) = true ∧
    (let merged := State.reset.cmp.job.apply (State.reset.cmp.pend.enterAll [(.wsMin, .num 13)])
     ¬ (merged.wsMin ≤ merged.wsOpt ∧ merged.wsOpt ≤ merged.wsMax)) ∧
    keyTwice [(JobKey.wsMin, JobValue.num 13)] = false ∧
    GlueInOrder (withCommand .textCodeRead State.reset) ∧ ∃ t, step (withCommand .textCodeRead State.reset) = .next t := by
  refine ⟨ready rfl, by decide, by decide, by decide, by decide, by decide, ?_, step_completes _⟩
  unfold GlueInOrder
  decide

/-- Three hyphenated lines in a row, at the limit of three. -/
def ladderFull : State := withCommand .textCodeRead (rcmp fun c => { c with ladder := 3 })
theorem witness_LadderStaysWithinItsLimit : LadderKept ladderFull ∧ ∃ t, step ladderFull = .next t := by
  refine ⟨⟨by decide, by decide, ?_⟩, step_completes _⟩
  intro t h
  exact nomatch h


/-! #### Hyphenation -/

/-- The words of a PAIRS row whose values are all one digit. -/
def pairWords (d : String) (n : Nat) : List Text := List.replicate n (ascii d)
theorem witness_PairsLoadsOneRow : LinkReady State.reset ∧ (pairWords "3" 26).all cleanWord = true ∧
    letterClass 0x41#8 = some 0 ∧ letterClass 0x7A#8 = some 25 ∧
    parseNumbers (pairWords "3" 26) = some (List.replicate 26 3) ∧ (pairWords "3" 26).length = 26 ∧
    (∀ v ∈ List.replicate 26 (3 : Int), 0 ≤ v ∧ v ≤ 3) ∧
    parseNumbers (pairWords "4" 26) = some (List.replicate 26 4) ∧ (∃ v ∈ List.replicate 26 (4 : Int), v < 0 ∨ 3 < v) ∧
    (pairWords "3" 26).length ≠ 27 ∧
    (∀ b ws, [0x31#8] :: pairWords "3" 26 = [b] :: ws → letterClass b = none) ∧
    (∃ w ∈ (ascii "A" :: pairWords "X" 26).tail, parseNumber w = none) := by
  refine ⟨ready rfl, by decide, by decide, by decide, by decide, by decide, by decide, by decide, by decide, by decide, ?_,
    by decide⟩
  intro b ws h
  injection h with h1 _
  injection h1 with h2 _
  subst h2
  decide

/-- A dictionary of many copies of one entry: the full buffers by number and by letters. -/
def dictOf (n len : Nat) : State :=
  rhyu fun h => { h with dict := List.replicate n { word := List.replicate len 2, positions := [] } }
set_option maxRecDepth 8000 in
theorem witness_DictionaryCommandsWriteOneEntry : LinkReady State.reset ∧
    [ascii "AB", ascii "1"].all cleanWord = true ∧ parseWord (ascii "AB") = some [0, 1] ∧ parseNumbers [ascii "1"] = some [1] ∧
    (2 ≤ ([0, 1] : List (Fin 26)).length ∧ [(1 : Int)].Pairwise (· < ·) ∧
      ∀ p ∈ [(1 : Int)], 1 ≤ p ∧ p < ([0, 1] : List (Fin 26)).length) ∧
    parseNumbers [ascii "2"] = some [2] ∧ ¬ (∀ p ∈ [(2 : Int)], 1 ≤ p ∧ p < ([0, 1] : List (Fin 26)).length) ∧
    (LinkReady (dictOf 256 3) ∧ (¬ ∃ e ∈ (dictOf 256 3).hyu.dict, e.word = [0, 1]) ∧ 256 ≤ (dictOf 256 3).hyu.dict.length) ∧
    (LinkReady (dictOf 128 24) ∧ (¬ ∃ e ∈ (dictOf 128 24).hyu.dict, e.word = [0, 1]) ∧
      3072 < (dictOf 128 24).hyu.lettersUsed + ([0, 1] : List (Fin 26)).length) ∧
    ((dictOf 255 3).hyu.dict.length < 256 ∧
      (dictOf 255 3).hyu.lettersUsed + ([0, 1] : List (Fin 26)).length ≤ 3072) ∧
    (∃ e ∈ (dictOf 256 3).hyu.dict, e.word = [2, 2, 2]) ∧ cleanWord (ascii "AB") = true ∧
    (∀ e ∈ State.reset.hyu.dict, e.word ≠ [0, 1]) := by
  refine ⟨ready rfl, by decide, by decide, by decide, by decide, by decide, by decide, ⟨ready rfl, by decide, by decide⟩,
    ⟨ready rfl, by decide, by decide⟩, by decide, by decide, by decide, by decide⟩

theorem witness_DictionaryCommandsWriteOneEntry_refusals : LinkReady State.reset ∧
    ((dictOf 1 3).hyu.dict.map DictEntry.word).Pairwise (fun a b => wordBefore a b = true) ∧
    (∃ f ∈ (dictOf 1 3).hyu.dict, f.word = [2, 2, 2]) ∧
    (∀ w ws, ([] : List Text) = w :: ws → parseWord w = none ∨ parseNumbers ws = none) ∧
    parseNumbers [ascii "x"] = none ∧ parseWord (ascii "A1") = none ∧ (∀ w, ([] : List Text) = [w] → parseWord w = none) ∧
    cleanWord (ascii "A") = true ∧ parseWord (ascii "A") = some [0] ∧ ([0] : List (Fin 26)).length < 2 ∧
    parseWord (long 25) = some (List.replicate 25 0) ∧ 24 < (List.replicate 25 (0 : Fin 26)).length := by
  refine ⟨ready rfl, by decide, by decide, nofun, by decide, by decide, nofun, by decide, by decide, by decide, by decide,
    by decide⟩

theorem witness_EntryAndLineReadsChangeNothing : LinkReady (dictOf 1 2) ∧ cleanWord (ascii "cc") = true ∧
    parseWord (ascii "cc") = some [2, 2] ∧ (dictOf 1 2).hyu.lookup [2, 2] = some { word := [2, 2], positions := [] } ∧
    State.reset.hyu.lookup [2, 2] = none ∧ parseNumber (ascii "255") = some ((255 : Nat) : Int) ∧
    parseNumber (ascii "256") = some ((256 : Nat) : Int) ∧
    (let s := rsls fun st => { st with records := [record1] }
     LinkReady s ∧ parseNumber (ascii "1") = some 1 ∧ s.sls.find (1 : Int).toNat = some record1 ∧
       parseNumber (ascii "65535") = some 65535 ∧ ∀ r ∈ s.sls.records, (r.number : Int) ≠ 65535) ∧
    parseNumber (ascii "0") = some 0 ∧ parseNumber (ascii "65536") = some 65536 ∧
    (∀ w, ([] : List Text) = [w] → parseNumber w = none) :=
  ⟨ready rfl, by decide, by decide, by decide, by decide, by decide, by decide, ⟨ready rfl, by decide⟩, by decide, by decide,
    nofun⟩

theorem witness_DictionaryStaysOrderedAndBounded :
    (withCommand .textCodeRead (dictOf 1 2)).hyu.DictKept ∧ ∃ t, step (withCommand .textCodeRead (dictOf 1 2)) = .next t := by
  refine ⟨?_, step_completes _⟩
  unfold Hyphenation.DictKept DictEntry.WellMade
  decide

/-- A referral on "tonight" with a position that fits and one that does not. -/
def referral1 : Referral :=
  { letters := ascii "tonight", len := 7, fit := 1, own := 1, classes := { u := true, w := false, c := false }
    positions := [{ k := 1, q := 2, fits := true, hard := false, brk := { cut := 1, next := 1, hyph := none } },
                  { k := 6, q := 0, fits := false, hard := false, brk := { cut := 6, next := 6, hyph := none } }] }
/-- The composer waits for the decision. -/
def referring : State :=
  (rhyu fun h => { h with referral := some referral1, timer := some 50 }).withCmp
    { State.reset.cmp with st := .referring, task := some (.decision (.space 20)) }
theorem witness_DecideOrLapseEndsTheReferral : LinkReady referring ∧
    parseNumber (ascii "0") = some 0 ∧ parseNumber (ascii "1") = some 1 ∧ parseNumber (ascii "6") = some 6 ∧
    parseNumber (ascii "-1") = some (-1) ∧ cleanWord (ascii "-1") = true ∧
    referring.hyu.referral = some referral1 ∧ referring.cmp.task = some (.decision (.space 20)) ∧
    ((referral1.breakAt (1 : Int).toNat).any fun p => p.fits) = true ∧
    (∀ p, referral1.breakAt (6 : Int).toNat = some p → p.fits = false) ∧
    State.reset.hyu.referral = none ∧ (∀ w, ([] : List Text) = [w] → parseNumber w = none) ∧
    referring.hyu.timer = some 50 ∧ State.reset.hyu.timer = none := by
  refine ⟨ready rfl, by decide, by decide, by decide, by decide, by decide, by decide, by decide, by decide, ?_, rfl, nofun,
    rfl, rfl⟩
  intro p h
  injection h with h
  subst h
  rfl

/-- What is in effect in the words below. -/
def env20 : Env := { face := 1, lens := some { pos := 0, size := 20 } }
theorem witness_ExaminationsFindCandidatesAndClasses :
    (tonight = [] ++ item 0x74#8 58 :: [] ++ item 0x6F#8 100 :: tonight.drop 2 ∧ letterClass 0x74#8 = some 19 ∧
      letterClass 0x6F#8 = some 14 ∧ (∀ i ∈ tonight, (lettersFrom 0 [i]).length = 1) ∧ 2 ≤ tonight.length ∧
      chapter4Pairs.lookup [19, 14, 13, 8, 6, 7, 19] = none ∧
      ({ chapter4Pairs with dict := [{ word := [19, 14, 13, 8, 6, 7, 19], positions := [2] }] } : Hyphenation).lookup
        [19, 14, 13, 8, 6, 7, 19] = some { word := [19, 14, 13, 8, 6, 7, 19], positions := [2] }) ∧
    (let x := examine chapter4Optics chapter4Pairs .reset chapter4Line none
       [item 0x74#8 58, .soft env20, .soft env20, item 0x6F#8 100]
     x.positions.map Position.q = [3] ∧ x.positions.map (fun p => p.brk.cut) = [2] ∧ x.classes.u = true) ∧
    (let x := examine chapter4Optics chapter4Pairs .reset chapter4Line none [item 0x4F#8 100, item 0x2D#8 58, item 0x62#8 100]
     x.positions.map Position.q = [3] ∧ x.positions.map Position.hard = [true] ∧ x.classes.u = false ∧ x.classes.c = true) := by
  decide

/-! #### Line store -/

theorem witness_AbortStartsOrUpgrades : LinkReady State.reset ∧ State.reset.cmp.st ≠ .aborting ∧
    ((rexc fun e => { e with ptr := some 1 }).exc.ptr ≠ none ∧ (rexc fun e => { e with cutWait := true }).exc.cutWait = true) ∧
    (let s := rexc fun e => { e with st := .stopped }
     LinkReady s ∧ s.exc.ptr = none ∧ s.exc.cutWait = false ∧ s.exc.st = .stopped) ∧
    (State.reset.exc.ptr = none ∧ State.reset.exc.cutWait = false ∧ State.reset.exc.st ≠ .stopped) ∧
    (rcmp fun c => { c with st := .aborting }).cmp.st = .aborting ∧
    [] ≠ [ascii "SOFT"] ∧ [] ≠ [ascii "HARD"] := ⟨ready rfl, by decide, by decide, ⟨ready rfl, by decide⟩, by decide⟩

theorem witness_AbortWithNothingInHandCompletesAtOnce :
    let s := rsls fun st => { st with records := List.replicate 24 { record1 with proof := .pending } }
    LinkReady s ∧ s.cmp.st ≠ .aborting ∧ s.exc.ptr = none ∧ s.exc.cutWait = false ∧ s.prc.out = [] ∧
      s.sls.records.length ≤ 24 := ⟨ready rfl, by decide⟩

/-! #### Optics and drum -/

/-- A store whose one record has boxes of mount 1 through lens 0; mount 1 is defined. -/
def referenced : State :=
  (rsls fun st => { st with records := [record1] }).withOpc
    (({ Optics.reset with lenses := #v[20, 0, 0, 0, 0, 0, 0, 0] }).setMount 1 { Mount.reset with expected := 1 })

theorem witness_FontCommandsWriteOneMount : LinkReady referenced ∧
    [ascii "1", ascii "255", ascii "PLAIN", ascii "-16"].all cleanWord = true ∧
    parseNumber (ascii "1") = some (((1 : Fin 8).val : Nat) : Int) ∧ parseNumber (ascii "255") = some 255 ∧
    parseStyle (ascii "PLAIN") = some .plain ∧ parseNumber (ascii "-16") = some (-16) ∧ parseNumber (ascii "15") = some 15 ∧
    parseNumber (ascii "256") = some 256 ∧ parseNumber (ascii "-17") = some (-17) ∧
    mountReferenced 1 State.reset = false ∧ mountReferenced 1 referenced = true ∧
    [ascii "1", ascii "95", ascii "96"].all cleanWord = true ∧
    parseNumbers [ascii "1", ascii "95", ascii "96"] = some ((((1 : Fin 8).val : Nat) : Int) :: 95 :: [96]) ∧
    1 ≤ [(96 : Int)].length ∧ [(96 : Int)].length ≤ 40 ∧ (95 : Int) + ([(96 : Int)].length : Int) ≤ 96 ∧
    (∀ v ∈ [(96 : Int)], 0 ≤ v ∧ v ≤ 96) ∧
    (State.reset.opc.mount 1).state = .empty ∧ (referenced.opc.mount 1).state ≠ .empty ∧
    (let s := ropc fun o => o.setMount 1 { Mount.reset with expected := 1 }
     LinkReady s ∧ (s.opc.mount 1).state ≠ .empty ∧ mountReferenced 1 s = false) :=
  ⟨ready rfl, by decide, by decide, by decide, by decide, by decide, by decide, by decide, by decide, by decide, by decide,
    by decide, by decide, by decide, by decide, by decide, by decide, by decide, by decide, ready rfl, by decide⟩

theorem witness_LensWritesOnePosition : LinkReady referenced ∧ [ascii "0", ascii "144"].all cleanWord = true ∧
    parseNumber (ascii "0") = some (((0 : Fin 8).val : Nat) : Int) ∧ parseNumber (ascii "144") = some 144 ∧
    parseNumber (ascii "10") = some 10 ∧ parseNumber (ascii "9") = some 9 ∧ parseNumber (ascii "145") = some 145 ∧
    lensReferenced 0 State.reset = false ∧ lensReferenced 0 referenced = true :=
  ⟨ready rfl, by decide, by decide, by decide, by decide, by decide, by decide, by decide, by decide⟩

theorem witness_SizesResolveToTheNearestLens : 1 ≤ 18 ∧
    lensExample.resolve 18 = some ({ pos := 5, size := 17 }, true) ∧ Optics.reset.resolve 1 = none ∧
    lensExample.resolve 16 = some ({ pos := 1, size := 16 }, false) ∧ lensExample.lensSize 0 ≠ 0 := by decide

theorem witness_ReferencedTablesStand : Instr.textCodeRead.wf = true ∧ referenced.link.rx.midFrame = false ∧
    (∀ b a, Instr.textCodeRead ≠ .powerOnReset b a) ∧ Instr.textCodeRead ≠ .transmitFrameEnd ∧
    (∃ t, exec .textCodeRead referenced = .next t) ∧
    mountReferenced 1 referenced = true ∧ lensReferenced 0 referenced = true ∧
    referenced.link.tx = some (.hello .power) ∧ TxFrame.ofReset (.hello .power) = false ∧
    ∃ t, exec .transmitFrameEnd referenced = .next t :=
  ⟨by decide, by decide, nofun, nofun, ⟨_, rfl⟩, by decide, by decide, rfl, rfl, ⟨_, rfl⟩⟩

theorem witness_SurveyRestAndWakeMoveTheDrum :
    (let s := rexc fun e => { e with ptr := some 1 }
     LinkReady s ∧ s.exc.ptr ≠ none) ∧
    (LinkReady State.reset ∧ State.reset.exc.ptr = none ∧ State.reset.opc.drum = .stopped) ∧
    (let s := ropc fun o => { o with drum := .surveying }
     LinkReady s ∧ s.exc.ptr = none ∧ s.opc.drum = .surveying) ∧
    (let s := ropc fun o => { o with drum := .atSpeed }
     LinkReady s ∧ s.exc.ptr = none ∧ s.opc.drum = .atSpeed ∧ s.exc.st ≠ .armed) ∧
    (let s := rcmp fun c => { c with st := .reading }
     LinkReady s ∧ restConditions s = false) ∧
    (let s := ropc fun o => { o with resting := true }
     LinkReady s ∧ restConditions s = true ∧ s.opc.resting = true) ∧
    (restConditions State.reset = true ∧ State.reset.opc.resting = false) ∧
    State.reset.opc.restTimer ≠ none ∧ (ropc fun o => { o with restTimer := none }).opc.restTimer = none ∧
    (ropc fun o => { o with survey := some { pos := 3, stage := .shifting } }).opc.survey =
      some { pos := 3, stage := .shifting } ∧
    State.reset.exc.st ≠ .armed ∧ State.reset.exc.esc.flight = none :=
  ⟨⟨ready rfl, by decide⟩, ⟨ready rfl, by decide⟩, ⟨ready rfl, by decide⟩, ⟨ready rfl, by decide⟩, ⟨ready rfl, by decide⟩,
    ⟨ready rfl, by decide⟩, by decide⟩

/-- The strip shift in flight for a requester; a survey and a line in progress. -/
def inFlight (by_ : Requester) : State :=
  (ropc fun o => { o with
    strip := { held := none, flight := some { target := 3, by_ := by_, drive := .toward }, waiting := [] }
    survey := some { pos := 3, stage := .shifting } }).withExc { State.reset.exc with ptr := some 1 }
/-- The escapement in flight. -/
def escFlight (why : EscMove) : State :=
  rexc fun e => { e with ptr := some 1, esc := { held := none, flight := some (17280, why), waiting := [] } }
theorem witness_MechanismsEndAtTheirTarget :
    ((inFlight .survey).opc.mech .strip).flight = some { target := 3, by_ := .survey, drive := .toward } ∧
    ((inFlight .survey).opc.mech .strip).waiting = [] ∧
    (inFlight .survey).opc.survey = some { pos := 3, stage := .shifting } ∧
    (((inFlight .exposure).opc.mech .strip).flight = some { target := 3, by_ := .exposure, drive := .toward } ∧
      (inFlight .exposure).exc.ptr = some 1 ∧
      (inFlight .exposure).opc.strip.waiting = [] ∧ (inFlight .exposure).opc.prism.waiting = [] ∧
      (inFlight .exposure).opc.turret.waiting = [] ∧ (inFlight .exposure).exc.esc.waiting = []) ∧
    (∀ k, (State.reset.opc.mech k).flight = none) ∧ MechState.reset.flight = none ∧ MechState.reset.held ≠ some 0 ∧
    ({ MechState.reset with held := some 0 } : MechState).held = some 0 ∧
    ((escFlight .park).exc.esc.flight = some (17280, .park) ∧ (escFlight .element).exc.esc.flight = some (17280, .element) ∧
      (escFlight .element).exc.ptr = some 1 ∧ (escFlight .element).opc.strip.waiting = [] ∧
      (escFlight .element).opc.prism.waiting = [] ∧ (escFlight .element).opc.turret.waiting = []) ∧
    (State.reset.exc.esc.waiting = [] ∧
      ({ State.reset.exc.esc with waiting := [(5, .element), (0, .park)] } : Escapement).waiting =
        (5, .element) :: [(0, .park)]) ∧
    State.reset.exc.esc.flight = none := by
  refine ⟨by decide, by decide, by decide, by decide, ?_, by decide⟩
  intro k
  cases k <;> rfl

theorem witness_SensorLevelsAreTakenAfterTheDebounce :
    (State.reset.pins.door = .closed ∧ State.reset.pins.door ≠ .open ∧ State.reset.pins.cassette = .absent ∧
      State.reset.pins.cassette ≠ .present) ∧
    (State.reset.opc.doorTimer = some 20 ∧ State.reset.pins.door = .closed) ∧
    (let s := State.reset.withPins { State.reset.pins with door := .open, cassette := .present }
     s.opc.doorTimer = some 20 ∧ s.pins.door = .open ∧ s.opc.door = .unknown ∧ s.ftc.sensorTimer = some 20 ∧
       s.pins.cassette = .present) ∧
    (let s := (ropc fun o => { o with door := .closed }).withPins { State.reset.pins with door := .open }
     s.opc.doorTimer = some 20 ∧ s.pins.door = .open ∧ s.opc.door ≠ .unknown) ∧
    (State.reset.ftc.sensorTimer = some 20 ∧ State.reset.pins.cassette = .absent ∧ State.reset.ftc.st = .noCassette) ∧
    (let s := rftc fun f => { f with st := .ready }
     s.ftc.sensorTimer = some 20 ∧ s.pins.cassette = .absent ∧ s.ftc.st ≠ .noCassette ∧ s.exc.ptr = none) ∧
    (let s := (rftc fun f => { f with st := .ready }).withExc { State.reset.exc with st := .held, ptr := some 1 }
     s.ftc.st ≠ .noCassette ∧ s.exc.ptr ≠ none ∧ s.exc.cutWait = false ∧ s.exc.moveOut = false ∧ s.exc.stage = .move) ∧
    (let s := (rftc fun f => { f with st := .moving }).withExc
       { State.reset.exc with st := .movingFilm, ptr := some 1, moveOut := true }
     s.ftc.st ≠ .noCassette ∧ s.exc.ptr ≠ none ∧ s.exc.cutWait = false ∧ s.exc.moveOut = true) ∧
    (let s := (rftc fun f => { f with st := .ready }).withExc
       { State.reset.exc with st := .armed, ptr := some 1, stage := .arm }
     s.ftc.st ≠ .noCassette ∧ s.exc.ptr ≠ none ∧ s.exc.cutWait = false ∧ s.exc.stage ≠ .move) ∧
    (ropc fun o => { o with doorTimer := none }).opc.doorTimer = none ∧
    (rftc fun f => { f with sensorTimer := none }).ftc.sensorTimer = none := by decide

/-- A drum spinning up, after an index and so many good intervals, with every code read or none. -/
def spinning (intervals : Nat) (known : Bool) : State :=
  ropc fun o => { o with
    drum := .spinningUp, indexSeen := true, intervals := intervals
    mounts := if known then Vector.replicate 8 { Mount.reset with observed := some 0 } else o.mounts }
theorem witness_IndexQualifiesAndSurveys :
    (State.reset.opc.drum = .stopped ∧ (ropc fun o => { o with drum := .atSpeed }).opc.drum = .atSpeed) ∧
    (let s := ropc fun o => { o with drum := .surveying, survey := some { pos := 0, stage := .shifting } }
     s.opc.drum = .surveying ∧ ∀ v, s.opc.survey = some v → v.stage ≠ .awaitIndex) ∧
    (let s := ropc fun o => { o with drum := .spinningUp }
     s.opc.drum = .spinningUp ∧ s.opc.indexSeen = false) ∧
    ((spinning 2 true).opc.drum = .spinningUp ∧ (spinning 2 true).opc.indexSeen = true ∧ (spinning 2 true).opc.intervals < 3) ∧
    (3 ≤ (spinning 3 true).opc.intervals ∧ (∀ m, ((spinning 3 true).opc.mount m).observed ≠ none) ∧
      (spinning 3 true).opc.surveyRequest = false) ∧
    (3 ≤ (spinning 3 false).opc.intervals ∧ (∃ m, ((spinning 3 false).opc.mount m).observed = none) ∧
      (spinning 3 false).exc.st ≠ .armed) ∧
    (let s := ropc fun o => { o with drum := .surveying, survey := some { pos := 3, stage := .awaitIndex } }
     s.opc.drum = .surveying ∧ s.opc.survey = some { pos := 3, stage := .awaitIndex }) ∧
    (97 : Nat) < 98 ∧ (102 : Nat) < 103 := by
  refine ⟨by decide, ⟨by decide, ?_⟩, by decide, by decide, by decide, by decide, by decide⟩
  intro v h
  injection h with h
  subst h
  decide

theorem witness_DrumStallsAreHeld :
    (ropc fun o => { o with spinTimer := true }).opc.spinTimer = true ∧
    (ropc fun o => { o with stallMonitor := true }).opc.stallMonitor = true ∧
    State.reset.opc.spinTimer = false ∧ State.reset.opc.stallMonitor = false ∧
    (let s := ropc fun o => { o with stallMonitor := true, drum := .surveying, survey := some { pos := 3, stage := .awaitIndex } }
     s.opc.stallMonitor = true ∧ s.opc.survey = some { pos := 3, stage := .awaitIndex }) ∧
    (ropc fun o => { o with stallHold := true }).opc.stallHold = true ∧
    (let s := ropc fun o => { o with door := .closed }
     s.opc.drum = .stopped ∧ s.opc.door = .closed ∧ s.opc.resting = false ∧ s.opc.stallHold = false) := by decide


/-! #### Exposure -/

/-- A HARD stop requested while an operation of another requester is in flight. -/
def stoppedHard (st : ExcState) : State :=
  (rexc fun e => { e with
    st := st, stopReq := some .hard, esc := { held := none, flight := some (0, .park), waiting := [(5, .element)] } }).withOpc
      { Optics.reset with strip :=
        { held := none, flight := some { target := 0, by_ := .survey, drive := .toward }, waiting := [(.exposure, 1)] } }
/-- The rest timer's conditions hold, with the timer running or not, or one of them does not. -/
theorem witness_SurveyRestAndWakeMoveTheDrum_timer :
    (let s := ropc fun o => { o with restTimer := none }
     s.cmp.st = .idle ∧ s.hyu.referral = none ∧ (∀ r ∈ s.sls.records, r.exp ≠ .pending ∧ r.exp ≠ .inProgress) ∧
       s.ftc.st = .noCassette ∧ s.opc.resting = false ∧ s.opc.restInterval ≠ 0 ∧ s.opc.restTimer = none) ∧
    State.reset.opc.restTimer ≠ none ∧ (ropc fun o => { o with resting := true }).opc.resting = true ∧
    (ropc fun o => { o with restInterval := 0 }).opc.restInterval = 0 ∧
    (rcmp fun c => { c with st := .reading }).cmp.st ≠ .idle := by decide

theorem witness_StopAndResumeFrameTheWork :
    (LinkReady State.reset ∧ State.reset.exc.st ≠ .stopped ∧ State.reset.exc.stopReq = none ∧
      State.reset.exc.stopReq ≠ some .hard) ∧
    (let s := rexc fun e => { e with stopReq := some .hard }
     LinkReady s ∧ s.exc.st ≠ .stopped ∧ s.exc.stopReq ≠ none ∧ s.exc.stopReq = some .hard) ∧
    ((stoppedHard .preparing).cmp.st ≠ .aborting ∧ (stoppedHard .preparing).exc.ending = none ∧
      (stoppedHard .preparing).exc.cutWait = false ∧ (stoppedHard .preparing).exc.stopReq = some .hard ∧
      (∀ k f, ((stoppedHard .preparing).opc.mech k).flight = some f → f.by_ ≠ .exposure) ∧
      (∀ x, (stoppedHard .preparing).exc.esc.flight ≠ some (x, .element)) ∧ (stoppedHard .preparing).exc.moveOut = false) ∧
    (let s := rexc fun e => { e with stopReq := some .soft }
     s.exc.stopReq = some .soft ∧ s.exc.st = .idle ∧ s.exc.ending = none ∧ s.exc.cutWait = false) ∧
    (let s := rexc fun e => { e with st := .stopped }
     LinkReady s ∧ s.exc.st = .stopped ∧ s.cmp.st ≠ .aborting ∧ s.exc.ptr = none) ∧
    (rexc fun e => { e with st := .stopped, cutWait := true }).exc.cutWait = true ∧
    (let s := rexc fun e => { e with st := .stopped, ptr := some 1, moveOut := true }
     LinkReady s ∧ s.exc.st = .stopped ∧ s.cmp.st ≠ .aborting ∧ s.exc.ptr ≠ none ∧ s.exc.moveOut = true) ∧
    (let s := rexc fun e => { e with st := .stopped, ptr := some 1 }
     LinkReady s ∧ s.exc.st = .stopped ∧ s.cmp.st ≠ .aborting ∧ s.exc.ptr ≠ none ∧ s.exc.moveOut = false) ∧
    (rcmp fun c => { c with st := .aborting }).cmp.st = .aborting ∧ [] ≠ [ascii "SOFT"] ∧ [] ≠ [ascii "HARD"] := by
  refine ⟨⟨ready rfl, by decide⟩, ⟨ready rfl, by decide⟩, ⟨by decide, rfl, rfl, rfl, ?_, nofun, rfl⟩,
    by decide, ⟨ready rfl, by decide⟩, rfl, ⟨ready rfl, by decide⟩, ⟨ready rfl, by decide⟩, by decide⟩
  intro k f h
  cases k
  · injection h with h
    subst h
    decide
  · exact nomatch h
  · exact nomatch h

theorem witness_TempsAndIntensityAreKept : LinkReady State.reset ∧
    [ascii "0", ascii "1", ascii "100"].all cleanWord = true ∧ parseNumber (ascii "0") = some 0 ∧
    parseNumber (ascii "1") = some 1 ∧ parseNumber (ascii "100") = some 100 ∧
    ((0 : Int) ≤ 0 ∧ (0 : Int) < 1 ∧ (1 : Int) < 100 ∧ (100 : Int) ≤ 100) ∧
    ¬ ((0 : Int) ≤ 0 ∧ (0 : Int) < 1 ∧ (1 : Int) < 1 ∧ (1 : Int) ≤ 100) ∧
    [ascii "ALL", ascii "7", ascii "255"].all cleanWord = true ∧ parseNumberOrAll (ascii "ALL") = some none ∧
    parseNumberOrAll (ascii "7") = some (some 7) ∧ parseNumber (ascii "255") = some 255 ∧
    allInRange 0 3 none = true ∧ allInRange 0 7 (some 7) = true ∧
    parseNumberOrAll (ascii "4") = some (some 4) ∧ allInRange 0 3 (some 4) = false ∧ allInRange 0 7 (some 8) = false ∧
    parseNumber (ascii "256") = some 256 ∧
    parseNumber (ascii "3") = some (((3 : Fin 4).val : Nat) : Int) ∧ parseNumber (ascii "7") = some (((7 : Fin 8).val : Nat) : Int) :=
  ⟨ready rfl, by decide⟩

/-- A line armed for its first box, with a lamp, a count and a number of misses. -/
def armedState (lamp : Lamp) (count misses : Nat) : State :=
  ((rexc fun e => { e with
    st := .armed, ptr := some 1, stage := .arm, armed := some { count := count, energy := 128 }, lamp := lamp
    misses := misses, band := some 1 }).withSls
      { Store.reset with records := [{ record1 with exp := .inProgress, exposed := 0 }] }).withOpc
        { Optics.reset with door := .closed, drum := .atSpeed }
/-- The record of `armedState`. -/
def armedRecord : LineRecord := { record1 with exp := .inProgress, exposed := 0 }
theorem witness_CountsBringTheArmedSlot :
    State.reset.exc.armed = none ∧
    ((armedState .charged 2 0).exc.armed = some { count := 2, energy := 128 } ∧
      (armedState .charged 1 0).exc.armed = some { count := 1, energy := 128 } ∧ (armedState .charged 1 0).exc.lamp = .charged) ∧
    ((armedState .charging 3072 6).exc.armed = some { count := 3072, energy := 128 } ∧
      (armedState .charging 3072 6).exc.lamp ≠ .charged ∧ (armedState .charging 3072 6).exc.ptr = some armedRecord.number ∧
      (armedState .charging 3072 6).sls.find armedRecord.number = some armedRecord ∧
      armedRecord.remaining.head? = some (bx 117 0) ∧ (bx 117 0).kind = .box 1 1 0 ∧
      (armedState .charging 3072 6).exc.misses < 7) ∧
    (7 ≤ (armedState .off 3072 7).exc.misses ∧ (armedState .off 3072 7).opc.strip.waiting = [] ∧
      (armedState .off 3072 7).opc.prism.waiting = [] ∧ (armedState .off 3072 7).opc.turret.waiting = [] ∧
      (armedState .off 3072 7).exc.esc.waiting = []) := by decide

/-- The last box of the line flashed and waiting for its photocell. -/
def lastFlash : State :=
  (rexc fun e => { e with st := .flashing, ptr := some 1, flash := some 128, index := 24 }).withSls
    { Store.reset with records := [{ record1 with exp := .inProgress, exposed := 24 }] }
theorem witness_FlashesAreConfirmedOrFault :
    (lastFlash.exc.st = .flashing ∧ lastFlash.exc.ptr = some 1 ∧ lastFlash.exc.ending = none ∧
      lastFlash.opc.strip.waiting = [] ∧ lastFlash.opc.prism.waiting = [] ∧ lastFlash.opc.turret.waiting = [] ∧
      lastFlash.exc.esc.waiting = []) ∧
    (let r : LineRecord := { record1 with exp := .inProgress, exposed := 24 }
     lastFlash.exc.ptr = some r.number ∧ lastFlash.sls.find r.number = some r ∧ r.elems.length = r.exposed + 1 ∧
       lastFlash.ftc.cutFollows r.cutAfter = false) ∧
    State.reset.exc.st ≠ .flashing ∧ (rexc fun e => { e with lamp := .charging }).exc.lamp = .charging ∧
    State.reset.exc.lamp ≠ .charging := by decide

theorem witness_FlashesOnlyAtTheArmedSlot :
    let s := withCommand .slotArrival (armedState .charged 1 0)
    FlashSafe s ∧ (∃ t, step s = .next t) ∧ s.exc.flash = none ∧
      (outOf (exec .slotArrival s)).any (fun t => t.exc.flash == some 128) = true := by
  refine ⟨fun _ => ⟨rfl, rfl, rfl⟩, ⟨_, rfl⟩, rfl, by decide⟩

/-- Line 1 to be exposed, before a film of a capacity at a position. -/
def lineWaits (st : FtcState) (cap p : Nat) : State :=
  (rsls fun x => { x with records := [{ record1 with exp := .pending, exposed := 0, band := none, galley := none }] }).withFtc
    { State.reset.ftc with st := st, cap := cap, p := p, dmax := p }
/-- The record of `lineWaits`. -/
def waitingRecord : LineRecord := { record1 with exp := .pending, exposed := 0, band := none, galley := none }
/-- The optics with mount 1 READY, at speed behind a CLOSED door or not, every mechanism at the box's place or at none. -/
def opticsAt (atSpeed : Bool) (held : Option Nat) : Optics :=
  ({ Optics.reset with
    door := .closed, drum := if atSpeed then .atSpeed else .stopped
    strip := { held := held, flight := none, waiting := [] }
    prism := { held := held.map fun _ => 1, flight := none, waiting := [] }
    turret := { held := held, flight := none, waiting := [] } }).setMount 1
      { Mount.reset with expected := 9, observed := some 9 }
/-- Line 1 IN_PROGRESS in a state of the Exposure Controller, so many of its elements exposed. -/
def lineAt (st : ExcState) (stage : Stage) (exposed : Nat) (elems : List Elem) (o : Optics) : State :=
  ((rsls fun x => { x with records :=
    [{ record1 with exp := .inProgress, proof := .notRequired, exposed := exposed, elems := elems }] }).withExc
      { State.reset.exc with
        st := st, ptr := some 1, stage := stage, index := exposed
        esc := { held := some 0, flight := none, waiting := [] } }).withOpc o
/-- The record of `lineAt`. -/
def currentRecord (exposed : Nat) (elems : List Elem) : LineRecord :=
  { record1 with exp := .inProgress, proof := .notRequired, exposed := exposed, elems := elems }
/-- A store whose oldest record is terminal. -/
def releasable (exp : ExpState) (proof : ProofState) : State :=
  rsls fun x => { x with records := [{ record1 with exp := exp, proof := proof }, waitingRecord] }
/-- An abort with nothing left in hand. -/
def abortLeft (ask : Bool) (st : PrcState) : State :=
  ((rcmp fun c => { c with st := .aborting }).withSls
    { Store.reset with abort := some .soft, records := [{ waitingRecord with discard := true }] }).withPrc
      { State.reset.prc with ask := ask, st := st }

/-- The stop test of the statement, for the elements that remain. -/
def stops (s : State) (rest : List Elem) : Prop :=
  s.opc.door ≠ .closed ∨ s.opc.drum ≠ .atSpeed ∨ ∃ e ∈ rest, e.notReady s.opc = true

theorem witness_LinesRunThroughTheirStages_take :
    (∃ t, react (lineWaits .ready 17280 0) = some t) ∧ react State.reset = none ∧
    (let s := lineWaits .ready 17280 0
     s.exc.st = .idle ∧ s.exc.stopReq = none ∧ s.exc.ptr = none ∧ s.cmp.st ≠ .aborting ∧ surveyReact s = none ∧
       releaseOldest s = none ∧ skipReact s = none ∧ composerStep s = none ∧
       (s.sls.records.find? fun r => r.exp == .pending && !r.discard) = some waitingRecord ∧
       s.sls.find waitingRecord.number = some waitingRecord) ∧
    ((lineWaits .ready 240 0).ftc.st = .ready ∧ ((lineWaits .ready 240 0).ftc.lineTarget waitingRecord).target = 240 ∧
      (lineWaits .ready 240 0).ftc.cap = 240 ∧ (lineWaits .ready 240 0).ftc.p ≠ 240 ∧
      0 < ((lineWaits .ready 240 0).ftc.stepping 240).steps) ∧
    (let f := { (lineWaits .ready 240 240).ftc with g := 240 }
     let r := { waitingRecord with move := .lead 0 }
     (f.lineTarget r).target = f.p ∧ (f.lineTarget r).target ≤ f.cap) ∧
    ((lineWaits .ready 239 0).ftc.cap < ((lineWaits .ready 239 0).ftc.lineTarget waitingRecord).target ∧
      (lineWaits .noCassette 0 0).ftc.st ≠ .ready ∧ (lineWaits .moving 0 0).ftc.st ≠ .ready) ∧
    (lineAt .movingFilm .prepare 0 justified (opticsAt true (some 0))).exc.st ≠ .stopped := by
  refine ⟨⟨_, rfl⟩, by decide, by decide, by decide, by decide, by decide, by decide⟩

theorem witness_LinesRunThroughTheirStages_hold :
    (let s := lineAt .preparing .arm 0 [bx 117 0] (opticsAt true (some 0))
     s.exc.ptr = some (currentRecord 0 [bx 117 0]).number ∧
       s.sls.find (currentRecord 0 [bx 117 0]).number = some (currentRecord 0 [bx 117 0]) ∧ s.exc.ending = none ∧
       s.exc.stopReq ≠ some .hard ∧ s.cmp.st ≠ .aborting ∧ s.exc.st = .preparing ∧ opsOutstanding s = false ∧
       [bx 117 0].drop 0 = bx 117 0 :: [] ∧ ¬ stops s [bx 117 0] ∧ (bx 117 0).kind = .box 1 1 0 ∧
       s.opc.strip.held = some ((1 : Fin 8).val / 2) ∧ s.opc.prism.held = some ((1 : Fin 8).val % 2) ∧
       s.opc.turret.held = some (0 : Fin 8).val ∧ s.exc.esc.held = some (bx 117 0).x) ∧
    (lineAt .preparing .arm 0 [bx 117 0] (opticsAt true none)).opc.strip.held ≠ some ((1 : Fin 8).val / 2) ∧
    stops (lineAt .preparing .arm 0 [bx 117 0] (opticsAt false (some 0))) [bx 117 0] ∧
    stops (lineAt .preparing .arm 0 [bx 117 0] Optics.reset) [bx 117 0] ∧
    (¬ stops (lineAt .movingFilm .prepare 0 [enSpace] (opticsAt true none)) [enSpace] ∧
      ∀ m slot p, enSpace.kind ≠ .box m slot p) ∧
    (let s := lineAt .held .move 0 justified (opticsAt true none)
     s.exc.st = .held ∧ s.exc.cutWait = false ∧ s.exc.moveOut = false ∧ s.exc.stage = .move ∧ s.exc.filmOut = false ∧
       (s.withFtc { s.ftc with st := .ready }).ftc.st = .ready) ∧
    ((lineAt .held .prepare 0 [bx 117 0] (opticsAt true none)).exc.stage = .prepare ∧
      (lineAt .held .arm 0 [bx 117 0] (opticsAt true none)).exc.stage = .arm) := by
  refine ⟨?_, by decide, .inr (.inl (by decide)), .inl (by decide), ⟨?_, nofun⟩, by decide, by decide⟩ <;>
    (unfold stops; decide)

theorem witness_LinesRunThroughTheirStages :
    (let s := lineAt .flashing .prepare 25 justified (opticsAt true none)
     s.exc.ending = none ∧ justified.drop 25 = [] ∧ s.ftc.cutFollows false = false ∧
       (s.withFtc { s.ftc with st := .ready }).ftc.cutFollows true = true) ∧
    (let s := (lineAt .held .prepare 0 justified (opticsAt true none)).withCmp { State.reset.cmp with st := .aborting }
     s.cmp.st = .aborting ∧ s.exc.ending = none ∧ s.exc.st = .held ∧
       (s.withSls { s.sls with abort := some .hard }).sls.abort = some .hard) ∧
    (let s := (lineAt .preparing .prepare 0 justified (opticsAt true none))
     let e := s.withExc { s.exc with ending := some .removal }
     e.exc.ending ≠ none ∧ quiet e = true) ∧
    (exposureReact (releasable .done .skipped) = none ∧ surveyReact (releasable .done .skipped) = none ∧
      (releasable .part .done).sls.records = { record1 with exp := .part, proof := .done } :: [waitingRecord] ∧
      exposureReact (releasable .notRequired .done) = none) ∧
    (∀ ask st, exposureReact (abortLeft ask st) = none ∧ surveyReact (abortLeft ask st) = none ∧
      releaseOldest (abortLeft ask st) = none ∧ skipReact (abortLeft ask st) = none ∧ (abortLeft ask st).cmp.st = .aborting ∧
      (abortLeft ask st).exc.ptr = none ∧ (abortLeft ask st).exc.cutWait = false ∧ (abortLeft ask st).prc.out = []) := by
  refine ⟨by decide, by decide, by decide, by decide, ?_⟩
  intro ask st
  cases ask <;> cases st <;> decide

/-- Line 1 with no element STOPPED, its move outstanding behind a transport of a state. -/
def emptyStopped (cut : Bool) : State :=
  let s := lineAt .stopped .prepare 0 [] (opticsAt true none)
  ((s.withSls { s.sls with records := [{ currentRecord 0 [] with cutAfter := cut }] }).withExc
    { s.exc with moveOut := true, stopReq := some .hard }).withFtc
      { s.ftc with st := .ready, cap := 17280, p := 240, dmax := 240, lowMatched := true }
/-- The report of the move of `emptyStopped`. -/
def emptyMove : LineMove := { target := 240, number := 1, marks := [], noMark := false, clamped := true }
/-- R85, R126, R143: an empty line is DONE at its move's completion in STOPPED, and the Exposure Controller stays STOPPED, also
where a cut follows, after which it is STOPPED still. -/
theorem test_empty_line_done_while_stopped :
    (let s := moveCompleted emptyMove (emptyStopped false)
     s.sls.records.map LineRecord.exp = [.done] ∧ s.exc.ptr = none ∧ Flag.line ∈ s.link.flags ∧
       (react s).map (fun t => t.exc.st) = some .stopped) ∧
    (let s := moveCompleted emptyMove (emptyStopped true)
     s.sls.records.map LineRecord.exp = [.done] ∧ s.exc.st = .stopped ∧ s.exc.cutWait = true ∧ s.ftc.st = .cutting ∧
       (resume s).exc.st = .held ∧ (react (endCutWait s)).map (fun t => t.exc.st) = some .stopped) := by decide

theorem witness_LinesRunThroughTheirStages_stopped :
    ((emptyStopped true).exc.st = .stopped ∧ (emptyStopped true).exc.ptr = some { currentRecord 0 [] with cutAfter := true }.number ∧
      (emptyStopped true).sls.find 1 = some { currentRecord 0 [] with cutAfter := true } ∧ emptyMove.number = 1 ∧
      ([] : List Elem).drop 0 = [] ∧ (emptyStopped true).exc.ending = none) ∧
    ((lineAt .stopped .prepare 0 justified (opticsAt true none)).exc.st = .stopped ∧ justified.drop 0 ≠ []) := by decide

/-- A composer in a state with a step in hand, and elements free. -/
def stepInHand (st : CmpState) (t : Option Task) (free : Nat) : State :=
  let s := onePica tonight
  poolLeft free (s.withCmp { s.cmp with st := st, task := t })
set_option maxRecDepth 20000 in
theorem witness_LinesRunThroughTheirStages_blocks :
    (let s := ropc fun o => { opticsAt true (some 2) with survey := some { pos := 2, stage := .shifting } }
     exposureReact s = none ∧ s.opc.survey = some { pos := 2, stage := .shifting } ∧ s.opc.strip.flight = none ∧
       s.opc.strip.held = some (2 : Fin 4).val) ∧
    (let s := ropc fun o => { opticsAt true (some 1) with survey := some { pos := 2, stage := .shifting } }
     s.opc.strip.held ≠ some (2 : Fin 4).val) ∧
    (let r := { waitingRecord with proof := .pending, cutAfter := true }
     let s := (rprc fun p => { p with st := .skipping }).withSls { Store.reset with records := [r] }
     exposureReact s = none ∧ surveyReact s = none ∧ releaseOldest s = none ∧ s.prc.st = .skipping ∧
       (s.sls.records.find? fun r => r.proof == .pending && !r.discard) = some r) ∧
    (let s := rcmp fun c => { c with st := .reading, task := some (.fit (.space 20)) }
     exposureReact s = none ∧ surveyReact s = none ∧ releaseOldest s = none ∧ skipReact s = none ∧
       s.cmp.task = some (.fit (.space 20)) ∧ s.cmp.st = .reading ∧ ∀ opp, Task.fit (.space 20) ≠ .decision opp) ∧
    (let s := stepInHand .stallRoom (some (.place (.space 20))) 7
     s.cmp.st = .stallRoom ∧ s.cmp.task = some (.place (.space 20)) ∧ (itemElems s.cmp.word.items).length ≤ freePool s) ∧
    (let s := stepInHand .stallRoom (some (.place (.space 20))) 6
     s.cmp.st = .stallRoom ∧ ¬ (itemElems s.cmp.word.items).length ≤ freePool s) := by
  refine ⟨by decide, by decide, by decide, ⟨by decide, by decide, by decide, by decide, by decide, by decide, nofun⟩,
    by decide, by decide⟩

theorem witness_LinesRunThroughTheirStages_rest :
    (let s := rcmp fun c => { c with st := .reading }
     exposureReact s = none ∧ surveyReact s = none ∧ releaseOldest s = none ∧ skipReact s = none ∧ composerStep s = none ∧
       exposureTake s = none ∧ s.cmp.st = .reading ∧ s.cmp.task = none ∧ s.txq.bytes = [] ∧ s.cmp.partCode = none ∧
       s.cmp.word.count = 0 ∧ s.cmp.word.items = [] ∧ s.cmp.held = none ∧ s.cmp.line = none) ∧
    (rcmp fun c => { c with st := .reading, held := some 20 }).cmp.held ≠ none ∧
    ((rtxq [0x41#8] false).cmp.st = .idle ∧ (rtxq [0x41#8] false).txq.bytes ≠ []) := by decide

/-! #### Film -/

/-- A loaded film ready for work, at a position, with LOWFILM's match made. -/
def loaded (p : Nat) : State :=
  rftc fun f => { f with st := .ready, sensor := .present, cap := 17280, p := p, dmax := p, lowMatched := true }
theorem witness_CassetteLoadsAFreshFilm : LinkReady (loaded 0) ∧ cleanWord (ascii "12") = true ∧
    parseNumber (ascii "11") = some 11 ∧ parseNumber (ascii "12") = some 12 ∧ parseNumber (ascii "2400") = some 2400 ∧
    parseNumber (ascii "2401") = some 2401 ∧ State.reset.ftc.sensor ≠ .present ∧ (loaded 0).ftc.sensor = .present ∧
    cassetteBusy (loaded 0) = false ∧
    (let s := (loaded 0).withExc { (loaded 0).exc with cutWait := true }
     LinkReady s ∧ s.ftc.sensor = .present ∧ cassetteBusy s = true) ∧
    (∀ w, ([] : List Text) = [w] → parseNumber w = none) :=
  ⟨ready rfl, by decide, by decide, by decide, by decide, by decide, by decide, by decide, by decide, ⟨ready rfl, by decide⟩,
    nofun⟩

theorem witness_FeedcutCutsBelowTheDeepestLine :
    (LinkReady State.reset ∧ State.reset.ftc.st = .noCassette) ∧
    (let s := (loaded 0).withExc { (loaded 0).exc with st := .held }
     LinkReady s ∧ s.ftc.st ≠ .noCassette ∧ s.ftc.st ≠ .faulted ∧ s.exc.st ≠ .idle) ∧
    (LinkReady (loaded 0) ∧ (loaded 0).ftc.st = .ready ∧ (loaded 0).exc.st = .idle ∧
      (∀ r ∈ (loaded 0).sls.records, r.exp = .pending → r.discard = true) ∧
      (loaded 0).ftc.p ≠ min (loaded 0).ftc.cap ((loaded 0).ftc.dmax + (loaded 0).ftc.margin) ∧
      0 < ((loaded 0).ftc.stepping 240).steps) ∧
    ((loaded 17280).ftc.p = min (loaded 17280).ftc.cap ((loaded 17280).ftc.dmax + (loaded 17280).ftc.margin) ∧
      (loaded 17280).ftc.lowMatched = true) :=
  ⟨⟨ready rfl, by decide⟩, ⟨ready rfl, by decide⟩, ⟨ready rfl, by decide⟩, by decide⟩

/-- A line's move to the end of the film, and the operation that carries it out. -/
def moveToEnd : LineMove := { target := 17280, number := 1, marks := [0], noMark := true, clamped := false }
def steppingToEnd : Stepping := { steps := 17280, forward := true, timeout := 2260, newE := 0 }
theorem witness_FilmOperationsEnd :
    (let s := (rexc fun e => { e with st := .stopped }).withFtc
       { (loaded 0).ftc with st := .moving, op := some (.lineMove moveToEnd steppingToEnd) }
     s.ftc.op = some (.lineMove moveToEnd steppingToEnd) ∧ s.exc.st = .stopped ∧ s.ftc.lowMatched = true ∧
       s.exc.cutWait = false) ∧
    (let s := rftc fun _ => { (loaded 0).ftc with
       st := .cutting, op := some (.margin steppingToEnd), cut := some { target := 17280, line := 1 } }
     s.ftc.op = some (.margin steppingToEnd) ∧ s.ftc.cut = some { target := 17280, line := 1 } ∧ s.ftc.lowMatched = true) ∧
    (let s := rftc fun _ => { (loaded 0).ftc with st := .cutting, op := some .cutter, cut := some { target := 240, line := 0 } }
     s.ftc.op = some .cutter ∧ s.ftc.cut = some { target := 240, line := 0 }) ∧
    State.reset.ftc.op = none := by decide

theorem witness_FilmStaysWithinTheCassette :
    let s := withCommand .textCodeRead (rftc fun _ => { (loaded 17280).ftc with marks := #v[some 17280, none, none, some 0] })
    s.ftc.Kept ∧ ∃ t, step s = .next t := by
  refine ⟨⟨⟨by decide, by decide, by decide, ?_, by decide, by decide⟩, nofun, nofun, nofun, nofun⟩, _, rfl⟩
  intro k
  match k with
  | 0 => exact ⟨by decide, by decide⟩
  | 1 => trivial
  | 2 => trivial
  | 3 => exact ⟨by decide, by decide⟩

/-! #### Proofs -/

/-- The one row of the line's proof outstanding at the printer. -/
def rowOut (cut : Bool) : State :=
  (rprc fun p => { p with out := [.row 1 1], timer := some 10 }).withSls
    { Store.reset with records := [{ record1 with cutAfter := cut }] }
/-- A READY 5 behind which the first byte of another message comes. -/
def ready5 : PrinterMessage := { value := 5#8, after := [0x20#8, 0x46#8] }
/-- The proof of line 1 to be begun, with room for so many rows and a header due or not. -/
def toBegin (room : Nat) (header : Bool) : State :=
  (rprc fun p => { p with room := room, headerDue := header }).withSls
    { Store.reset with records := [{ record1 with proof := .pending }] }
theorem witness_PrinterMessagesMoveTheRows :
    (State.reset.prc.half = none ∧ (rprc fun p => { p with half := some .ready }).prc.half = some .ready ∧
      (rprc fun p => { p with half := some .fault }).prc.half = some .fault) ∧
    ((Instr.printerReady ready5).wf = true ∧ State.reset.prc.half ≠ some .fault ∧ State.reset.prc.ask = false ∧
      State.reset.prc.st ≠ .faulted) ∧
    ((rprc fun p => { p with ask := true }).prc.ask = true ∧ (rprc fun p => { p with st := .faulted }).prc.st = .faulted) ∧
    State.reset.prc.out = [] ∧ (rprc fun p => { p with out := [.header] }).prc.out = .header :: [] ∧
    ((rowOut false).prc.out = .row 1 1 :: [] ∧ (rowOut false).prc.half = none ∧ (rowOut false).sls.find 1 = some record1 ∧
      rowCount (rowOut false).opc record1 ≤ 1 ∧ record1.cutAfter = false) ∧
    ((rowOut true).prc.out = .row 1 1 :: [] ∧ (rowOut true).sls.find 1 = some { record1 with cutAfter := true } ∧
      rowCount (rowOut true).opc { record1 with cutAfter := true } ≤ 1) ∧
    (let s := (rprc fun p => { p with out := [.row 1 0] }).withSls { Store.reset with records := [record1] }
     s.prc.out = .row 1 0 :: [] ∧ s.sls.find 1 = some record1 ∧ 0 < rowCount s.opc record1) ∧
    ((toBegin 15 true).cmp.st ≠ .aborting ∧ (toBegin 15 true).prc.st ≠ .skipping ∧ (toBegin 15 true).prc.st ≠ .faulted ∧
      (toBegin 15 true).prc.port = none ∧ (toBegin 15 true).prc.ask = false ∧ (toBegin 15 true).prc.askDue = false ∧
      (rprc fun p => { p with out := List.replicate 14 .header }).prc.out.length < 15 ∧
      (toBegin 15 true).prc.ptr = none ∧ (toBegin 15 true).prc.galleyWait = none ∧
      ((toBegin 15 true).sls.records.find? fun r => r.proof == .pending && !r.discard) =
        some { record1 with proof := .pending } ∧
      0 < (toBegin 1 true).prc.room ∧ (toBegin 1 true).prc.headerDue = true ∧ (toBegin 1 false).prc.headerDue = false ∧
      (toBegin 0 true).prc.room = 0 ∧ (toBegin 0 true).prc.afterZero = false) ∧
    (let s := (rprc fun p => { p with ptr := some (1, 1), room := 1 }).withSls { Store.reset with records := [record1] }
     s.prc.ptr = some (1, 1) ∧ s.sls.find 1 = some record1 ∧ 0 < s.prc.room) := by decide

/-- The states of the Proof Controller that send nothing, and those in which its timer runs or stands. -/
theorem witness_PrinterMessagesMoveTheRows_state :
    ((rprc fun p => { p with ask := true }).prc.ask = true ∧ (rprc fun p => { p with askDue := true }).prc.askDue = true ∧
      (rprc fun p => { p with askDue := true }).prc.port = none) ∧
    ((toBegin 1 true).prc.ptr = none ∧ (toBegin 1 true).prc.galleyWait = none ∧
      (∃ r ∈ (toBegin 1 true).sls.records, r.proof = .pending ∧ r.discard = false) ∧ 0 < (toBegin 1 true).prc.room ∧
      (toBegin 1 true).prc.out.length < 15 ∧ (toBegin 0 true).prc.room = 0) ∧
    (∀ r ∈ State.reset.sls.records, r.proof ≠ .pending) ∧
    ((rprc fun p => { p with port := some .ask }).prc.port ≠ none ∧
      (rprc fun p => { p with st := .faulted, port := some .ask }).prc.st = .faulted) ∧
    15 ≤ (rprc fun p => { p with out := List.replicate 15 .header }).prc.out.length ∧
    (rprc fun p => { p with st := .faulted }).prc.timer = none ∧ (rprc fun p => { p with timer := some 10 }).prc.timer ≠ none ∧
    State.reset.prc.out = [] := by decide

/-- An ASK outstanding past the grant. -/
def silentPrinter (mode : ProofMode) : State :=
  rprc fun p => { p with st := .waiting, ask := true, timer := some 10, mode := mode }
/-- The timer running in a state of the Proof Controller. -/
def expiring (st : PrcState) (ask : Bool) (port : Option PortMessage) : State :=
  rprc fun p => { p with st := st, ask := ask, port := port, timer := some 10 }
theorem witness_PrinterFaultsAndSilenceGiveTheRowsUp :
    ((rowOut false).prc.out = .row 1 1 :: [] ∧ (∀ n j ws, State.reset.prc.out ≠ .row n j :: ws) ∧
      ∀ n j ws, (rprc fun p => { p with out := [.header, .row 1 1] }).prc.out ≠ .row n j :: ws) ∧
    ((Instr.printerFault ready5).wf = true ∧ (rprc fun p => { p with half := some .ready }).prc.half = some .ready ∧
      State.reset.prc.half ≠ some .ready ∧ State.reset.prc.mode = .best ∧
      (rprc fun p => { p with mode := .required }).prc.mode = .required ∧
      ∃ r ∈ (rowOut false).sls.records, r.proof = .inProgress) ∧
    ((expiring .sending false none).prc.timer = some 10 ∧ (expiring .sending false none).cmp.st ≠ .aborting ∧
      (expiring .sending false none).prc.st ≠ .faulted ∧ (expiring .sending false none).prc.st ≠ .skipping ∧
      (expiring .sending false none).prc.ask = false ∧ (expiring .sending false (some .ask)).prc.port ≠ none) ∧
    ((silentPrinter .required).prc.timer = some 10 ∧ (silentPrinter .required).prc.st ≠ .faulted ∧
      (silentPrinter .required).prc.st ≠ .skipping ∧ (silentPrinter .required).prc.ask = true ∧
      (silentPrinter .required).prc.mode = .required ∧ (silentPrinter .best).prc.ask = true ∧
      (silentPrinter .best).prc.mode = .best) ∧
    ((expiring .faulted false none).prc.st = .faulted ∧ (expiring .skipping true none).prc.st = .skipping) ∧
    (let s := (rowOut false).withCmp { State.reset.cmp with st := .aborting }
     s.prc.timer = some 10 ∧ s.cmp.st = .aborting ∧
       ∃ r ∈ s.sls.records, s.prc.out.any (ProofRow.ofRecord r.number) = true) ∧
    State.reset.prc.timer = none :=
  ⟨⟨by decide, nofun, nofun⟩, by decide⟩

theorem witness_ProofRowsHave132Cells : record1.number ≤ 65535 ∧ 65535 ≤ 65535 ∧ 1 = 1 ∧ 2 ≠ 1 ∧
    (textCells Optics.reset (List.replicate 120 (bx 10 0))).length ≤ 120 ∧
    120 < (textCells Optics.reset (List.replicate 121 (bx 10 0))).length := by
  refine ⟨by decide, by decide, by decide, by decide, ?_, ?_⟩ <;> decide

/-! #### Invariants -/

theorem witness_BuffersStayWithinTheirLimits :
    let s := withCommand .textCodeRead (rowOut false)
    BuffersSafe s ∧ ∃ t, step s = .next t := by
  refine ⟨?_, _, rfl⟩
  unfold BuffersSafe
  decide

/-! ### One step of commands, from the manual's sentences -/

/-- R189: CAPS with a parameter. -/
theorem test_caps_parameter : replyOf (.caps [ascii "X"]) State.reset = some (ascii "NO SYNTAX") := by decide
/-- R149, R189: CASSETTE's range before its sensor. -/
theorem test_cassette_order : replyOf (.cassette [ascii "11"]) State.reset = some (ascii "NO RANGE") ∧
    replyOf (.cassette [ascii "12"]) State.reset = some (ascii "NO STATE") := by decide
/-- R149: 12 inches are 72 picas. -/
theorem test_cassette_loads :
    replyOf (.cassette [ascii "12"]) (rftc fun f => { f with sensor := .present }) = some (ascii "OK CAP=72P0.0 GALLEY=1") := by
  decide
/-- R13: the room after a text record. -/
theorem test_text_room : replyOf (.text (ascii "AB")) State.reset = some (ascii "OK room=4094") := by decide
/-- R105: FACE's reply. -/
theorem test_face_reply : replyOf (.face [ascii "3", ascii "45", ascii "BOLD", ascii "-4"]) State.reset =
    some (ascii "OK MOUNT=3 STATE=UNVERIFIED") := by decide
/-- R19, R20, R23: a SIZE below the range, an INDENT that the measure cannot hold, a selector that names nothing. -/
theorem test_code_parameters : readCode 0x02#8 [9#8] = .size 10 ∧ readCode 0x03#8 [0xFF#8, 0x38#8] = .lead (-200) ∧
    readCode 0x06#8 [0x4E#8, 0x20#8, 0#8, 1#8] = .indent 17040 1 ∧ readCode 0x04#8 [4#8] = .undefined :=
  ⟨by decide, by decide, by simp [readCode, clampNat, paramWord, paramByte], by decide⟩
/-- R129: with the park in flight an element's request and the next park each wait, and are handled in that order. -/
theorem test_escapement_queue :
    let e := (({ held := none, flight := some (0, .park), waiting := [] } : Escapement).request 5 .element).request 0 .park
    e.waiting = [(5, .element), (0, .park)] ∧
      e.ended (some 0) = { held := none, flight := some (5, .element), waiting := [(0, .park)] } := by decide
/-- R141: a FLASH fault of a line that a removal ends makes the Exposure Controller FAULTED while its turret turns. -/
theorem test_fault_while_ending :
    (outOf (exec .confirmationWindowExpiry ((lastFlash.withExc { lastFlash.exc with ending := some .removal }).withOpc
      { Optics.reset with turret :=
        { held := none, flight := some { target := 3, by_ := .exposure, drive := .forwardToSense }, waiting := [] } }))).any
      (fun t => t.exc.st == .faulted) = true := by decide
set_option maxRecDepth 20000 in
/-- R166, R168, R170: a READY and the PRINTED behind it are two events: the row begun in the first is removed in the second. -/
theorem test_ready_then_printed :
    let s := toBegin 0 false
    (outOf (exec (.printerFault { value := 0x50#8, after := [] }) (s.withPrc
      { s.prc with st := .waiting, ask := true, half := some .ready }))).any
      (fun t => t.sls.lastProofed == 1 && t.prc.out == [] && t.prc.room == 14) = true := by decide
/-- R136, R192: the last flash confirmed raises LINE, and its notice names it. -/
theorem test_line_done : (outOf (exec .photocellSense lastFlash)).any (fun t => t.link.flags == [.line]) = true := by decide
/-- R174, R192: silence in BEST mode raises SKIP. -/
theorem test_silence_best :
    (outOf (exec .grantTimerExpiry (silentPrinter .best))).any (fun t => t.prc.st == .skipping && t.link.flags == [.skip]) =
      true := by decide

end Sys2Proof.Tests
end

section
/-! SUPPORT and PROOF. The job parameters and the pending set: what each operation of the composer leaves of them, what no
command but JOB touches, and, with one induction over everything an event can do to the composer, that the glue stays in
order (R28 to R30). -/

namespace Sys2Proof.Machine

/-! ### The job parameters through the composer's own operations -/

@[simp] theorem setTask_job (t : Option Task) (s : State) :
    (setTask t s).cmp.job = s.cmp.job ∧ (setTask t s).cmp.pend = s.cmp.pend := ⟨rfl, rfl⟩

@[simp] theorem codeDone_job (c : Composer) (s : State) :
    (codeDone c s).cmp.job = c.job ∧ (codeDone c s).cmp.pend = c.pend := ⟨rfl, rfl⟩

@[simp] theorem stallRoom_job (s : State) :
    (stallRoom s).cmp.job = s.cmp.job ∧ (stallRoom s).cmp.pend = s.cmp.pend := ⟨rfl, rfl⟩

@[simp] theorem stallSetup_job (cause : StallCause) (s : State) :
    (stallSetup cause s).cmp.job = s.cmp.job ∧ (stallSetup cause s).cmp.pend = s.cmp.pend := by
  rcases stallSetup_cases cause s with ⟨_, h⟩ | ⟨_, h⟩ <;> simp [h]

@[simp] theorem flagLine_job (f : LineFlag) (c : Composer) : (c.flagLine f).job = c.job ∧ (c.flagLine f).pend = c.pend :=
  ⟨rfl, rfl⟩

@[simp] theorem onLine_job (f : OpenLine → OpenLine) (c : Composer) :
    (c.onLine f).job = c.job ∧ (c.onLine f).pend = c.pend := ⟨rfl, rfl⟩

@[simp] theorem setParam_job (f : LineSet → LineSet) (c : Composer) :
    (c.setParam f).job = c.job ∧ (c.setParam f).pend = c.pend := ⟨rfl, rfl⟩

@[simp] theorem setReturn_job (k : Fin 4) (c : Composer) :
    (c.setReturn k).job = c.job ∧ (c.setReturn k).pend = c.pend := by
  unfold Composer.setReturn
  (repeat' split) <;> simp

@[simp] theorem count_job (c : Composer) : c.count.job = c.job ∧ c.count.pend = c.pend := ⟨rfl, rfl⟩

@[simp] theorem push_job (i : WordItem) (c : Composer) : (c.push i).job = c.job ∧ (c.push i).pend = c.pend := ⟨rfl, rfl⟩

theorem resolveSize_job {o : Optics} {req : Nat} {c c' : Composer} (h : c.resolveSize o req = some c') :
    c'.job = c.job ∧ c'.pend = c.pend := by
  unfold Composer.resolveSize at h
  obtain ⟨⟨l, subst⟩, _, rfl⟩ := Option.map_eq_some_iff.mp h
  cases subst <;> simp

theorem withLens_job {o : Optics} {c c' : Composer} {l : LensSel} (h : c.withLens o = some (c', l)) :
    c'.job = c.job ∧ c'.pend = c.pend := by
  have again : ((c.resolveSize o c.size).bind fun c1 => c1.lens.map fun l => (c1, l)) = some (c', l) →
      c'.job = c.job ∧ c'.pend = c.pend := by
    intro h
    obtain ⟨c1, h1, h2⟩ := Option.bind_eq_some_iff.mp h
    obtain ⟨_, _, h3⟩ := Option.map_eq_some_iff.mp h2
    cases h3
    exact resolveSize_job h1
  unfold Composer.withLens at h
  dsimp only at h
  split at h
  · split at h
    · cases h
      exact ⟨rfl, rfl⟩
    · exact again h
  · exact again h

@[simp] theorem pushElem_job (byte : Byte) (mk : Fin 8 → LensSel → Elem) (s : State) :
    (pushElem byte mk s).cmp.job = s.cmp.job ∧ (pushElem byte mk s).cmp.pend = s.cmp.pend := by
  unfold pushElem
  split
  · simp
  · rename_i h
    simp [withLens_job h]

/-- No code touches the job parameters (R16 to R26). -/
@[simp] theorem actCode_job (byte : Byte) (code : Code) (s : State) :
    (actCode byte code s).cmp.job = s.cmp.job ∧ (actCode byte code s).cmp.pend = s.cmp.pend := by
  cases code with
  | size n =>
    dsimp only [actCode]
    split
    · simp
    · rename_i h
      simp [resolveSize_job h]
  | char slot =>
    dsimp only [actCode]
    split <;> simp
  | _ => simp [actCode]

@[simp] theorem closeLine_job (brk : BreakKind) (cut : Bool) (flags : List LineFlag) (rest : WordBuf)
    (carried : Option BreakOpp) (s : State) :
    (closeLine brk cut flags rest carried s).cmp.job = s.cmp.job ∧
      (closeLine brk cut flags rest carried s).cmp.pend = s.cmp.pend := by
  unfold closeLine
  split <;> simp

@[simp] theorem closeBefore_job (flags : List LineFlag) (opp : BreakOpp) (s : State) :
    (closeBefore flags opp s).cmp.job = s.cmp.job ∧ (closeBefore flags opp s).cmp.pend = s.cmp.pend := by
  simp [closeBefore]

@[simp] theorem enterStore_job (r : LineRecord) (s : State) :
    (enterStore r s).cmp.job = s.cmp.job ∧ (enterStore r s).cmp.pend = s.cmp.pend := by
  unfold enterStore
  split <;> simp

@[simp] theorem makeReferral_job (x : Exam) (opp : BreakOpp) (s : State) :
    (makeReferral x opp s).cmp.job = s.cmp.job ∧ (makeReferral x opp s).cmp.pend = s.cmp.pend := ⟨rfl, rfl⟩

@[simp] theorem examineStep_job (l : OpenLine) (opp : BreakOpp) (s : State) :
    (examineStep l opp s).cmp.job = s.cmp.job ∧ (examineStep l opp s).cmp.pend = s.cmp.pend := by
  dsimp only [examineStep]
  (repeat' split) <;> simp

@[simp] theorem placeStep_job (opp : BreakOpp) (s : State) :
    (placeStep opp s).cmp.job = s.cmp.job ∧ (placeStep opp s).cmp.pend = s.cmp.pend := by
  dsimp only [placeStep]
  (repeat' split) <;> simp

@[simp] theorem breakStep_job (b : Break) (flags : List LineFlag) (opp : BreakOpp) (s : State) :
    (breakStep b flags opp s).cmp.job = s.cmp.job ∧ (breakStep b flags opp s).cmp.pend = s.cmp.pend := by
  dsimp only [breakStep]
  (repeat' split) <;> simp

@[simp] theorem oversetStep_job (flags : List LineFlag) (opp : BreakOpp) (s : State) :
    (oversetStep flags opp s).cmp.job = s.cmp.job ∧ (oversetStep flags opp s).cmp.pend = s.cmp.pend := by
  dsimp only [oversetStep]
  (repeat' split) <;> simp

@[simp] theorem noBreakStep_job (flags : List LineFlag) (opp : BreakOpp) (s : State) :
    (noBreakStep flags opp s).cmp.job = s.cmp.job ∧ (noBreakStep flags opp s).cmp.pend = s.cmp.pend := by
  unfold noBreakStep
  (repeat' split) <;> simp

@[simp] theorem codeRead_job (s : State) :
    (codeRead s).cmp.job = s.cmp.job ∧ (codeRead s).cmp.pend = s.cmp.pend := by
  have gather : ∀ (c : Byte) (ps bytes : Text), (takeCode.gather s c ps bytes).cmp.job = s.cmp.job ∧
      (takeCode.gather s c ps bytes).cmp.pend = s.cmp.pend := by
    intro c ps bytes
    dsimp only [takeCode.gather]
    split <;> simp
  unfold codeRead takeCode
  (repeat' split) <;> simp [gather]

@[simp] theorem endReferral_job (how : LastEnd) (p : Option Position) (flags : List LineFlag) (s : State) :
    (endReferral how p flags s).cmp.job = s.cmp.job ∧ (endReferral how p flags s).cmp.pend = s.cmp.pend := by
  dsimp only [endReferral]
  split <;> simp

@[simp] theorem referralExpires_job (s : State) :
    (referralExpires s).cmp.job = s.cmp.job ∧ (referralExpires s).cmp.pend = s.cmp.pend := by
  unfold referralExpires
  split <;> simp

@[simp] theorem retrySetup_job (s : State) :
    (retrySetup s).cmp.job = s.cmp.job ∧ (retrySetup s).cmp.pend = s.cmp.pend := by
  rcases retrySetup_cases s with ⟨_, h⟩ | ⟨_, h⟩ <;> simp [h]

@[simp] theorem exposureAbort_cmp (s : State) : (exposureAbort s).cmp = s.cmp := by
  unfold exposureAbort
  split <;> simp

@[simp] theorem startAbort_job (form : HaltForm) (s : State) :
    (startAbort form s).cmp.job = s.cmp.job ∧ (startAbort form s).cmp.pend = s.cmp.pend := by
  simp [startAbort, Composer.abandon]

@[simp] theorem completeAbort_job (s : State) :
    (completeAbort s).cmp.job = s.cmp.job ∧ (completeAbort s).cmp.pend = s.cmp.pend := by
  simp [completeAbort, Composer.abortEnds]

/-! ### The line open, the one reaction that changes the job parameters -/

/-- The job parameters and the pending set stand as they did, or a line open has applied the pending set and emptied it
(R28, R29). -/
def Composer.JobFollows (c c' : Composer) : Prop :=
  (c'.job = c.job ∧ c'.pend = c.pend) ∨ (c'.job = c.job.apply c.pend ∧ c'.pend = .empty)

theorem openLine_job (s : State) :
    (openLine s).cmp.job = s.cmp.job.apply s.cmp.pend ∧ (openLine s).cmp.pend = .empty := ⟨rfl, rfl⟩

/-- What keeps the parameters once a line is ensured open follows them. -/
theorem jobFollows_of_ensureOpen {s t : State}
    (h : t.cmp.job = (ensureOpen s).cmp.job ∧ t.cmp.pend = (ensureOpen s).cmp.pend) : s.cmp.JobFollows t.cmp := by
  unfold ensureOpen at h
  split at h
  · exact Or.inl h
  · exact Or.inr h

theorem codeStep_job (byte : Byte) (ps : Text) (s : State) : s.cmp.JobFollows (codeStep byte ps s).cmp := by
  refine jobFollows_of_ensureOpen ?_
  dsimp only [codeStep]
  split <;> simp

theorem fitStep_job (opp : BreakOpp) (s : State) : s.cmp.JobFollows (fitStep opp s).cmp := by
  refine jobFollows_of_ensureOpen ?_
  dsimp only [fitStep]
  (repeat' split) <;> simp

theorem afterStep_job (opp : BreakOpp) (s : State) : s.cmp.JobFollows (afterStep opp s).cmp := by
  cases opp with
  | space size => exact Or.inl ⟨rfl, rfl⟩
  | ending k => exact jobFollows_of_ensureOpen (by cases k <;> simp [afterStep])
  | split byte ps => exact jobFollows_of_ensureOpen ⟨rfl, rfl⟩

theorem offerStep_job (r : LineRecord) (carried : Option BreakOpp) (s : State) :
    s.cmp.JobFollows (offerStep r carried s).cmp := by
  dsimp only [offerStep]
  split
  · exact Or.inl (by simp)
  · split
    · exact Or.inl (by simp)
    · split
      · exact Or.inl (by simp)
      · exact Or.inr (by simp [openLine_job])

theorem taskStep_job (t : Task) (s : State) : s.cmp.JobFollows (taskStep t s).cmp := by
  cases t with
  | code byte ps => exact codeStep_job byte ps s
  | fit opp => exact fitStep_job opp s
  | after opp => exact afterStep_job opp s
  | offer r carried => exact offerStep_job r carried s
  | place opp => exact Or.inl (placeStep_job opp s)
  | brk b flags opp => exact Or.inl (breakStep_job b flags opp s)
  | noBreak flags opp => exact Or.inl (noBreakStep_job flags opp s)
  | overset flags opp => exact Or.inl (oversetStep_job flags opp s)
  | decision opp => exact Or.inl ⟨rfl, rfl⟩

theorem composerRest_job {s t : State} (h : composerRest s = some t) :
    t.cmp.job = s.cmp.job ∧ t.cmp.pend = s.cmp.pend := by
  unfold composerRest at h
  (repeat' split at h) <;> cases h <;> exact ⟨rfl, rfl⟩

theorem abortReact_job {s t : State} (h : abortReact s = some t) : t.cmp.job = s.cmp.job ∧ t.cmp.pend = s.cmp.pend := by
  unfold abortReact at h
  split at h
  · cases h
    exact completeAbort_job s
  · cases h

/-- Every reaction leaves the job parameters and the pending set, or opens a line. -/
theorem react_job {s t : State} (h : react s = some t) : s.cmp.JobFollows t.cmp := by
  rcases react_cases h with h | h | h | h | h | h | h | h
  · exact Or.inl (by simp [exposureReact_frame s t h])
  · exact Or.inl (by simp [surveyReact_frame s t h])
  · exact Or.inl (by simp [releaseOldest_frame s t h])
  · exact Or.inl (by simp [skipReact_frame s t h])
  · rcases composerStep_cases h with ⟨k, _, _, rfl⟩ | ⟨_, _, _, _, rfl⟩
    · exact taskStep_job k s
    · exact Or.inl ⟨rfl, rfl⟩
  · exact Or.inl (by simp [exposureTake_frame s t h])
  · exact Or.inl (composerRest_job h)
  · exact Or.inl (abortReact_job h)

/-! ### The commands that leave the composer as it is -/

@[simp] theorem textBody_cmp (payload : Text) (s : State) : (textBody payload s).1.cmp = s.cmp := by
  dsimp only [textBody]
  (repeat' split) <;> simp

@[simp] theorem pairsBody_cmp (params : List Text) (s : State) : (pairsBody params s).1.cmp = s.cmp := by
  unfold pairsBody
  (repeat' split) <;> simp

@[simp] theorem dictAddBody_cmp (params : List Text) (s : State) : (dictAddBody params s).1.cmp = s.cmp := by
  dsimp only [dictAddBody]
  (repeat' split) <;> simp

@[simp] theorem dictDelBody_cmp (params : List Text) (s : State) : (dictDelBody params s).1.cmp = s.cmp := by
  dsimp only [dictDelBody]
  (repeat' split) <;> simp

@[simp] theorem dictClearBody_cmp (params : List Text) (s : State) : (dictClearBody params s).1.cmp = s.cmp := by
  dsimp only [dictClearBody]
  split <;> simp

@[simp] theorem dictGetBody_cmp (params : List Text) (s : State) : (dictGetBody params s).1.cmp = s.cmp := by
  unfold dictGetBody
  (repeat' split) <;> simp

@[simp] theorem dictListBody_cmp (params : List Text) (s : State) : (dictListBody params s).1.cmp = s.cmp := by
  unfold dictListBody
  (repeat' split) <;> simp

@[simp] theorem lineBody_cmp (params : List Text) (s : State) : (lineBody params s).1.cmp = s.cmp := by
  unfold lineBody
  (repeat' split) <;> simp

@[simp] theorem widthsBody_cmp (params : List Text) (s : State) : (widthsBody params s).1.cmp = s.cmp := by
  dsimp only [widthsBody]
  (repeat' split) <;> simp

@[simp] theorem unmountBody_cmp (params : List Text) (s : State) : (unmountBody params s).1.cmp = s.cmp := by
  unfold unmountBody
  (repeat' split) <;> simp

@[simp] theorem takeSurvey_cmp (s : State) : (takeSurvey s).cmp = s.cmp := by
  unfold takeSurvey
  split <;> simp

@[simp] theorem surveyBody_cmp (params : List Text) (s : State) : (surveyBody params s).1.cmp = s.cmp := by
  unfold surveyBody
  (repeat' split) <;> simp

@[simp] theorem opticsBody_cmp (params : List Text) (s : State) : (opticsBody params s).1.cmp = s.cmp := by
  unfold opticsBody
  split <;> simp

@[simp] theorem restBody_cmp (params : List Text) (s : State) : (restBody params s).1.cmp = s.cmp := by
  unfold restBody
  (repeat' split) <;> simp

@[simp] theorem wakeBody_cmp (params : List Text) (s : State) : (wakeBody params s).1.cmp = s.cmp := by
  unfold wakeBody
  split <;> simp

@[simp] theorem stopHard_cmp (s : State) : (stopHard s).cmp = s.cmp := by
  simp [stopHard]

@[simp] theorem takeStop_cmp (form : HaltForm) (s : State) : (takeStop form s).cmp = s.cmp := by
  unfold takeStop
  (repeat' split) <;> simp

@[simp] theorem stopBody_cmp (params : List Text) (s : State) : (stopBody params s).1.cmp = s.cmp := by
  unfold stopBody
  (repeat' split) <;> simp

@[simp] theorem resume_cmp (s : State) : (resume s).cmp = s.cmp := by
  dsimp only [resume]
  (repeat' split) <;> simp

@[simp] theorem resumeBody_cmp (params : List Text) (s : State) : (resumeBody params s).1.cmp = s.cmp := by
  unfold resumeBody
  (repeat' split) <;> simp

@[simp] theorem tempsBody_cmp (params : List Text) (s : State) : (tempsBody params s).1.cmp = s.cmp := by
  unfold tempsBody
  (repeat' split) <;> simp

@[simp] theorem intensityBody_cmp (params : List Text) (s : State) : (intensityBody params s).1.cmp = s.cmp := by
  unfold intensityBody
  (repeat' split) <;> simp

@[simp] theorem loadCassette_cmp (inches : Nat) (s : State) : (loadCassette inches s).cmp = s.cmp := by
  simp [loadCassette]

@[simp] theorem cassetteBody_cmp (params : List Text) (s : State) : (cassetteBody params s).1.cmp = s.cmp := by
  dsimp only [cassetteBody]
  (repeat' split) <;> simp

@[simp] theorem feedCutBody_cmp (params : List Text) (s : State) : (feedCutBody params s).1.cmp = s.cmp := by
  unfold feedCutBody
  (repeat' split) <;> simp

@[simp] theorem transportBody_cmp (params : List Text) (s : State) : (transportBody params s).1.cmp = s.cmp := by
  unfold transportBody
  split <;> simp

@[simp] theorem printerBody_cmp (params : List Text) (s : State) : (printerBody params s).1.cmp = s.cmp := by
  unfold printerBody
  split <;> simp

@[simp] theorem resetBody_cmp (params : List Text) (s : State) : (resetBody params s).1.cmp = s.cmp := by
  unfold resetBody
  split <;> simp

@[simp] theorem tune_cmp (s : State) (p : TuneKey × TuneValue) : (tune s p).cmp = s.cmp := by
  unfold tune
  split <;> simp

@[simp] theorem tuneAll_cmp (ps : List (TuneKey × TuneValue)) (s : State) : (tuneAll ps s).cmp = s.cmp := by
  unfold tuneAll
  generalize (ps.filter fun p => !p.1.isProof) ++ ps.filter (fun p => p.1.isProof) = qs
  induction qs generalizing s with
  | nil => rfl
  | cons q qs ih => rw [List.foldl_cons, ih, tune_cmp]

@[simp] theorem tuneBody_cmp (params : List Text) (s : State) : (tuneBody params s).1.cmp = s.cmp := by
  unfold tuneBody
  (repeat' split) <;> simp

@[simp] theorem clearBody_cmp (params : List Text) (s : State) : (clearBody params s).1.cmp = s.cmp := by
  dsimp only [clearBody]
  split <;> simp

@[simp] theorem statusBody_cmp (params : List Text) (s : State) : (statusBody params s).1.cmp = s.cmp := by
  unfold statusBody
  split <;> simp

@[simp] theorem faultsBody_cmp (params : List Text) (s : State) : (faultsBody params s).1.cmp = s.cmp := by
  unfold faultsBody
  split <;> simp

@[simp] theorem capsBody_cmp (params : List Text) (s : State) : (capsBody params s).1.cmp = s.cmp := by
  unfold capsBody
  split <;> simp

@[simp] theorem exposureRetry_cmp (s : State) : (exposureRetry s).cmp = s.cmp := by
  unfold exposureRetry
  (repeat' split) <;> simp

@[simp] theorem surveyRetry_cmp (s : State) : (surveyRetry s).cmp = s.cmp := by
  unfold surveyRetry
  split <;> simp

@[simp] theorem clearFault_cmp (b : FaultBlock) (s : State) : (clearFault b s).cmp = s.cmp := by
  cases b <;> simp [clearFault]

@[simp] theorem clearFaultBody_cmp (params : List Text) (s : State) : (clearFaultBody params s).1.cmp = s.cmp := by
  unfold clearFaultBody
  (repeat' split) <;> simp

/-! ### The commands that act on the composer -/

@[simp] theorem faceBody_job (params : List Text) (s : State) :
    (faceBody params s).1.cmp.job = s.cmp.job ∧ (faceBody params s).1.cmp.pend = s.cmp.pend := by
  dsimp only [faceBody]
  (repeat' split) <;> simp

@[simp] theorem lensBody_job (params : List Text) (s : State) :
    (lensBody params s).1.cmp.job = s.cmp.job ∧ (lensBody params s).1.cmp.pend = s.cmp.pend := by
  unfold lensBody
  (repeat' split) <;> simp

@[simp] theorem decideBody_job (params : List Text) (s : State) :
    (decideBody params s).1.cmp.job = s.cmp.job ∧ (decideBody params s).1.cmp.pend = s.cmp.pend := by
  unfold decideBody
  (repeat' split) <;> simp

@[simp] theorem abortBody_job (params : List Text) (s : State) :
    (abortBody params s).1.cmp.job = s.cmp.job ∧ (abortBody params s).1.cmp.pend = s.cmp.pend := by
  unfold abortBody
  (repeat' split) <;> simp

/-- No command but JOB touches the job parameters or the pending set (R29). -/
theorem commandBody_job {k : Keyword} (hk : k ≠ .job) (params : List Text) (s : State) :
    (commandBody k params s).1.cmp.job = s.cmp.job ∧ (commandBody k params s).1.cmp.pend = s.cmp.pend := by
  cases k with
  | job => exact absurd rfl hk
  | _ => simp [commandBody]

/-- A JOB is refused with nothing entered, or its pairs, in range and with the merged glue in order where they give any,
enter the pending set (R29, R30). -/
theorem jobBody_cases (params : List Text) (s : State) :
    (∃ r, jobBody params s = refuse r s) ∨
      ∃ ps, parseJob params = some ps ∧ ps.all jobInRange = true ∧ glueTest ps s.cmp = true ∧
        jobBody params s = (s.withCmp { s.cmp with pend := s.cmp.pend.enterAll ps }, ok) := by
  unfold jobBody
  split
  · exact Or.inl ⟨_, rfl⟩
  · rename_i ps hp
    split
    · rename_i h
      obtain ⟨hrange, hglue⟩ := (Bool.and_eq_true _ _).mp h
      exact Or.inr ⟨ps, hp, hrange, hglue, rfl⟩
    · exact Or.inl ⟨_, rfl⟩

/-- A JOB whose pairs fail the glue test is refused RANGE. -/
theorem jobBody_range {params : List Text} {ps : List (JobKey × JobValue)} {s : State} (hp : parseJob params = some ps)
    (h : glueTest ps s.cmp = false) : jobBody params s = refuse .range s := by
  simp [jobBody, hp, h]

/-- A record leaves the composer as it is, or is a command that is carried out (R189). -/
theorem recordBody_cases (r : LinkRecord) (s : State) :
    (recordBody r s).1.cmp = s.cmp ∨ ∃ k params, recordBody r s = commandBody k params s := by
  cases r with
  | bad => exact Or.inl rfl
  | text payload => exact Or.inl (textBody_cmp payload s)
  | unknown word params =>
    dsimp only [recordBody]
    split <;> exact Or.inl rfl
  | command k params =>
    dsimp only [recordBody]
    split
    · exact Or.inr ⟨k, params, rfl⟩
    · exact Or.inl rfl

/-! ### Everything a step can do to the composer -/

@[simp] theorem countArrives_cmp (s : State) : (countArrives s).cmp = s.cmp := by
  dsimp only [countArrives]
  (repeat' split) <;> simp

@[simp] theorem remainingCounts_cmp (s : State) : (remainingCounts s).cmp = s.cmp := by
  dsimp only [remainingCounts]
  split <;> simp

@[simp] theorem photocell_cmp (s : State) : (photocell s).cmp = s.cmp := by
  unfold photocell
  split <;> simp

@[simp] theorem windowEnds_cmp (s : State) : (windowEnds s).cmp = s.cmp := by
  unfold windowEnds
  split <;> simp

@[simp] theorem charged_cmp (s : State) : (charged s).cmp = s.cmp := by
  unfold charged
  split <;> simp

@[simp] theorem spinUpExpires_cmp (s : State) : (spinUpExpires s).cmp = s.cmp := by
  unfold spinUpExpires
  split <;> simp

@[simp] theorem monitorExpires_cmp (s : State) : (monitorExpires s).cmp = s.cmp := by
  unfold monitorExpires
  split <;> simp

@[simp] theorem restExpires_cmp (s : State) : (restExpires s).cmp = s.cmp := by
  unfold restExpires
  split <;> simp

@[simp] theorem portFree_cmp (s : State) : (portFree s).cmp = s.cmp := rfl

@[simp] theorem setRx_cmp (rx : Receiver) (s : State) : (setRx rx s).cmp = s.cmp := rfl

@[simp] theorem gapExpires_cmp (s : State) : (gapExpires s).cmp = s.cmp := by
  unfold gapExpires
  split <;> simp

/-- All that a command of the table can be: a record, an event that leaves the composer, bytes of the link, a code read, a
referral's lapse, bytes of the printer, the end of a frame sent, or a power-on reset. -/
theorem exec_cases (c : Instr) (s : State) :
    (∃ r, exec c s = recordEvent r s) ∨ (∃ u, u.cmp = s.cmp ∧ exec c s = event s u) ∨
      (∃ bs u, u.cmp = (feed bs s).cmp ∧ exec c s = event s u) ∨ exec c s = event s (codeRead s) ∨
      exec c s = event s (referralExpires s) ∨ (∃ bs, exec c s = .next (printerBytes bs s)) ∨
      exec c s = .next (frameEnds s) ∨ ∃ b a, exec c s = execPowerOnReset b a s := by
  cases c with
  | gapTimerExpiry _ => exact Or.inr (Or.inr (Or.inl ⟨_, _, gapExpires_cmp _, rfl⟩))
  | lengthByteAbove250 _ _ => exact Or.inr (Or.inr (Or.inl ⟨_, _, rfl, rfl⟩))
  | textCodeRead => exact Or.inr (Or.inr (Or.inr (Or.inl rfl)))
  | referralTimerExpiry => exact Or.inr (Or.inr (Or.inr (Or.inr (Or.inl rfl))))
  | printerReady _ | printed | printerFault _ =>
    exact Or.inr (Or.inr (Or.inr (Or.inr (Or.inr (Or.inl ⟨_, rfl⟩)))))
  | transmitFrameEnd => exact Or.inr (Or.inr (Or.inr (Or.inr (Or.inr (Or.inr (Or.inl rfl))))))
  | powerOnReset _ _ => exact Or.inr (Or.inr (Or.inr (Or.inr (Or.inr (Or.inr (Or.inr ⟨_, _, rfl⟩))))))
  | encoderCount | slotArrival | photocellSense | confirmationWindowExpiry | chargeSense | opticsOperationComplete _
  | opticsOperationTimeout _ | escapementComplete | escapementTimeout | doorSensorChange _ | doorDebounceExpiry
  | drumIndex _ _ _ | spinUpTimerExpiry | stallMonitorExpiry | restTimerExpiry | cassetteSensorChange _
  | cassetteDebounceExpiry | stepperComplete | moveTimeout | cutterComplete | cutterTimeout | proofMessageEnd
  | grantTimerExpiry => exact Or.inr (Or.inl ⟨_, by simp, rfl⟩)
  | _ => exact Or.inl ⟨_, rfl⟩

section ComposerInduction

variable {P : Composer → Prop}

/-- What the reactions preserve of the composer, the rest of an event preserves. -/
theorem finish_cmp_induct (hreact : ∀ s t, react s = some t → P s.cmp → P t.cmp) (s : State) {u : State} (h : P u.cmp) :
    P (finish s u).cmp :=
  finish_induct (P := fun t => P t.cmp) hreact (by simp) (by simp) (by simp) (by simp) (by simp) s u h

theorem takeRecord_cmp_induct (hbody : ∀ r s, P s.cmp → P (recordBody r s).1.cmp) (r : LinkRecord) {s : State}
    (h : P s.cmp) : P (takeRecord r s).cmp := hbody r s h

theorem receive_cmp_induct (hbody : ∀ r s, P s.cmp → P (recordBody r s).1.cmp) (r : LinkRecord) {s : State}
    (h : P s.cmp) : P (receive r s).cmp := by
  rcases receive_cases r s with ⟨_, e⟩ | ⟨_, _, e⟩ | ⟨_, e⟩ | ⟨_, _, _, e⟩ <;> rw [e]
  · exact h
  · exact h
  · exact takeRecord_cmp_induct hbody r h
  · exact h

theorem feedByte_cmp_induct (hbody : ∀ r s, P s.cmp → P (recordBody r s).1.cmp) (b : Byte) {s : State} (h : P s.cmp) :
    P (feedByte s b).cmp := by
  dsimp only [feedByte]
  split
  · exact h
  · split <;> exact h
  · split
    · exact h
    · split
      · exact receive_cmp_induct hbody _ h
      · exact h

theorem feed_cmp_induct (hbody : ∀ r s, P s.cmp → P (recordBody r s).1.cmp) (bs : Text) {s : State} (h : P s.cmp) :
    P (feed bs s).cmp := by
  unfold feed
  induction bs generalizing s with
  | nil => exact h
  | cons b bs ih => exact ih (feedByte_cmp_induct hbody b h)

theorem takeWaiting_cmp_induct (hbody : ∀ r s, P s.cmp → P (recordBody r s).1.cmp) {s : State} (h : P s.cmp) :
    P (takeWaiting s).cmp := by
  unfold takeWaiting
  split
  · split
    · split
      · exact h
      · exact takeRecord_cmp_induct hbody _ h
    · exact h
  · exact h

theorem frameEnds_cmp_induct (hreset : P .reset) (hbody : ∀ r s, P s.cmp → P (recordBody r s).1.cmp)
    (hreact : ∀ s t, react s = some t → P s.cmp → P t.cmp) {s : State} (h : P s.cmp) : P (frameEnds s).cmp := by
  unfold frameEnds
  split
  · exact h
  · split
    · exact hreset
    · exact finish_cmp_induct hreact s (takeWaiting_cmp_induct hbody (by simpa using h))

theorem printerBytes_cmp_induct (hreact : ∀ s t, react s = some t → P s.cmp → P t.cmp) (bs : Text) {s : State}
    (h : P s.cmp) : P (printerBytes bs s).cmp := by
  induction bs generalizing s with
  | nil => exact h
  | cons b bs ih =>
    refine ih ?_
    have hb : P (printerByte s b).cmp := by simpa using h
    unfold byteRead
    split
    · exact finish_cmp_induct hreact s hb
    · exact hb

/-- What a reset establishes of the composer, and a record taken, a reaction, a code read and a referral's lapse preserve,
every step preserves. -/
theorem step_cmp_induct (hreset : P .reset) (hbody : ∀ r s, P s.cmp → P (recordBody r s).1.cmp)
    (hreact : ∀ s t, react s = some t → P s.cmp → P t.cmp) (hread : ∀ s, P s.cmp → P (codeRead s).cmp)
    (hlapse : ∀ s, P s.cmp → P (referralExpires s).cmp) {s t : State} (hs : step s = .next t) (h : P s.cmp) :
    P t.cmp := by
  rcases step_cases hs with ⟨_, e⟩ | ⟨c, cs, _, e⟩
  · cases e
    exact h
  · replace h : P (s.withPending cs).cmp := h
    generalize s.withPending cs = s at h e
    have hevent : ∀ u, P u.cmp → Host.Outcome.next t = event s u → P t.cmp := fun u hu e =>
      Host.Outcome.next.inj e ▸ finish_cmp_induct hreact s hu
    rcases exec_cases c s with ⟨r, hc⟩ | ⟨u, hu, hc⟩ | ⟨bs, u, hu, hc⟩ | hc | hc | ⟨bs, hc⟩ | hc | ⟨b, a, hc⟩ <;>
      rw [hc] at e
    · exact hevent _ (receive_cmp_induct hbody r h) e
    · exact hevent u (hu ▸ h) e
    · exact hevent u (hu ▸ feed_cmp_induct hbody bs h) e
    · exact hevent _ (hread s h) e
    · exact hevent _ (hlapse s h) e
    · exact Host.Outcome.next.inj e ▸ printerBytes_cmp_induct hreact bs h
    · exact Host.Outcome.next.inj e ▸ frameEnds_cmp_induct hreset hbody hreact h
    · exact Host.Outcome.next.inj e ▸ hreset

end ComposerInduction

/-! ### The glue (R30) -/

/-- The glue of the composer, as it stands and as the pending set will leave it, is in order (R30). -/
def Composer.GlueInOrder (c : Composer) : Prop := c.job.glueOk = true ∧ (c.job.apply c.pend).glueOk = true

theorem glueInOrder_iff (s : State) : GlueInOrder s ↔ s.cmp.GlueInOrder := Iff.rfl

@[simp] theorem apply_empty (j : Job) : j.apply .empty = j := rfl

/-- Applying the pending set brings the merged glue, which is in order (R28). -/
theorem Composer.JobFollows.glueInOrder {c c' : Composer} (hc : c.JobFollows c') (h : c.GlueInOrder) :
    c'.GlueInOrder := by
  unfold Composer.GlueInOrder at *
  rcases hc with ⟨hj, hp⟩ | ⟨hj, hp⟩ <;> rw [hj, hp]
  · exact h
  · exact ⟨h.2, h.2⟩

/-- The value of a glue key held in a pending set, if one is. -/
def PendingJob.glueHeld (k : JobKey) (p : PendingJob) : Option Nat :=
  match k with
  | .wsMin => p.wsMin
  | .wsOpt => p.wsOpt
  | .wsMax => p.wsMax
  | _ => none

@[simp] theorem glueHeld_wsMin (p : PendingJob) : p.glueHeld .wsMin = p.wsMin := rfl
@[simp] theorem glueHeld_wsOpt (p : PendingJob) : p.glueHeld .wsOpt = p.wsOpt := rfl
@[simp] theorem glueHeld_wsMax (p : PendingJob) : p.glueHeld .wsMax = p.wsMax := rfl

/-- A pair gives a glue key its value, or leaves what is held. -/
theorem enter_glueHeld {k : JobKey} (hk : k.isGlue = true) (q : JobKey × JobValue) (p : PendingJob) :
    (p.enter q).glueHeld k = ((jobGives k [q]).map Int.toNat).or (p.glueHeld k) := by
  obtain ⟨k', v⟩ := q
  cases k with
  | wsMin | wsOpt | wsMax => cases v <;> cases k' <;> rfl
  | _ => cases hk

theorem jobGives_cons (k : JobKey) (q : JobKey × JobValue) (ps : List (JobKey × JobValue)) :
    jobGives k (q :: ps) = (jobGives k [q]).or (jobGives k ps) := by
  unfold jobGives
  rw [List.findSome?_cons, List.findSome?_cons, List.findSome?_nil]
  split <;> simp_all

/-- Pairs of other keys give a key nothing. -/
theorem jobGives_eq_none {k : JobKey} {ps : List (JobKey × JobValue)} (h : ∀ q ∈ ps, q.1 ≠ k) : jobGives k ps = none := by
  unfold jobGives
  rw [List.findSome?_eq_none_iff]
  intro q hq
  split
  · rw [if_neg (h _ hq)]
  · rfl

/-- The pairs of a JOB, each key once, give a glue key its value, or leave what is held (R29, R30). -/
theorem enterAll_glueHeld {k : JobKey} (hk : k.isGlue = true) {ps : List (JobKey × JobValue)} (h : keyTwice ps = false)
    (p : PendingJob) : (p.enterAll ps).glueHeld k = ((jobGives k ps).map Int.toNat).or (p.glueHeld k) := by
  induction ps generalizing p with
  | nil => rfl
  | cons q ps ih =>
    simp only [keyTwice, Bool.or_eq_false_iff, List.any_eq_false, beq_iff_eq] at h
    obtain ⟨honce, hrest⟩ := h
    have hfirst : (p.enterAll (q :: ps)).glueHeld k =
        ((jobGives k ps).map Int.toNat).or (((jobGives k [q]).map Int.toNat).or (p.glueHeld k)) := by
      rw [← enter_glueHeld hk]
      exact ih hrest (p.enter q)
    rw [hfirst, jobGives_cons k q ps]
    by_cases hkey : q.1 = k
    · have hnone : jobGives k ps = none := jobGives_eq_none fun r hr => hkey ▸ honce r hr
      simp [hnone]
    · have hnone : jobGives k [q] = none := jobGives_eq_none (by simpa using hkey)
      simp [hnone]

/-- Pairs without a glue key leave the glue that is held. -/
theorem enterAll_glueHeld_of_no_glue {k : JobKey} (hk : k.isGlue = true) {ps : List (JobKey × JobValue)}
    (h : (ps.any fun q => q.1.isGlue) = false) (p : PendingJob) : (p.enterAll ps).glueHeld k = p.glueHeld k := by
  induction ps generalizing p with
  | nil => rfl
  | cons q ps ih =>
    simp only [List.any_cons, Bool.or_eq_false_iff] at h
    obtain ⟨hq, hrest⟩ := h
    have hkey : q.1 ≠ k := fun e => by simp [e, hk] at hq
    calc ((p.enter q).enterAll ps).glueHeld k = (p.enter q).glueHeld k := ih hrest (p.enter q)
      _ = p.glueHeld k := by
        rw [enter_glueHeld hk, jobGives_eq_none (by simpa using hkey), Option.map_none, Option.none_or]

/-- The merged glue is the glue that is held over the current one. -/
theorem apply_glueOk (j : Job) (p : PendingJob) :
    (j.apply p).glueOk = decide ((p.glueHeld .wsMin).getD j.wsMin ≤ (p.glueHeld .wsOpt).getD j.wsOpt ∧
      (p.glueHeld .wsOpt).getD j.wsOpt ≤ (p.glueHeld .wsMax).getD j.wsMax) := rfl

/-- A JOB that passes the glue test leaves the merged glue in order: it gives glue keys and was tested, or the glue held is
the one there was. -/
theorem enterAll_glueOk {ps : List (JobKey × JobValue)} {c : Composer} (ht : glueTest ps c = true)
    (h : (c.job.apply c.pend).glueOk = true) : (c.job.apply (c.pend.enterAll ps)).glueOk = true := by
  cases hg : ps.any fun q => q.1.isGlue with
  | true => simpa [glueTest, hg] using ht
  | false =>
    rw [apply_glueOk] at h ⊢
    simpa only [enterAll_glueHeld_of_no_glue (k := .wsMin) rfl hg, enterAll_glueHeld_of_no_glue (k := .wsOpt) rfl hg,
      enterAll_glueHeld_of_no_glue (k := .wsMax) rfl hg] using h

theorem jobBody_glueInOrder (params : List Text) {s : State} (h : s.cmp.GlueInOrder) :
    (jobBody params s).1.cmp.GlueInOrder := by
  rcases jobBody_cases params s with ⟨r, e⟩ | ⟨ps, _, _, ht, e⟩ <;> rw [e]
  · exact h
  · exact ⟨h.1, enterAll_glueOk ht h.2⟩

theorem recordBody_glueInOrder (r : LinkRecord) (s : State) (h : s.cmp.GlueInOrder) :
    (recordBody r s).1.cmp.GlueInOrder := by
  rcases recordBody_cases r s with e | ⟨k, params, e⟩
  · rw [e]
    exact h
  · rw [e]
    by_cases hk : k = .job
    · subst hk
      exact jobBody_glueInOrder params h
    · exact Composer.JobFollows.glueInOrder (Or.inl (commandBody_job hk params s)) h

/-- Every step keeps the glue in order, as it stands and as the pending set will leave it (R30). -/
theorem step_glueInOrder {s t : State} (h : GlueInOrder s) (hs : step s = .next t) : GlueInOrder t :=
  step_cmp_induct (P := Composer.GlueInOrder) (by unfold Composer.GlueInOrder; decide) recordBody_glueInOrder
    (fun _ _ hr => (react_job hr).glueInOrder) (fun s => Composer.JobFollows.glueInOrder (Or.inl (codeRead_job s)))
    (fun s => Composer.JobFollows.glueInOrder (Or.inl (referralExpires_job s))) hs h

/-- A JOB whose merged glue is out of order is refused RANGE, with nothing entered (R30). -/
theorem job_refused_of_glue {params : List Text} {ps : List (JobKey × JobValue)} {s : State} (hs : LinkReady s)
    (hc : params.all cleanWord = true) (hp : parseJob params = some ps) (ht : glueTest ps s.cmp = false) :
    exec (.job params) s = .next (finish s (answered (ascii "NO RANGE") (heard s))) := by
  rw [← no_range]
  exact commandEvent_of_ready hs hc (jobBody_range hp ht) hs.1

/-- Settles O27: the glue test of JOB guards what enters the pending set, and a line open brings no other glue than the
merged one. -/
theorem glueStaysInOrder : Obligations.GlueStaysInOrder := by
  unfold Obligations.GlueStaysInOrder
  refine ⟨?_, ⟨by decide, by decide⟩, fun s t => step_glueInOrder, ?_, fun j p => ⟨rfl, rfl, rfl⟩⟩
  · intro params ps s hs hc hp hg hout
    have ht : glueTest ps s.cmp = false := by simpa [glueTest, hg, Job.glueOk] using hout
    exact job_refused_of_glue hs hc hp ht
  · intro p ps h
    exact ⟨enterAll_glueHeld (k := .wsMin) rfl h p, enterAll_glueHeld (k := .wsOpt) rfl h p,
      enterAll_glueHeld (k := .wsMax) rfl h p⟩

end Sys2Proof.Machine
end

section
/-! SUPPORT and PROOF. The ladder count (R49): what each operation of the composer leaves of the count, of the job
parameters and of the step in hand, that a hyphen-ended record comes only from below LADDER, and so that the count never
exceeds a nonzero LADDER. -/

namespace Sys2Proof.Machine

/-! ### The promise, read off the composer alone -/

/-- The step in hand, if there is one, may bring a hyphen-ended record. -/
def Composer.mayHyphenate (c : Composer) : Bool := c.task.any Task.mayHyphenate

/-- The ladder count is at most 255 and does not exceed a nonzero LADDER (R49). -/
def Composer.LadderWithin (c : Composer) : Prop := c.ladder ≤ 255 ∧ (c.job.ladder = 0 ∨ c.ladder ≤ c.job.ladder)

/-- The count is within its limits, and a step that may hyphenate stands only below LADDER. -/
def Composer.LadderKept (c : Composer) : Prop := c.LadderWithin ∧ (c.mayHyphenate = true → c.belowLadder)

theorem ladderKept_iff (s : State) : LadderKept s ↔ s.cmp.LadderKept := by
  have htask : (∀ t, s.cmp.task = some t → t.mayHyphenate = true → s.cmp.belowLadder) ↔
      (s.cmp.mayHyphenate = true → s.cmp.belowLadder) := by
    cases h : s.cmp.task <;> simp [Composer.mayHyphenate, h]
  unfold LadderKept Composer.LadderKept Composer.LadderWithin
  rw [htask, and_assoc]

/-- With no step that may hyphenate in hand, the limits are all there is to keep. -/
theorem Composer.LadderWithin.kept {c : Composer} (h : c.LadderWithin) (ht : c.mayHyphenate = false) : c.LadderKept :=
  ⟨h, fun hm => absurd hm (by simp [ht])⟩

/-- A count of 0 is within every LADDER and below every nonzero one. -/
theorem Composer.ladderKept_of_zero {c : Composer} (h : c.ladder = 0) : c.LadderKept := by
  unfold Composer.LadderKept Composer.LadderWithin Composer.belowLadder
  omega

theorem attempt_iff (c : Composer) : c.attempt = true ↔ c.job.hyph = true ∧ c.hyph = true ∧ c.belowLadder := by
  simp [Composer.attempt, Composer.belowLadder, and_assoc]

/-! ### Operations that leave the count -/

/-- The job parameters and the count stand, and a step in hand that may hyphenate was there before or comes from below
LADDER. -/
def Composer.LadderFollows (c c' : Composer) : Prop :=
  c'.job = c.job ∧ c'.ladder = c.ladder ∧ (c'.mayHyphenate = true → c.mayHyphenate = true ∨ c.belowLadder)

theorem Composer.LadderFollows.kept {c c' : Composer} (hf : c.LadderFollows c') (h : c.LadderKept) : c'.LadderKept := by
  obtain ⟨hjob, hladder, htask⟩ := hf
  obtain ⟨hwithin, hbelow⟩ := h
  unfold Composer.LadderKept Composer.LadderWithin Composer.belowLadder
  rw [hjob, hladder]
  exact ⟨hwithin, fun hm => (htask hm).elim hbelow id⟩

theorem Composer.LadderFollows.of_task_eq {c c' : Composer} (hj : c'.job = c.job) (hl : c'.ladder = c.ladder)
    (ht : c'.task = c.task) : c.LadderFollows c' :=
  ⟨hj, hl, fun hm => Or.inl (by unfold Composer.mayHyphenate at *; rwa [← ht])⟩

theorem Composer.LadderFollows.of_cmp_eq {c c' : Composer} (h : c' = c) : c.LadderFollows c' :=
  .of_task_eq (by rw [h]) (by rw [h]) (by rw [h])

theorem Composer.LadderFollows.of_not_mayHyphenate {c c' : Composer} (hj : c'.job = c.job) (hl : c'.ladder = c.ladder)
    (ht : c'.mayHyphenate = false) : c.LadderFollows c' :=
  ⟨hj, hl, fun hm => absurd hm (by simp [ht])⟩

theorem Composer.LadderFollows.of_belowLadder {c c' : Composer} (hj : c'.job = c.job) (hl : c'.ladder = c.ladder)
    (hb : c.belowLadder) : c.LadderFollows c' := ⟨hj, hl, fun _ => Or.inr hb⟩

@[simp] theorem Composer.LadderFollows.refl (c : Composer) : c.LadderFollows c := .of_cmp_eq rfl

theorem setTask_follows {t : Task} (ht : t.mayHyphenate = false) (s : State) :
    s.cmp.LadderFollows (setTask (some t) s).cmp := .of_not_mayHyphenate rfl rfl ht

theorem setTask_none_follows (s : State) : s.cmp.LadderFollows (setTask none s).cmp :=
  .of_not_mayHyphenate rfl rfl rfl

theorem codeDone_follows {c : Composer} {s : State} (hj : c.job = s.cmp.job) (hl : c.ladder = s.cmp.ladder) :
    s.cmp.LadderFollows (codeDone c s).cmp := .of_not_mayHyphenate hj hl rfl

theorem stallRoom_follows (s : State) : s.cmp.LadderFollows (stallRoom s).cmp := .of_task_eq rfl rfl rfl

theorem stallSetup_follows (cause : StallCause) (s : State) : s.cmp.LadderFollows (stallSetup cause s).cmp := by
  rcases stallSetup_cases cause s with ⟨_, h⟩ | ⟨_, h⟩ <;> rw [h] <;> exact .of_task_eq rfl rfl rfl

/-! ### Codes -/

theorem setReturn_ladder (k : Fin 4) (c : Composer) : (c.setReturn k).ladder = c.ladder := by
  unfold Composer.setReturn
  (repeat' split) <;> rfl

theorem resolveSize_ladder {o : Optics} {req : Nat} {c c' : Composer} (h : c.resolveSize o req = some c') :
    c'.ladder = c.ladder := by
  unfold Composer.resolveSize at h
  obtain ⟨⟨l, subst⟩, _, rfl⟩ := Option.map_eq_some_iff.mp h
  cases subst <;> rfl

/-- A selected lens is the one there was, or the requested size resolved anew (R38, R110). -/
theorem withLens_cases {o : Optics} {c c' : Composer} {l : LensSel} (h : c.withLens o = some (c', l)) :
    c' = c ∨ c.resolveSize o c.size = some c' := by
  have again : ((c.resolveSize o c.size).bind fun c1 => c1.lens.map fun l => (c1, l)) = some (c', l) →
      c.resolveSize o c.size = some c' := by
    simp only [Option.bind_eq_some_iff, Option.map_eq_some_iff, Prod.mk.injEq]
    rintro ⟨c1, h1, _, _, rfl, _⟩
    exact h1
  unfold Composer.withLens at h
  dsimp only at h
  split at h
  · split at h
    · cases h
      exact Or.inl rfl
    · exact Or.inr (again h)
  · exact Or.inr (again h)

theorem withLens_ladder {o : Optics} {c c' : Composer} {l : LensSel} (h : c.withLens o = some (c', l)) :
    c'.ladder = c.ladder := by
  rcases withLens_cases h with rfl | h
  · rfl
  · exact resolveSize_ladder h

theorem pushElem_follows (byte : Byte) (mk : Fin 8 → LensSel → Elem) (s : State) :
    s.cmp.LadderFollows (pushElem byte mk s).cmp := by
  unfold pushElem
  split
  · exact stallSetup_follows _ s
  · rename_i h
    exact codeDone_follows ((withLens_job h).1 :) (withLens_ladder h :)

theorem actCode_follows (byte : Byte) (code : Code) (s : State) : s.cmp.LadderFollows (actCode byte code s).cmp := by
  cases code with
  | size n =>
    dsimp only [actCode]
    split
    · exact stallSetup_follows _ s
    · rename_i h
      exact codeDone_follows ((resolveSize_job h).1 :) (resolveSize_ladder h :)
  | char slot =>
    dsimp only [actCode]
    split
    · exact stallSetup_follows _ s
    · exact pushElem_follows _ _ s
  | fixed f => exact pushElem_follows _ _ s
  | ret k => exact codeDone_follows (setReturn_job k s.cmp).1 (setReturn_ladder k s.cmp)
  | ending k => exact setTask_follows rfl s
  | space => exact setTask_follows rfl s
  | fill | undefined | face | lead | quad | measure | indent | soft | tie | hyph | mark =>
    exact codeDone_follows rfl rfl

theorem codeRead_follows (s : State) : s.cmp.LadderFollows (codeRead s).cmp := by
  have gather (c : Byte) (ps bytes : Text) : s.cmp.LadderFollows (takeCode.gather s c ps bytes).cmp := by
    dsimp only [takeCode.gather]
    split
    · exact .of_task_eq (by simp) (by simp) (by simp)
    · exact .of_not_mayHyphenate (by simp) (by simp) rfl
  unfold codeRead takeCode
  (repeat' split) <;> simp [gather]

/-! ### Closing a line -/

@[simp] theorem closeLine_ladder (brk : BreakKind) (cut : Bool) (flags : List LineFlag) (rest : WordBuf)
    (carried : Option BreakOpp) (s : State) : (closeLine brk cut flags rest carried s).cmp.ladder = s.cmp.ladder := by
  unfold closeLine
  split <;> rfl

/-- A line that closes at no hyphen brings no hyphen-ended record. -/
theorem closeLine_follows {brk : BreakKind} (hb : brk.hyphenated = false) (cut : Bool) (flags : List LineFlag)
    (rest : WordBuf) (carried : Option BreakOpp) (s : State) :
    s.cmp.LadderFollows (closeLine brk cut flags rest carried s).cmp := by
  unfold closeLine
  split
  · exact setTask_none_follows s
  · exact .of_not_mayHyphenate rfl rfl hb

theorem closeBefore_follows (flags : List LineFlag) (opp : BreakOpp) (s : State) :
    s.cmp.LadderFollows (closeBefore flags opp s).cmp :=
  closeLine_follows (by split <;> rfl) _ _ _ _ s

/-! ### Fitting, placing, breaking -/

theorem examineStep_ladder (l : OpenLine) (opp : BreakOpp) (s : State) :
    (examineStep l opp s).cmp.ladder = s.cmp.ladder := by
  dsimp only [examineStep]
  split
  · exact (stallSetup_follows _ s).2.1
  · split <;> rfl

theorem placeStep_follows (opp : BreakOpp) (s : State) : s.cmp.LadderFollows (placeStep opp s).cmp := by
  dsimp only [placeStep]
  split
  · exact setTask_none_follows s
  · split
    · exact stallRoom_follows s
    · exact .of_not_mayHyphenate rfl rfl rfl

theorem breakStep_ladder (b : Break) (flags : List LineFlag) (opp : BreakOpp) (s : State) :
    (breakStep b flags opp s).cmp.ladder = s.cmp.ladder := by
  dsimp only [breakStep]
  split
  · rfl
  · split
    · rfl
    · exact closeLine_ladder _ _ _ _ _ _

theorem oversetStep_follows (flags : List LineFlag) (opp : BreakOpp) (s : State) :
    s.cmp.LadderFollows (oversetStep flags opp s).cmp := by
  dsimp only [oversetStep]
  split
  · exact setTask_none_follows s
  · split
    · exact stallRoom_follows s
    · exact closeLine_follows rfl _ _ _ _ _

theorem noBreakStep_follows (flags : List LineFlag) (opp : BreakOpp) (s : State) :
    s.cmp.LadderFollows (noBreakStep flags opp s).cmp := by
  unfold noBreakStep
  split
  · exact setTask_none_follows s
  · split
    · exact closeBefore_follows flags opp s
    · exact setTask_follows rfl s

/-! ### The line open and the record's entry, the two changes of the count -/

theorem openLine_ladder (s : State) : (openLine s).cmp.ladder = ladderAtOpen s.cmp.pend.ladder s.cmp.ladder := rfl

theorem openLine_job_ladder (s : State) :
    (openLine s).cmp.job.ladder = s.cmp.pend.ladder.getD s.cmp.job.ladder := rfl

@[simp] theorem openLine_task (s : State) : (openLine s).cmp.task = s.cmp.task := rfl

/-- A line open brings the count down to a smaller LADDER, and so keeps it within its limits (R49). -/
theorem openLine_ladderWithin {s : State} (h : s.cmp.LadderWithin) : (openLine s).cmp.LadderWithin := by
  unfold Composer.LadderWithin at *
  rw [openLine_ladder, openLine_job_ladder]
  cases s.cmp.pend.ladder with
  | none => exact h
  | some n =>
    simp only [ladderAtOpen, Option.getD_some]
    split <;> omega

/-- With no step that may hyphenate in hand, a line ensured open keeps the promise. -/
theorem ensureOpen_ladderKept {s : State} (h : s.cmp.LadderKept) (ht : s.cmp.mayHyphenate = false) :
    (ensureOpen s).cmp.LadderKept := by
  unfold ensureOpen
  split
  · exact h
  · exact (openLine_ladderWithin h.1).kept ht

theorem enterStore_ladder (r : LineRecord) (s : State) :
    (enterStore r s).cmp.ladder = ladderAfter r.brk s.cmp.ladder := by
  unfold enterStore
  split <;> simp

theorem ladderAfter_eq (brk : BreakKind) (n : Nat) :
    ladderAfter brk n = if brk.hyphenated = true then min 255 (n + 1) else 0 := by
  cases brk <;> rfl

theorem hyphenated_iff (brk : BreakKind) : brk.hyphenated = true ↔ brk = .hyphen ∨ brk = .hardHyphen := by
  cases brk <;> decide

/-- A hyphen-ended record that comes from below LADDER leaves the count within its limits (R49). -/
theorem enterStore_ladderWithin {r : LineRecord} {s : State} (hb : r.brk.hyphenated = true → s.cmp.belowLadder) :
    (enterStore r s).cmp.LadderWithin := by
  unfold Composer.LadderWithin
  rw [enterStore_ladder, (enterStore_job r s).1, ladderAfter_eq]
  split
  · rename_i hy
    have := hb hy
    unfold Composer.belowLadder at this
    omega
  · omega

/-! ### The composer's steps -/

theorem codeStep_ladderKept (byte : Byte) (ps : Text) {s : State} (h : s.cmp.LadderKept)
    (ht : s.cmp.mayHyphenate = false) : (codeStep byte ps s).cmp.LadderKept := by
  refine Composer.LadderFollows.kept ?_ (ensureOpen_ladderKept h ht)
  dsimp only [codeStep]
  split
  · exact setTask_follows rfl _
  · exact actCode_follows _ _ _

/-- A word is handed to the Hyphenation Unit only where hyphenation is attempted, and so only below LADDER (R44). -/
theorem fitStep_ladderKept (opp : BreakOpp) {s : State} (h : s.cmp.LadderKept) (ht : s.cmp.mayHyphenate = false) :
    (fitStep opp s).cmp.LadderKept := by
  refine Composer.LadderFollows.kept ?_ (ensureOpen_ladderKept h ht)
  dsimp only [fitStep]
  generalize ensureOpen s = u
  split
  · exact .of_cmp_eq rfl
  · split
    · exact setTask_follows rfl u
    split
    · exact setTask_follows rfl u
    split
    · exact closeBefore_follows _ _ u
    split
    · rename_i hattempt
      exact .of_belowLadder (examineStep_job _ _ u).1 (examineStep_ladder _ _ u) ((attempt_iff _).mp hattempt).2.2
    · exact setTask_follows rfl u

theorem afterStep_ladderKept (opp : BreakOpp) {s : State} (h : s.cmp.LadderKept) (ht : s.cmp.mayHyphenate = false) :
    (afterStep opp s).cmp.LadderKept := by
  have hopen := ensureOpen_ladderKept h ht
  cases opp with
  | space size =>
    have hf : s.cmp.LadderFollows (afterStep (.space size) s).cmp := .of_not_mayHyphenate rfl rfl rfl
    exact hf.kept h
  | ending k => cases k <;> exact (closeLine_follows rfl _ _ _ _ _).kept hopen
  | split byte ps =>
    have hf : (ensureOpen s).cmp.LadderFollows (afterStep (.split byte ps) s).cmp := .of_not_mayHyphenate rfl rfl rfl
    exact hf.kept hopen

theorem offerStep_ladderKept {r : LineRecord} (carried : Option BreakOpp) {s : State} (h : s.cmp.LadderKept)
    (hb : r.brk.hyphenated = true → s.cmp.belowLadder) : (offerStep r carried s).cmp.LadderKept := by
  have hentered : (enterStore r s).cmp.LadderWithin := enterStore_ladderWithin hb
  dsimp only [offerStep]
  split
  · exact (stallRoom_follows s).kept h
  · split
    · exact Composer.LadderWithin.kept hentered rfl
    · split
      · exact Composer.LadderWithin.kept hentered rfl
      · exact Composer.LadderWithin.kept (openLine_ladderWithin hentered) rfl

/-- A step in hand keeps the promise: a break and a decision stand only below LADDER, and so does what they lead to. -/
theorem taskStep_ladderKept {t : Task} {s : State} (hs : s.cmp.task = some t) (h : s.cmp.LadderKept) :
    (taskStep t s).cmp.LadderKept := by
  have hmay : s.cmp.mayHyphenate = t.mayHyphenate := by simp [Composer.mayHyphenate, hs]
  have hbelow : t.mayHyphenate = true → s.cmp.belowLadder := fun ht => h.2 (hmay.trans ht)
  cases t with
  | code byte ps => exact codeStep_ladderKept byte ps h hmay
  | fit opp => exact fitStep_ladderKept opp h hmay
  | after opp => exact afterStep_ladderKept opp h hmay
  | offer r carried => exact offerStep_ladderKept carried h hbelow
  | brk b flags opp =>
    exact Composer.LadderFollows.kept
      (.of_belowLadder (breakStep_job b flags opp s).1 (breakStep_ladder b flags opp s) (hbelow rfl)) h
  | place opp => exact (placeStep_follows opp s).kept h
  | noBreak flags opp => exact (noBreakStep_follows flags opp s).kept h
  | overset flags opp => exact (oversetStep_follows flags opp s).kept h
  | decision opp => exact h

/-! ### Reactions and commands -/

theorem composerRest_follows {s t : State} (h : composerRest s = some t) : s.cmp.LadderFollows t.cmp := by
  unfold composerRest at h
  (repeat' split at h) <;> cases h <;> exact .of_task_eq rfl rfl rfl

theorem completeAbort_ladder (s : State) : (completeAbort s).cmp.ladder = 0 := by
  simp [completeAbort, Composer.abortEnds]

theorem abortReact_ladderKept {s t : State} (h : abortReact s = some t) : t.cmp.LadderKept := by
  unfold abortReact at h
  split at h
  · cases h
    exact Composer.ladderKept_of_zero (completeAbort_ladder s)
  · cases h

theorem react_ladderKept {s t : State} (hr : react s = some t) (h : s.cmp.LadderKept) : t.cmp.LadderKept := by
  have same (e : t.cmp = s.cmp) : t.cmp.LadderKept := e ▸ h
  rcases react_cases hr with hr | hr | hr | hr | hr | hr | hr | hr
  · exact same (by simp [exposureReact_frame s t hr])
  · exact same (by simp [surveyReact_frame s t hr])
  · exact same (by simp [releaseOldest_frame s t hr])
  · exact same (by simp [skipReact_frame s t hr])
  · rcases composerStep_cases hr with ⟨k, _, hk, rfl⟩ | ⟨_, _, _, _, rfl⟩
    · exact taskStep_ladderKept hk h
    · exact h
  · exact same (by simp [exposureTake_frame s t hr])
  · exact (composerRest_follows hr).kept h
  · exact abortReact_ladderKept hr

/-- A decision handed back takes the place of the decision waited for, which stood below LADDER. -/
@[simp] theorem endReferral_follows (how : LastEnd) (p : Option Position) (flags : List LineFlag) (s : State) :
    s.cmp.LadderFollows (endReferral how p flags s).cmp := by
  dsimp only [endReferral]
  split
  · rename_i opp htask
    replace htask : s.cmp.task = some (.decision opp) := htask
    exact ⟨rfl, rfl, fun _ => Or.inl (by simp [Composer.mayHyphenate, htask, Task.mayHyphenate])⟩
  · exact .of_cmp_eq rfl

theorem referralExpires_follows (s : State) : s.cmp.LadderFollows (referralExpires s).cmp := by
  unfold referralExpires
  split
  · exact endReferral_follows _ _ _ s
  · exact .of_cmp_eq rfl

/-- The retry that FACE and LENS bring, once they have written their table (R34), takes up the step held. -/
@[simp] theorem retrySetup_follows (o : Optics) (s : State) : s.cmp.LadderFollows (retrySetup (s.withOpc o)).cmp := by
  rcases retrySetup_cases (s.withOpc o) with ⟨_, h⟩ | ⟨_, h⟩ <;> rw [h] <;> exact .of_task_eq rfl rfl rfl

@[simp] theorem startAbort_follows (form : HaltForm) (s : State) : s.cmp.LadderFollows (startAbort form s).cmp :=
  .of_not_mayHyphenate (startAbort_job form s).1 (by simp [startAbort, Composer.abandon])
    (by simp [startAbort, Composer.abandon, Composer.mayHyphenate])

theorem faceBody_follows (params : List Text) (s : State) : s.cmp.LadderFollows (faceBody params s).1.cmp := by
  dsimp only [faceBody]
  (repeat' split) <;> simp

theorem lensBody_follows (params : List Text) (s : State) : s.cmp.LadderFollows (lensBody params s).1.cmp := by
  unfold lensBody
  (repeat' split) <;> simp

theorem decideBody_follows (params : List Text) (s : State) : s.cmp.LadderFollows (decideBody params s).1.cmp := by
  unfold decideBody
  (repeat' split) <;> simp

theorem abortBody_follows (params : List Text) (s : State) : s.cmp.LadderFollows (abortBody params s).1.cmp := by
  unfold abortBody
  (repeat' split) <;> simp

theorem jobBody_follows (params : List Text) (s : State) : s.cmp.LadderFollows (jobBody params s).1.cmp := by
  rcases jobBody_cases params s with ⟨r, e⟩ | ⟨ps, _, _, _, e⟩ <;> rw [e] <;> exact .of_task_eq rfl rfl rfl

/-- No command changes the ladder count or the LADDER in force. -/
theorem commandBody_follows (k : Keyword) (params : List Text) (s : State) :
    s.cmp.LadderFollows (commandBody k params s).1.cmp := by
  cases k with
  | job => exact jobBody_follows params s
  | face => exact faceBody_follows params s
  | lens => exact lensBody_follows params s
  | decideBreak => exact decideBody_follows params s
  | abort => exact abortBody_follows params s
  | _ => exact .of_cmp_eq (by simp [commandBody])

theorem recordBody_follows (r : LinkRecord) (s : State) : s.cmp.LadderFollows (recordBody r s).1.cmp := by
  rcases recordBody_cases r s with e | ⟨k, params, e⟩
  · exact .of_cmp_eq e
  · rw [e]
    exact commandBody_follows k params s

/-! ### The ladder count (R49) -/

theorem reset_ladderKept : Composer.reset.LadderKept := Composer.ladderKept_of_zero rfl

/-- Every step keeps the count within its limits, and a step that may hyphenate below LADDER (R49). -/
theorem step_ladderKept {s t : State} (h : LadderKept s) (hs : step s = .next t) : LadderKept t :=
  (ladderKept_iff t).mpr <|
    step_cmp_induct (P := Composer.LadderKept) reset_ladderKept (fun r s => (recordBody_follows r s).kept)
      (fun _ _ => react_ladderKept) (fun s => (codeRead_follows s).kept) (fun s => (referralExpires_follows s).kept) hs
      ((ladderKept_iff s).mp h)

/-- Settles O28: hyphen-ended records come only from an attempt, which is made below LADDER, and a line open that lowers
LADDER brings the count down with it. -/
theorem ladderStaysWithinItsLimit : Obligations.LadderStaysWithinItsLimit := by
  unfold Obligations.LadderStaysWithinItsLimit
  refine ⟨fun r s => ?_, rfl, fun _ _ => rfl, completeAbort_ladder, openLine_job_ladder, attempt_iff, fun s => ?_,
    (ladderKept_iff _).mpr reset_ladderKept, fun s t => step_ladderKept⟩
  · rw [enterStore_ladder, ladderAfter_eq]
    simp only [hyphenated_iff]
  · rw [openLine_ladder]
    cases s.cmp.pend.ladder <;> rfl

end Sys2Proof.Machine
end

section
/-! SUPPORT and PROOF. The IDLE flag and the abort through the rest of an event (R100, R191): no operation of a block raises
IDLE, no reaction starts an abort, and only abort completion ends one, which raises IDLE. -/

namespace Sys2Proof.Machine

/-! ### The IDLE flag in the Link Interface -/

/-- The IDLE flag is set. -/
def Link.idleUp (l : Link) : Bool := l.flags.contains .idle

theorem idleUp_iff (l : Link) : l.idleUp = true ↔ Flag.idle ∈ l.flags := by simp [Link.idleUp]

@[simp] theorem raise_idle_idleUp (s : State) : (raise .idle s).link.idleUp = true := by
  rw [idleUp_iff]
  rcases link_raise_cases .idle s.link with ⟨h, e⟩ | ⟨_, e⟩
  · simpa [raise, e] using h
  · simp [raise, e, mem_insertIn, flag_mem_all]

/-- Another flag raised leaves IDLE as it is. -/
@[simp] theorem raise_idleUp {f : Flag} (hf : f ≠ .idle) (s : State) : (raise f s).link.idleUp = s.link.idleUp := by
  rw [Bool.eq_iff_iff, idleUp_iff, idleUp_iff]
  rcases link_raise_cases f s.link with ⟨_, e⟩ | ⟨_, e⟩
  · simp [raise, e]
  · simp [raise, e, mem_insertIn, flag_mem_all, hf.symm]

@[simp] theorem pump_flags (l : Link) : l.pump.flags = l.flags := by
  unfold Link.pump Link.beginNotice Link.beginReply
  (repeat' split) <;> rfl

@[simp] theorem pumpTx_flags (s : State) : (pumpTx s).link.flags = s.link.flags := pump_flags s.link

/-! ### The film transport and the Exposure Controller raise no IDLE -/

@[simp] theorem testLowFilm_idleUp (s : State) : (testLowFilm s).link.idleUp = s.link.idleUp := by
  rcases testLowFilm_cases s with ⟨_, e⟩ | ⟨_, e⟩ <;> simp [e]

@[simp] theorem issueLineMove_idleUp (m : LineMove) (s : State) :
    (issueLineMove m s).2.link.idleUp = s.link.idleUp := by
  rcases issueLineMove_cases m s with e | ⟨_, _, e⟩ <;> simp [e]

@[simp] theorem requestMove_idleUp (r : LineRecord) (s : State) :
    (requestMove r s).2.link.idleUp = s.link.idleUp := by
  rcases requestMove_cases r s with ⟨_, e⟩ | ⟨_, e⟩ <;> simp [e]

@[simp] theorem issueMargin_idleUp (target : Nat) (s : State) :
    (issueMargin target s).link.idleUp = s.link.idleUp := by
  dsimp only [issueMargin]
  split <;> simp [marginMoved]

@[simp] theorem startCut_idleUp (line : Nat) (s : State) : (startCut line s).link.idleUp = s.link.idleUp := by
  simp [startCut]

@[simp] theorem hold_idleUp (stage : Stage) (mount : Bool) (s : State) :
    (hold stage mount s).link.idleUp = s.link.idleUp := by
  cases mount <;> simp [hold]

@[simp] theorem lineDone_idleUp (s : State) : (lineDone s).link.idleUp = s.link.idleUp := by
  dsimp only [lineDone]
  split
  · rfl
  · split <;> simp

@[simp] theorem goElements_idleUp (es : List Elem) (s : State) : (goElements es s).link.idleUp = s.link.idleUp := by
  induction es generalizing s with
  | nil =>
    unfold goElements
    split <;> simp
  | cons e es ih =>
    unfold goElements
    (repeat' split) <;> simp [ih]

@[simp] theorem goElement_idleUp (s : State) : (goElement s).link.idleUp = s.link.idleUp := by
  unfold goElement
  split <;> simp

@[simp] theorem armTest_idleUp (s : State) : (armTest s).link.idleUp = s.link.idleUp := by
  unfold armTest
  (repeat' split) <;> simp

@[simp] theorem stayStopped_idleUp (s : State) : (stayStopped s).link.idleUp = s.link.idleUp := by
  rcases stayStopped_cases s with ⟨_, e⟩ | ⟨_, e⟩ <;> simp [e]

@[simp] theorem moveCompleted_idleUp (m : LineMove) (s : State) :
    (moveCompleted m s).link.idleUp = s.link.idleUp := by
  dsimp only [moveCompleted]
  (repeat' split) <;> simp

@[simp] theorem requestLineMove_idleUp (s : State) : (requestLineMove s).link.idleUp = s.link.idleUp := by
  unfold requestLineMove
  split
  · rfl
  · rename_i r _
    have hmove := requestMove_idleUp r (s.withExc { s.exc.enter .movingFilm with moveOut := true, stage := .prepare })
    split <;> rename_i e <;> rw [e] at hmove <;> simpa using hmove

@[simp] theorem beginMove_idleUp (s : State) : (beginMove s).link.idleUp = s.link.idleUp := by
  dsimp only [beginMove]
  (repeat' split) <;> simp

@[simp] theorem takeLine_idleUp (r : LineRecord) (s : State) : (takeLine r s).link.idleUp = s.link.idleUp := by
  simp [takeLine]

@[simp] theorem beginStage_idleUp (s : State) : (beginStage s).link.idleUp = s.link.idleUp := by
  unfold beginStage
  split <;> simp

theorem exposureReact_idleUp {s t : State} (h : exposureReact s = some t) : t.link.idleUp = s.link.idleUp := by
  unfold exposureReact at h
  (repeat' split at h) <;> cases h <;> simp

theorem exposureTake_idleUp {s t : State} (h : exposureTake s = some t) : t.link.idleUp = s.link.idleUp := by
  unfold exposureTake at h
  split at h
  · obtain ⟨r, _, rfl⟩ := Option.map_eq_some_iff.mp h
    exact takeLine_idleUp r s
  · cases h

/-! ### The composer raises no IDLE -/

@[simp] theorem stallSetup_idleUp (cause : StallCause) (s : State) :
    (stallSetup cause s).link.idleUp = s.link.idleUp := by
  rcases stallSetup_cases cause s with ⟨_, e⟩ | ⟨_, e⟩ <;> simp [e]

@[simp] theorem pushElem_idleUp (byte : Byte) (mk : Fin 8 → LensSel → Elem) (s : State) :
    (pushElem byte mk s).link.idleUp = s.link.idleUp := by
  unfold pushElem
  split <;> simp

@[simp] theorem actCode_idleUp (byte : Byte) (code : Code) (s : State) :
    (actCode byte code s).link.idleUp = s.link.idleUp := by
  dsimp only [actCode]
  (repeat' split) <;> simp

@[simp] theorem codeStep_idleUp (byte : Byte) (ps : Text) (s : State) :
    (codeStep byte ps s).link.idleUp = s.link.idleUp := by
  dsimp only [codeStep]
  split <;> simp

@[simp] theorem makeReferral_idleUp (x : Exam) (opp : BreakOpp) (s : State) :
    (makeReferral x opp s).link.idleUp = s.link.idleUp := rfl

@[simp] theorem examineStep_idleUp (l : OpenLine) (opp : BreakOpp) (s : State) :
    (examineStep l opp s).link.idleUp = s.link.idleUp := by
  dsimp only [examineStep]
  (repeat' split) <;> simp

@[simp] theorem fitStep_idleUp (opp : BreakOpp) (s : State) : (fitStep opp s).link.idleUp = s.link.idleUp := by
  dsimp only [fitStep]
  (repeat' split) <;> simp

@[simp] theorem taskStep_idleUp (t : Task) (s : State) : (taskStep t s).link.idleUp = s.link.idleUp := by
  cases t <;> simp [taskStep]

/-! ### The composer's steps start no abort -/

theorem aborting_of_cmp_eq {s t : State} (h : t.cmp = s.cmp) : aborting t = aborting s := by simp [aborting, h]

@[simp] theorem setTask_st (t : Option Task) (s : State) : (setTask t s).cmp.st = s.cmp.st := rfl
@[simp] theorem codeDone_st (c : Composer) (s : State) : (codeDone c s).cmp.st = c.st := rfl
@[simp] theorem stallRoom_st (s : State) : (stallRoom s).cmp.st = .stallRoom := rfl
@[simp] theorem makeReferral_st (x : Exam) (opp : BreakOpp) (s : State) : (makeReferral x opp s).cmp.st = .referring := rfl
@[simp] theorem openLine_st (s : State) : (openLine s).cmp.st = s.cmp.st := rfl
@[simp] theorem count_st (c : Composer) : c.count.st = c.st := rfl
@[simp] theorem push_st (i : WordItem) (c : Composer) : (c.push i).st = c.st := rfl
@[simp] theorem onLine_st (f : OpenLine → OpenLine) (c : Composer) : (c.onLine f).st = c.st := rfl
@[simp] theorem flagLine_st (f : LineFlag) (c : Composer) : (c.flagLine f).st = c.st := rfl
@[simp] theorem setParam_st (f : LineSet → LineSet) (c : Composer) : (c.setParam f).st = c.st := rfl

@[simp] theorem setReturn_st (k : Fin 4) (c : Composer) : (c.setReturn k).st = c.st := by
  unfold Composer.setReturn
  (repeat' split) <;> rfl

@[simp] theorem ensureOpen_st (s : State) : (ensureOpen s).cmp.st = s.cmp.st := by
  unfold ensureOpen
  split <;> simp

@[simp] theorem enterStore_st (r : LineRecord) (s : State) : (enterStore r s).cmp.st = s.cmp.st := by
  unfold enterStore
  split <;> simp

@[simp] theorem closeLine_st (brk : BreakKind) (cut : Bool) (flags : List LineFlag) (rest : WordBuf)
    (carried : Option BreakOpp) (s : State) : (closeLine brk cut flags rest carried s).cmp.st = s.cmp.st := by
  unfold closeLine
  split <;> simp

@[simp] theorem stallSetup_st (cause : StallCause) (s : State) : (stallSetup cause s).cmp.st = .stallSetup := by
  rcases stallSetup_cases cause s with ⟨_, e⟩ | ⟨_, e⟩ <;> simp [e]

theorem resolveSize_st {o : Optics} {req : Nat} {c c' : Composer} (h : c.resolveSize o req = some c') : c'.st = c.st := by
  unfold Composer.resolveSize at h
  obtain ⟨⟨l, subst⟩, _, rfl⟩ := Option.map_eq_some_iff.mp h
  cases subst <;> rfl

theorem withLens_st {o : Optics} {c c' : Composer} {l : LensSel} (h : c.withLens o = some (c', l)) : c'.st = c.st := by
  rcases withLens_cases h with rfl | h
  · rfl
  · exact resolveSize_st h

/-- A step leaves the composer's state, or the composer stalls or refers the word. -/
def CmpState.StepsTo (st st' : CmpState) : Prop := st' = st ∨ st' = .stallSetup ∨ st' = .stallRoom ∨ st' = .referring

@[simp] theorem stepsTo_refl (st : CmpState) : st.StepsTo st := Or.inl rfl
@[simp] theorem stepsTo_stallSetup (st : CmpState) : st.StepsTo .stallSetup := Or.inr (Or.inl rfl)
@[simp] theorem stepsTo_stallRoom (st : CmpState) : st.StepsTo .stallRoom := Or.inr (Or.inr (Or.inl rfl))
@[simp] theorem stepsTo_referring (st : CmpState) : st.StepsTo .referring := Or.inr (Or.inr (Or.inr rfl))

theorem CmpState.StepsTo.ne_aborting {st st' : CmpState} (h : st.StepsTo st') (hst : st ≠ .aborting) :
    st' ≠ .aborting := by
  rcases h with rfl | rfl | rfl | rfl
  · exact hst
  all_goals nofun

@[simp] theorem pushElem_stepsTo (byte : Byte) (mk : Fin 8 → LensSel → Elem) (s : State) :
    s.cmp.st.StepsTo (pushElem byte mk s).cmp.st := by
  unfold pushElem
  split
  · simp
  · rename_i h
    simp [withLens_st h]

@[simp] theorem actCode_stepsTo (byte : Byte) (code : Code) (s : State) :
    s.cmp.st.StepsTo (actCode byte code s).cmp.st := by
  cases code with
  | size n =>
    dsimp only [actCode]
    split
    · simp
    · rename_i h
      simp [resolveSize_st h]
  | char slot =>
    dsimp only [actCode]
    split <;> simp
  | _ => simp [actCode]

theorem codeStep_stepsTo (byte : Byte) (ps : Text) (s : State) : s.cmp.st.StepsTo (codeStep byte ps s).cmp.st := by
  rw [← ensureOpen_st s]
  dsimp only [codeStep]
  split
  · simp
  · exact actCode_stepsTo byte _ _

@[simp] theorem examineStep_stepsTo (l : OpenLine) (opp : BreakOpp) (s : State) :
    s.cmp.st.StepsTo (examineStep l opp s).cmp.st := by
  dsimp only [examineStep]
  (repeat' split) <;> simp

theorem fitStep_stepsTo (opp : BreakOpp) (s : State) : s.cmp.st.StepsTo (fitStep opp s).cmp.st := by
  rw [← ensureOpen_st s]
  dsimp only [fitStep]
  generalize ensureOpen s = u
  (repeat' split) <;> simp [closeBefore]

theorem placeStep_stepsTo (opp : BreakOpp) (s : State) : s.cmp.st.StepsTo (placeStep opp s).cmp.st := by
  dsimp only [placeStep]
  (repeat' split) <;> simp

theorem breakStep_stepsTo (b : Break) (flags : List LineFlag) (opp : BreakOpp) (s : State) :
    s.cmp.st.StepsTo (breakStep b flags opp s).cmp.st := by
  dsimp only [breakStep]
  (repeat' split) <;> simp

theorem oversetStep_stepsTo (flags : List LineFlag) (opp : BreakOpp) (s : State) :
    s.cmp.st.StepsTo (oversetStep flags opp s).cmp.st := by
  dsimp only [oversetStep]
  (repeat' split) <;> simp

theorem noBreakStep_stepsTo (flags : List LineFlag) (opp : BreakOpp) (s : State) :
    s.cmp.st.StepsTo (noBreakStep flags opp s).cmp.st := by
  unfold noBreakStep
  (repeat' split) <;> simp [closeBefore]

theorem offerStep_stepsTo (r : LineRecord) (carried : Option BreakOpp) (s : State) :
    s.cmp.st.StepsTo (offerStep r carried s).cmp.st := by
  dsimp only [offerStep]
  (repeat' split) <;> simp

theorem afterStep_stepsTo (opp : BreakOpp) (s : State) : s.cmp.st.StepsTo (afterStep opp s).cmp.st := by
  cases opp with
  | ending k => cases k <;> simp [afterStep]
  | space | split => simp [afterStep]

theorem taskStep_stepsTo (t : Task) (s : State) : s.cmp.st.StepsTo (taskStep t s).cmp.st := by
  cases t with
  | code byte ps => exact codeStep_stepsTo byte ps s
  | fit opp => exact fitStep_stepsTo opp s
  | place opp => exact placeStep_stepsTo opp s
  | brk b flags opp => exact breakStep_stepsTo b flags opp s
  | noBreak flags opp => exact noBreakStep_stepsTo flags opp s
  | overset flags opp => exact oversetStep_stepsTo flags opp s
  | offer r carried => exact offerStep_stepsTo r carried s
  | after opp => exact afterStep_stepsTo opp s
  | decision opp => exact stepsTo_refl _

/-! ### The reactions and what is decided once after them -/

/-- An abort in progress and the IDLE flag are as they were, or an abort has completed and IDLE is set (R100, R191). -/
def IdleFollows (s t : State) : Prop :=
  (aborting t = aborting s ∧ t.link.idleUp = s.link.idleUp) ∨
    (aborting s = true ∧ aborting t = false ∧ t.link.idleUp = true)

theorem IdleFollows.refl (s : State) : IdleFollows s s := Or.inl ⟨rfl, rfl⟩

/-- Once an abort has completed there is no other to complete. -/
theorem IdleFollows.trans {s t u : State} (h : IdleFollows s t) (h' : IdleFollows t u) : IdleFollows s u := by
  rcases h with ⟨ha, hi⟩ | ⟨hs, ht, hi⟩
  · unfold IdleFollows at *
    rwa [ha, hi] at h'
  · rcases h' with ⟨hu, hi'⟩ | ⟨ht', _⟩
    · exact Or.inr ⟨hs, hu.trans ht, hi'.trans hi⟩
    · simp [ht] at ht'

theorem IdleFollows.of_cmp_eq {s t : State} (hc : t.cmp = s.cmp) (hl : t.link.idleUp = s.link.idleUp) :
    IdleFollows s t := Or.inl ⟨aborting_of_cmp_eq hc, hl⟩

/-- A composer that is not aborting, before or after, and a flag that stands. -/
theorem IdleFollows.of_ne_aborting {s t : State} (hs : s.cmp.st ≠ .aborting) (ht : t.cmp.st ≠ .aborting)
    (hl : t.link.idleUp = s.link.idleUp) : IdleFollows s t :=
  Or.inl ⟨by simp [aborting, hs, ht], hl⟩

/-- The composer steps in READING and STALL_ROOM alone. -/
theorem composerStep_idleFollows {s t : State} (h : composerStep s = some t) : IdleFollows s t := by
  rcases composerStep_cases h with ⟨k, hst, _, rfl⟩ | ⟨_, hst, _, _, rfl⟩
  · have hs : s.cmp.st ≠ .aborting := by simp [hst]
    exact .of_ne_aborting hs ((taskStep_stepsTo k s).ne_aborting hs) (taskStep_idleUp k s)
  · exact .of_ne_aborting (by simp [hst]) nofun rfl

/-- The composer moves between IDLE, READING and WAIT_TEXT alone (R32). -/
theorem composerRest_idleFollows {s t : State} (h : composerRest s = some t) : IdleFollows s t := by
  have hlink : t.link.idleUp = s.link.idleUp := by simp [composerRest_frame s t h]
  refine .of_ne_aborting (fun hst => by simp [composerRest, hst] at h) ?_ hlink
  unfold composerRest at h
  (repeat' split at h) <;> cases h <;> nofun

/-- Abort completion ends the abort and raises IDLE (R100). -/
theorem abortReact_idleFollows {s t : State} (h : abortReact s = some t) : IdleFollows s t := by
  unfold abortReact at h
  split at h
  · rename_i hdone
    cases h
    have hs : aborting s = true := by
      simp only [abortDone, Bool.and_eq_true] at hdone
      exact hdone.1.1.1
    exact Or.inr ⟨hs, by simp [aborting, completeAbort, Composer.abortEnds], by simp [completeAbort]⟩
  · cases h

theorem react_idleFollows {s t : State} (h : react s = some t) : IdleFollows s t := by
  rcases react_cases h with h | h | h | h | h | h | h | h
  · exact .of_cmp_eq (by simp [exposureReact_frame s t h]) (exposureReact_idleUp h)
  · exact .of_cmp_eq (by simp [surveyReact_frame s t h]) (by simp [surveyReact_frame s t h])
  · exact .of_cmp_eq (by simp [releaseOldest_frame s t h]) (by simp [releaseOldest_frame s t h])
  · exact .of_cmp_eq (by simp [skipReact_frame s t h]) (by simp [skipReact_frame s t h])
  · exact composerStep_idleFollows h
  · exact .of_cmp_eq (by simp [exposureTake_frame s t h]) (exposureTake_idleUp h)
  · exact composerRest_idleFollows h
  · exact abortReact_idleFollows h

/-- The state the IDLE conditions are looked at in: the reactions and the services of an event are done (R191). -/
def served (u : State) : State := proofService (restService (spinUp (settle Config.cascade u)))

theorem served_idleFollows (u : State) : IdleFollows u (served u) := by
  have hsettled : IdleFollows u (settle Config.cascade u) :=
    settle_induct (P := IdleFollows u) (fun _ _ hr h => h.trans (react_idleFollows hr)) _ u (.refl u)
  exact hsettled.trans (.of_cmp_eq (by simp [served]) (by simp [served]))

/-! ### The IDLE flag (R191) -/

theorem finish_eq_served (s u : State) : finish s u = pumpTx (idleService (idleHolds s) (served u)) := rfl

theorem idleHolds_iff (s : State) : idleHolds s = true ↔
    s.cmp.st = .idle ∧ s.hyu.referral = none ∧ s.sls.records = [] ∧ s.exc.st = .idle ∧
      ¬ (s.ftc.st = .moving ∨ s.ftc.st = .cutting) := by
  simp [idleHolds, and_assoc]

/-- The flag and the transmitter are none of the IDLE conditions. -/
@[simp] theorem idleHolds_finish (s u : State) : idleHolds (finish s u) = idleHolds (served u) := by
  simp [finish_eq_served, idleHolds]

@[simp] theorem aborting_finish (s u : State) : aborting (finish s u) = aborting (served u) := by
  simp [finish_eq_served, aborting]

/-- IDLE is set after an event where the reactions left it so, and at the onset of its conditions. -/
theorem idle_mem_finish_iff (s u : State) : Flag.idle ∈ (finish s u).link.flags ↔
    (served u).link.idleUp = true ∨ (idleHolds (served u) = true ∧ idleHolds s = false) := by
  rw [finish_eq_served, pumpTx_flags, ← idleUp_iff]
  unfold idleService
  split
  · rename_i h
    simpa using Or.inr h
  · rename_i h
    simp_all

/-- Settles O18: the reactions leave IDLE as it is but for the completion of an abort, and what follows them raises it at
the onset of its conditions alone. -/
theorem idleFlagMarksTheOnset : Obligations.IdleFlagMarksTheOnset := by
  unfold Obligations.IdleFlagMarksTheOnset
  refine ⟨idleHolds_iff, fun _ _ => ⟨rfl, rfl⟩, fun s u => ?_⟩
  rw [idle_mem_finish_iff, idleHolds_finish, aborting_finish, ← idleUp_iff]
  refine ⟨fun hafter hbefore => Or.inr ⟨hafter, hbefore⟩, ?_, ?_⟩
  · intro hu hend
    rcases served_idleFollows u with ⟨ha, _⟩ | ⟨_, _, hidle⟩
    · simp [ha, hu] at hend
    · exact Or.inl hidle
  · rintro (hidle | honset)
    · rcases served_idleFollows u with ⟨_, hl⟩ | ⟨hu, hend, _⟩
      · exact Or.inl (hl ▸ hidle)
      · exact Or.inr (Or.inl ⟨hu, hend⟩)
    · exact Or.inr (Or.inr honset)

end Sys2Proof.Machine
end

section
/-! SUPPORT. What a step is made of, for statements about any block: the effect of every event that is no record, and the
induction that every invariant of a step uses. -/

namespace Sys2Proof.Machine

-- One declaration at a time: it keeps the threads, and with them the memory, of the compile small.
set_option Elab.async false

/-- The own effects of the events that bring no record, no byte and no frame's end: `EventEffect s c u` says that
command `c` brings the event whose own effect leads from `s` to `u`. -/
inductive EventEffect (s : State) : Instr → State → Prop
  | codeRead : EventEffect s .textCodeRead (codeRead s)
  | referralExpires : EventEffect s .referralTimerExpiry (referralExpires s)
  | countArrives : EventEffect s .encoderCount (countArrives s)
  | remainingCounts : EventEffect s .slotArrival (remainingCounts s)
  | photocell : EventEffect s .photocellSense (photocell s)
  | windowEnds : EventEffect s .confirmationWindowExpiry (windowEnds s)
  | charged : EventEffect s .chargeSense (charged s)
  | mechComplete (k : Mechanism) : EventEffect s (.opticsOperationComplete k) (mechComplete k s)
  | mechTimeout (k : Mechanism) : EventEffect s (.opticsOperationTimeout k) (mechTimeout k s)
  | escComplete : EventEffect s .escapementComplete (escComplete s)
  | escTimeout : EventEffect s .escapementTimeout (escTimeout s)
  | doorLevel (level : DoorLevel) : EventEffect s (.doorSensorChange level) (doorLevel level s)
  | doorTake : EventEffect s .doorDebounceExpiry (doorTake s)
  | indexArrives (interval : Nat) (upper lower : Byte) : EventEffect s (.drumIndex interval upper lower) (indexArrives interval upper lower s)
  | spinUpExpires : EventEffect s .spinUpTimerExpiry (spinUpExpires s)
  | monitorExpires : EventEffect s .stallMonitorExpiry (monitorExpires s)
  | restExpires : EventEffect s .restTimerExpiry (restExpires s)
  | cassetteLevel (level : CassetteLevel) : EventEffect s (.cassetteSensorChange level) (cassetteLevel level s)
  | cassetteTake : EventEffect s .cassetteDebounceExpiry (cassetteTake s)
  | stepperDone : EventEffect s .stepperComplete (stepperDone s)
  | moveJams : EventEffect s .moveTimeout (moveJams s)
  | cutterDone : EventEffect s .cutterComplete (cutterDone s)
  | cutterFails : EventEffect s .cutterTimeout (cutterFails s)
  | portFree : EventEffect s .proofMessageEnd (portFree s)
  | grantExpires : EventEffect s .grantTimerExpiry (grantExpires s)

/-- What a command of the table comes to: a record, an event's own effect, bytes of the link that end in a gap, bytes of the
link, bytes of the printer, the end of a frame sent, or a power-on reset. -/
theorem exec_event_cases (c : Instr) (s : State) :
    (∃ r, recordOf c = some r ∧ exec c s = recordEvent r s) ∨ (∃ u, EventEffect s c u ∧ exec c s = event s u) ∨
      (∃ bs, c = .gapTimerExpiry bs ∧ exec c s = event s (gapExpires (feed bs s))) ∨
      (∃ kind length, c = .lengthByteAbove250 kind length ∧ exec c s = event s (feed [0xA5#8, kind, length] s)) ∨
      (∃ bs, exec c s = .next (printerBytes bs s)) ∨
      (c = .transmitFrameEnd ∧ exec c s = .next (frameEnds s)) ∨
      ∃ b a, c = .powerOnReset b a ∧ exec c s = execPowerOnReset b a s := by
  cases c with
  | gapTimerExpiry bs => exact .inr (.inr (.inl ⟨bs, rfl, rfl⟩))
  | lengthByteAbove250 kind length => exact .inr (.inr (.inr (.inl ⟨kind, length, rfl, rfl⟩)))
  | printerReady _ | printed | printerFault _ => exact .inr (.inr (.inr (.inr (.inl ⟨_, rfl⟩))))
  | transmitFrameEnd => exact .inr (.inr (.inr (.inr (.inr (.inl ⟨rfl, rfl⟩)))))
  | powerOnReset b a => exact .inr (.inr (.inr (.inr (.inr (.inr ⟨b, a, rfl, rfl⟩)))))
  | textCodeRead => exact .inr (.inl ⟨_, .codeRead, rfl⟩)
  | referralTimerExpiry => exact .inr (.inl ⟨_, .referralExpires, rfl⟩)
  | encoderCount => exact .inr (.inl ⟨_, .countArrives, rfl⟩)
  | slotArrival => exact .inr (.inl ⟨_, .remainingCounts, rfl⟩)
  | photocellSense => exact .inr (.inl ⟨_, .photocell, rfl⟩)
  | confirmationWindowExpiry => exact .inr (.inl ⟨_, .windowEnds, rfl⟩)
  | chargeSense => exact .inr (.inl ⟨_, .charged, rfl⟩)
  | opticsOperationComplete k => exact .inr (.inl ⟨_, .mechComplete k, rfl⟩)
  | opticsOperationTimeout k => exact .inr (.inl ⟨_, .mechTimeout k, rfl⟩)
  | escapementComplete => exact .inr (.inl ⟨_, .escComplete, rfl⟩)
  | escapementTimeout => exact .inr (.inl ⟨_, .escTimeout, rfl⟩)
  | doorSensorChange level => exact .inr (.inl ⟨_, .doorLevel level, rfl⟩)
  | doorDebounceExpiry => exact .inr (.inl ⟨_, .doorTake, rfl⟩)
  | drumIndex interval upper lower => exact .inr (.inl ⟨_, .indexArrives interval upper lower, rfl⟩)
  | spinUpTimerExpiry => exact .inr (.inl ⟨_, .spinUpExpires, rfl⟩)
  | stallMonitorExpiry => exact .inr (.inl ⟨_, .monitorExpires, rfl⟩)
  | restTimerExpiry => exact .inr (.inl ⟨_, .restExpires, rfl⟩)
  | cassetteSensorChange level => exact .inr (.inl ⟨_, .cassetteLevel level, rfl⟩)
  | cassetteDebounceExpiry => exact .inr (.inl ⟨_, .cassetteTake, rfl⟩)
  | stepperComplete => exact .inr (.inl ⟨_, .stepperDone, rfl⟩)
  | moveTimeout => exact .inr (.inl ⟨_, .moveJams, rfl⟩)
  | cutterComplete => exact .inr (.inl ⟨_, .cutterDone, rfl⟩)
  | cutterTimeout => exact .inr (.inl ⟨_, .cutterFails, rfl⟩)
  | proofMessageEnd => exact .inr (.inl ⟨_, .portFree, rfl⟩)
  | grantTimerExpiry => exact .inr (.inl ⟨_, .grantExpires, rfl⟩)
  | _ => exact .inl ⟨_, rfl, rfl⟩

/-- Everything a step can be made of but the own effects of `EventEffect` keeps `P`: the resets, the link's own bookkeeping, a
record taken where the reply queue has room, a byte of the printer, and what follows an event. -/
structure LinkKeeps (P : State → Prop) : Prop where
  reset : ∀ c s, P (resetAll c s)
  rx : ∀ rx s, P s → P (setRx rx s)
  txFree : ∀ s, P s → P (s.withLink { s.link with tx := none })
  pump : ∀ s, P s → P (pumpTx s)
  record : ∀ r s, s.link.replies.length < Config.replyQueue → P s → P (takeRecord r s)
  byte : ∀ s b, P s → P (printerByte s b)
  react : ∀ s t, Machine.react s = some t → P s → P t
  spin : ∀ s, P s → P (spinUp s)
  rest : ∀ s, P s → P (restService s)
  proof : ∀ s, P s → P (proofService s)
  idle : ∀ s, P s → P (raise .idle s)

/-- Everything a step can be made of keeps `P`. -/
structure StepKeeps (P : State → Prop) : Prop extends LinkKeeps P where
  pending : ∀ s x, P s → P (s.withPending x)
  effect : ∀ s c u, EventEffect s c u → P s → P u

section
variable {P : State → Prop}

theorem LinkKeeps.finish (h : LinkKeeps P) (s : State) {u : State} (hu : P u) : P (finish s u) :=
  finish_induct h.react h.spin h.rest h.proof h.idle h.pump s u hu

theorem LinkKeeps.receive (h : LinkKeeps P) (r : LinkRecord) {s : State} (hs : P s) : P (receive r s) := by
  rcases receive_cases r s with ⟨_, e⟩ | ⟨_, _, e⟩ | ⟨hready, e⟩ | ⟨_, _, _, e⟩ <;> rw [e]
  · exact h.rx _ s hs
  · exact hs
  · exact h.record r _ hready.2.2 (h.rx _ s hs)
  · exact h.rx _ s hs

theorem LinkKeeps.feedByte (h : LinkKeeps P) (b : Byte) {s : State} (hs : P s) : P (feedByte s b) := by
  dsimp only [Machine.feedByte]
  split
  · exact hs
  · split
    · exact h.rx _ s hs
    · exact hs
  · split
    · exact h.rx _ s hs
    · split
      · exact h.receive _ (h.rx _ s hs)
      · exact h.rx _ s hs

theorem LinkKeeps.feed (h : LinkKeeps P) (bs : Text) {s : State} (hs : P s) : P (feed bs s) := by
  unfold Machine.feed
  induction bs generalizing s with
  | nil => exact hs
  | cons b bs ih => exact ih (h.feedByte b hs)

theorem LinkKeeps.gapExpires (h : LinkKeeps P) {s : State} (hs : P s) : P (gapExpires s) := by
  unfold Machine.gapExpires
  split
  · exact h.rx _ s hs
  · exact hs

theorem LinkKeeps.takeWaiting (h : LinkKeeps P) {s : State} (hs : P s) : P (takeWaiting s) := by
  unfold Machine.takeWaiting
  split
  · split
    · split
      · exact h.rx _ s hs
      · exact h.record _ _ (by assumption) (h.rx _ s hs)
    · exact hs
  · exact hs

theorem LinkKeeps.frameEnds (h : LinkKeeps P) {s : State} (hs : P s) : P (frameEnds s) := by
  unfold Machine.frameEnds
  split
  · exact hs
  · split
    · exact h.reset _ s
    · exact h.finish s (h.takeWaiting (h.pump _ (h.txFree s hs)))

theorem LinkKeeps.printerBytes (h : LinkKeeps P) (bs : Text) {s : State} (hs : P s) : P (printerBytes bs s) := by
  induction bs generalizing s with
  | nil => exact hs
  | cons b bs ih =>
    refine ih ?_
    unfold byteRead
    split
    · exact h.finish s (h.byte s b hs)
    · exact h.byte s b hs

/-- What everything in a step keeps, a command keeps. -/
theorem StepKeeps.exec (h : StepKeeps P) {c : Instr} {s t : State} (hs : P s) (e : exec c s = .next t) : P t := by
  have hnext {u : State} (hu : P u) (e : Host.Outcome.next (φ := Fault) (ρ := Refusal) u = .next t) : P t :=
    Host.Outcome.next.inj e ▸ hu
  rcases exec_event_cases c s with ⟨r, _, hc⟩ | ⟨u, hu, hc⟩ | ⟨bs, _, hc⟩ | ⟨k, l, _, hc⟩ | ⟨bs, hc⟩ | ⟨_, hc⟩ |
    ⟨b, a, _, hc⟩ <;> rw [hc] at e
  · exact hnext (h.finish s (h.receive r hs)) e
  · exact hnext (h.finish s (h.effect s c u hu hs)) e
  · exact hnext (h.finish s (h.gapExpires (h.feed bs hs))) e
  · exact hnext (h.finish s (h.feed _ hs)) e
  · exact hnext (h.printerBytes bs hs) e
  · exact hnext (h.frameEnds hs) e
  · exact hnext (h.reset _ _) e

/-- What everything in a step keeps, a step keeps. -/
theorem StepKeeps.step (h : StepKeeps P) {s t : State} (hs : P s) (e : step s = .next t) : P t := by
  rcases step_cases e with ⟨_, e⟩ | ⟨c, cs, _, e⟩
  · exact Host.Outcome.next.inj e ▸ hs
  · exact h.exec (h.pending s cs hs) e.symm

end

end Sys2Proof.Machine
end

section
/-! SUPPORT and PROOF. The film (R149 to R160): what each of its operations keeps of the promises. -/

namespace Sys2Proof.Machine

-- One declaration at a time: it keeps the threads, and with them the memory, of the compile small.
set_option Elab.async false

/-- The accumulator value a move brings is in its range (R155): it is the rest of a division by 1,000,000. -/
theorem stepping_newE (f : Film) (target : Nat) :
    -1000000 < (f.stepping target).newE ∧ (f.stepping target).newE < 1000000 := by
  have hrest (e : Int) : e - e.tdiv Config.million * Config.million = e.tmod 1000000 := by
    rw [Int.tmod_def, Int.mul_comm]
    rfl
  unfold Film.stepping
  dsimp only
  rw [hrest]
  exact ⟨Int.lt_tmod_of_pos _ (by decide), Int.tmod_lt_of_pos _ (by decide)⟩

/-- The marks of `f` lie on its film. -/
theorem markSafe_mono {g d d' : Nat} (h : d ≤ d') {m : Option Nat} (hm : markSafe g d m) : markSafe g d' m := by
  cases m with
  | none => trivial
  | some v => exact ⟨hm.1, hm.2.trans h⟩

/-- A mark set to a position on the film leaves every mark on it. -/
theorem setMarks_safe {g d v : Nat} (hv : g ≤ v ∧ v ≤ d) (ks : List (Fin 4)) {marks : Vector (Option Nat) 4}
    (h : ∀ k : Fin 4, markSafe g d (marks.get k)) (k : Fin 4) : markSafe g d ((setMarks ks v marks).get k) := by
  unfold setMarks
  induction ks generalizing marks with
  | nil => exact h k
  | cons j ks ih =>
    refine ih fun i => ?_
    simp only [Vector.get_eq_getElem, Vector.getElem_set]
    split
    · exact hv
    · simpa [Vector.get_eq_getElem] using h i

/-- A move brings the film to its target, which lies on the galley's film. -/
theorem Film.Kept.moved {f : Film} (h : f.Kept) {target : Nat} {newE : Int} (ht : f.g ≤ target ∧ target ≤ f.cap)
    (he : -1000000 < newE ∧ newE < 1000000) : (f.moved target newE).Kept := by
  obtain ⟨⟨hg, hp, hd, hm, _, _⟩, _, _, hfailed, hcut⟩ := h
  exact ⟨⟨ht.1, Nat.le_max_right .., Nat.max_le.mpr ⟨hd, ht.2⟩, fun k => markSafe_mono (Nat.le_max_left ..) (hm k), he⟩,
    nofun, nofun, hfailed, hcut⟩

theorem Film.Kept.lineMoved {f : Film} (h : f.Kept) {m : LineMove} {newE : Int}
    (ht : f.g ≤ m.target ∧ m.target ≤ f.cap) (he : -1000000 < newE ∧ newE < 1000000) : (f.lineMoved m newE).Kept := by
  obtain ⟨_, _, _, hm, _, _⟩ := h.1
  obtain ⟨⟨hg', hp', hd', _, he'⟩, hline, hmargin, _, hcut⟩ := h.moved ht he
  have hon : f.g ≤ m.target ∧ m.target ≤ max f.dmax m.target := ⟨ht.1, Nat.le_max_right ..⟩
  exact ⟨⟨hg', hp', hd', setMarks_safe hon m.marks fun k => markSafe_mono (Nat.le_max_left ..) (hm k), he'⟩,
    hline, hmargin, nofun, hcut⟩

theorem Film.Kept.startLineMove {f : Film} (h : f.Kept) {m : LineMove} (ht : f.g ≤ m.target ∧ m.target ≤ f.cap) :
    ({ f with st := .moving, op := some (.lineMove m (f.stepping m.target)), failed := none } : Film).Kept := by
  obtain ⟨hsafe, _, _, _, hcut⟩ := h
  refine ⟨hsafe, fun m' p e => ?_, nofun, nofun, hcut⟩
  cases e
  exact ⟨ht.1, ht.2, stepping_newE f m.target⟩

theorem Film.Kept.startMargin {f : Film} (h : f.Kept) (target : Nat) :
    ({ f with st := .cutting, op := some (.margin (f.stepping target)), failed := none } : Film).Kept := by
  obtain ⟨hsafe, _, _, _, hcut⟩ := h
  refine ⟨hsafe, nofun, fun p e => ?_, nofun, hcut⟩
  cases e
  exact stepping_newE f target

theorem Film.Kept.startCutter {f : Film} (h : f.Kept) :
    ({ f with st := .cutting, op := some .cutter, failed := none } : Film).Kept := by
  obtain ⟨hsafe, _, _, _, hcut⟩ := h
  exact ⟨hsafe, nofun, nofun, nofun, hcut⟩

/-- The target of a cut lies on the galley's film (R159). -/
theorem Film.Kept.startCut {f : Film} (h : f.Kept) (line : Nat) :
    ({ f with st := .cutting, cut := some { target := min f.cap (f.dmax + f.margin), line := line } } : Film).Kept := by
  obtain ⟨hsafe, hline, hmargin, hfailed, _⟩ := h
  obtain ⟨hg, hp, hd, _⟩ := id hsafe
  refine ⟨hsafe, hline, hmargin, hfailed, fun c e => ?_⟩
  cases e
  exact ⟨by dsimp only; omega, Nat.min_le_left ..⟩

theorem Film.Kept.cutDone {f : Film} (h : f.Kept) : f.cutDone.Kept := by
  obtain ⟨⟨_, hp, hd, _, he⟩, _⟩ := h
  refine ⟨⟨Nat.le_refl _, Nat.le_refl _, hp.trans hd, fun k => ?_, he⟩, nofun, nofun, nofun, nofun⟩
  simp [Film.cutDone, Vector.get_eq_getElem, markSafe]

theorem Film.Kept.fail {f : Film} (h : f.Kept) {step : FailedStep}
    (hm : ∀ m, step = .lineMove m → f.g ≤ m.target ∧ m.target ≤ f.cap) : (f.fail step).Kept := by
  obtain ⟨hsafe, _, _, _, hcut⟩ := h
  refine ⟨hsafe, nofun, nofun, fun m e => ?_, hcut⟩
  exact hm m (Option.some.inj e)

theorem Film.Kept.load (f : Film) (inches : Nat) : (f.load inches).Kept := by
  refine ⟨⟨Nat.le_refl _, Nat.le_refl _, Nat.zero_le _, fun k => ?_, by simp [Film.load], by simp [Film.load]⟩,
    nofun, nofun, nofun, nofun⟩
  simp [Film.load, Vector.get_eq_getElem, markSafe]

theorem Film.Kept.remove {f : Film} (h : f.Kept) : f.remove.Kept := ⟨h.1, nofun, nofun, nofun, nofun⟩

/-- The target of a record's move is raised to the galley top (R151). -/
theorem lineTarget_ge (f : Film) (r : LineRecord) : f.g ≤ (f.lineTarget r).target := by
  simp only [Film.lineTarget]
  omega

theorem Film.Kept.reset : Film.reset.Kept := by
  refine ⟨⟨Nat.le_refl _, Nat.le_refl _, Nat.le_refl _, fun k => ?_, by decide, by decide⟩, nofun, nofun, nofun, nofun⟩
  simp [Film.reset, Vector.get_eq_getElem, markSafe]

end Sys2Proof.Machine
end

section
/-! SUPPORT. What the Exposure Controller's work on a line leaves of the rest of the 410, once for all of its operations:
the relation `Works`, with a lemma for each of them (R124 to R146). -/

namespace Sys2Proof.Machine

-- One declaration at a time: it keeps the threads, and with them the memory, of the compile small.
set_option Elab.async false

/-! ### What each block keeps -/

/-- The pending names are set flags (R192). -/
def Link.NamesSet (l : Link) : Prop := ∀ f ∈ l.pendingNames, f ∈ l.flags

/-- A Link Interface to which the blocks have only reported: its receiver, its replies and its rate stand, and the pending
names are set flags where they were. -/
structure Link.Reported (l l' : Link) : Prop where
  rate : l'.rate = l.rate
  rx : l'.rx = l.rx
  replies : l'.replies = l.replies
  resetTaken : l'.resetTaken = l.resetTaken
  names : l.NamesSet → l'.NamesSet

/-- The three fault records stand. -/
def Link.SameFaults (l l' : Link) : Prop := l'.exposure = l.exposure ∧ l'.film = l.film ∧ l'.proof = l.proof

/-- The settings of the Exposure Controller stand. -/
def Exposure.SameSettings (e e' : Exposure) : Prop :=
  e'.t1 = e.t1 ∧ e'.t2 = e.t2 ∧ e'.t3 = e.t3 ∧ e'.intensity = e.intensity ∧ e'.density = e.density

/-- The settings of the film transport, the sensor's level, the cassette and its galley stand. -/
def Film.SameSettings (f f' : Film) : Prop :=
  f'.sensor = f.sensor ∧ f'.sensorTimer = f.sensorTimer ∧ f'.cap = f.cap ∧ f'.g = f.g ∧ f'.feed = f.feed ∧
    f'.lowFilm = f.lowFilm ∧ f'.autoCut = f.autoCut ∧ f'.margin = f.margin ∧ f'.galley = f.galley

/-- What the work on a line leaves: it moves mechanisms, flags, the record, the film and the Exposure Controller, keeps the
promises about film and countdown, and brings no flash. `faults` says whether it may record a fault. -/
structure Works (faults : Bool) (s t : State) : Prop where
  pending : t.pending = s.pending
  pins : t.pins = s.pins
  txq : t.txq = s.txq
  cmp : t.cmp = s.cmp
  hyu : t.hyu = s.hyu
  prc : t.prc = s.prc
  link : s.link.Reported t.link
  records : faults = false → s.link.SameFaults t.link
  opc : t.opc = { s.opc with strip := t.opc.strip, prism := t.opc.prism, turret := t.opc.turret }
  elems : t.sls.records.map LineRecord.elems = s.sls.records.map LineRecord.elems
  excSettings : s.exc.SameSettings t.exc
  flash : t.exc.flash = none ∨ t.exc.flash = s.exc.flash
  armed : FlashSafe s → FlashSafe t
  film : s.ftc.SameSettings t.ftc
  kept : s.ftc.Kept → t.ftc.Kept

/-! ### Flags and fault records -/

theorem Link.Reported.refl (l : Link) : l.Reported l := ⟨rfl, rfl, rfl, rfl, id⟩

theorem Link.Reported.trans {l l' l'' : Link} (h : l.Reported l') (h' : l'.Reported l'') : l.Reported l'' :=
  ⟨h'.rate.trans h.rate, h'.rx.trans h.rx, h'.replies.trans h.replies, h'.resetTaken.trans h.resetTaken,
    h'.names ∘ h.names⟩

/-- A raised flag joins the pending names only with its flag set (R192). -/
theorem raise_namesSet (f : Flag) {l : Link} (h : l.NamesSet) : (l.raise f).NamesSet := by
  rcases link_raise_cases f l with ⟨_, e⟩ | ⟨_, e⟩ <;> rw [e]
  · exact h
  · intro g hg
    obtain ⟨hall, hg⟩ := mem_insertIn.mp hg
    exact mem_insertIn.mpr ⟨hall, hg.imp_right (h g)⟩

theorem link_raise_reported (f : Flag) (l : Link) : l.Reported (l.raise f) := by
  have hn := raise_namesSet f (l := l)
  rcases link_raise_cases f l with ⟨_, e⟩ | ⟨_, e⟩ <;> rw [e] at hn ⊢ <;> exact ⟨rfl, rfl, rfl, rfl, hn⟩

theorem link_raise_sameFaults (f : Flag) (l : Link) : l.SameFaults (l.raise f) := by
  rcases link_raise_cases f l with ⟨_, e⟩ | ⟨_, e⟩ <;> rw [e] <;> exact ⟨rfl, rfl, rfl⟩

/-! ### Small changes as work -/

theorem Works.refl (b : Bool) (s : State) : Works b s s :=
  ⟨rfl, rfl, rfl, rfl, rfl, rfl, .refl _, fun _ => ⟨rfl, rfl, rfl⟩, rfl, rfl, ⟨rfl, rfl, rfl, rfl, rfl⟩, .inr rfl, id,
    ⟨rfl, rfl, rfl, rfl, rfl, rfl, rfl, rfl, rfl⟩, id⟩

theorem Works.trans {b : Bool} {s t u : State} (h : Works b s t) (h' : Works b t u) : Works b s u where
  pending := h'.pending.trans h.pending
  pins := h'.pins.trans h.pins
  txq := h'.txq.trans h.txq
  cmp := h'.cmp.trans h.cmp
  hyu := h'.hyu.trans h.hyu
  prc := h'.prc.trans h.prc
  link := h.link.trans h'.link
  records e := by
    obtain ⟨h1, h2, h3⟩ := h.records e
    obtain ⟨h1', h2', h3'⟩ := h'.records e
    exact ⟨h1'.trans h1, h2'.trans h2, h3'.trans h3⟩
  opc := by
    have e := h'.opc
    rw [h.opc] at e
    exact e
  elems := h'.elems.trans h.elems
  excSettings := by
    obtain ⟨h1, h2, h3, h4, h5⟩ := h.excSettings
    obtain ⟨h1', h2', h3', h4', h5'⟩ := h'.excSettings
    exact ⟨h1'.trans h1, h2'.trans h2, h3'.trans h3, h4'.trans h4, h5'.trans h5⟩
  flash := by
    rcases h'.flash with e | e
    · exact .inl e
    · rw [e]
      exact h.flash
  armed := h'.armed ∘ h.armed
  film := by
    obtain ⟨h1, h2, h3, h4, h5, h6, h7, h8, h9⟩ := h.film
    obtain ⟨h1', h2', h3', h4', h5', h6', h7', h8', h9'⟩ := h'.film
    exact ⟨h1'.trans h1, h2'.trans h2, h3'.trans h3, h4'.trans h4, h5'.trans h5, h6'.trans h6, h7'.trans h7,
      h8'.trans h8, h9'.trans h9⟩
  kept := h'.kept ∘ h.kept

/-- Work told from its end. -/
theorem Works.after {b : Bool} {s t u : State} (h' : Works b t u) (h : Works b s t) : Works b s u := h.trans h'

/-- A change of the Exposure Controller that leaves its settings, its state, its countdown and its flash. -/
theorem Works.withExc {b : Bool} {s : State} {e : Exposure}
    (hset : s.exc.SameSettings e := by exact ⟨rfl, rfl, rfl, rfl, rfl⟩) (hflash : e.flash = s.exc.flash := by rfl)
    (harmed : e.armed = s.exc.armed := by rfl) (hst : e.st = s.exc.st := by rfl) : Works b s (s.withExc e) :=
  { Works.refl b s with
    excSettings := hset
    flash := .inr hflash
    armed := fun h => by
      unfold FlashSafe at *
      simpa only [State.withExc_exc, State.withExc_opc, harmed, hst] using h }

/-- A change of the Exposure Controller that leaves its settings, with no countdown and no flash after it: the entry of a
state. -/
theorem Works.enter {b : Bool} {s : State} {e : Exposure}
    (hset : s.exc.SameSettings e := by exact ⟨rfl, rfl, rfl, rfl, rfl⟩) (hflash : e.flash = none := by rfl)
    (harmed : e.armed = none := by rfl) : Works b s (s.withExc e) :=
  { Works.refl b s with excSettings := hset, flash := .inl hflash, armed := fun _ ha => by simp [harmed] at ha }

/-- A change of state where no countdown runs. -/
theorem Works.withState {b : Bool} {s : State} (h : s.exc.armed = none) (st : ExcState) :
    Works b s (s.withExc { s.exc with st := st }) :=
  { Works.refl b s with
    excSettings := ⟨rfl, rfl, rfl, rfl, rfl⟩
    flash := .inr rfl
    armed := fun _ ha => by simp [h] at ha }

theorem Works.raise {b : Bool} (f : Flag) (s : State) : Works b s (raise f s) :=
  { Works.refl b s with link := link_raise_reported f _, records := fun _ => link_raise_sameFaults f _ }

/-- A change of one record that keeps its elements. -/
theorem Works.update {b : Bool} {f : LineRecord → LineRecord} (hf : ∀ r, (f r).elems = r.elems) (n : Nat) (s : State) :
    Works b s (updateRecord n f s) :=
  { Works.refl b s with
    elems := by
      simp only [updateRecord, Store.update, State.withSls_sls, List.map_map]
      refine List.map_congr_left fun r _ => ?_
      simp only [Function.comp_apply]
      split <;> simp [hf] }

theorem Works.withSls {b : Bool} {s : State} {st : Store}
    (h : st.records.map LineRecord.elems = s.sls.records.map LineRecord.elems) : Works b s (s.withSls st) :=
  { Works.refl b s with elems := h }

theorem Works.withReads {b : Bool} (k : Nat) (s : State) : Works b s (s.withReads k) := { Works.refl b s with }

theorem Works.withFtc {b : Bool} {s : State} {f : Film} (hk : s.ftc.Kept → f.Kept)
    (hset : s.ftc.SameSettings f := by exact ⟨rfl, rfl, rfl, rfl, rfl, rfl, rfl, rfl, rfl⟩) : Works b s (s.withFtc f) :=
  { Works.refl b s with film := hset, kept := hk }

/-- A change of the Optics Controller's mechanisms alone. -/
theorem Works.withOpc {b : Bool} {s : State} {o : Optics}
    (h : o = { s.opc with strip := o.strip, prism := o.prism, turret := o.turret }) : Works b s (s.withOpc o) :=
  { Works.refl b s with
    opc := h
    armed := fun hs ha => by
      obtain ⟨h1, h2, h3⟩ := hs ha
      exact ⟨h1, by rw [State.withOpc_opc, h]; exact h2, by rw [State.withOpc_opc, h]; exact h3⟩ }

/-- A fault record changed. -/
theorem Works.fault {s : State} {l : Link} (h : s.link.Reported l) : Works true s (s.withLink l) :=
  { Works.refl true s with link := h, records := nofun }

/-! ### Mechanisms and escapement -/

theorem setMech_eq (o : Optics) (k : Mechanism) (m : MechState) :
    o.setMech k m = { o with
      strip := (o.setMech k m).strip, prism := (o.setMech k m).prism, turret := (o.setMech k m).turret } := by
  cases k <;> rfl

theorem requestMech_works {b : Bool} (k : Mechanism) (by_ : Requester) (t : Nat) (s : State) :
    Works b s (requestMech k by_ t s) := .withOpc (setMech_eq _ _ _)

theorem requestEsc_works {b : Bool} (x : Nat) (why : EscMove) (s : State) : Works b s (requestEsc x why s) := .withExc

theorem requestBox_works {b : Bool} (m p : Fin 8) (x : Nat) (s : State) : Works b s (requestBox m p x s) :=
  (requestEsc_works x .element _).after <| (requestMech_works .turret _ _ _).after <|
    (requestMech_works .prism _ _ _).after <| requestMech_works .strip _ _ s

theorem withdrawRequests_works {b : Bool} (s : State) : Works b s (withdrawRequests s) :=
  Works.after .withExc (.withOpc rfl)

/-! ### The film as the line meets it -/

theorem testLowFilm_works {b : Bool} (s : State) : Works b s (testLowFilm s) := by
  rcases testLowFilm_cases s with ⟨_, e⟩ | ⟨_, e⟩ <;> rw [e]
  · exact (Works.raise _ _).after (.withFtc id)
  · exact .refl b s

theorem issueLineMove_works {b : Bool} {m : LineMove} {s : State}
    (hm : s.ftc.Kept → s.ftc.g ≤ m.target ∧ m.target ≤ s.ftc.cap) : Works b s (issueLineMove m s).2 := by
  rcases issueLineMove_cases m s with e | ⟨_, _, e⟩ <;> rw [e]
  · exact (testLowFilm_works _).after (.withFtc fun h => h.lineMoved (hm h) (stepping_newE _ _))
  · exact .withFtc fun h => h.startLineMove (hm h)

theorem requestMove_works {b : Bool} (r : LineRecord) (s : State) : Works b s (requestMove r s).2 := by
  rcases requestMove_cases r s with ⟨_, e⟩ | ⟨hcap, e⟩ <;> rw [e]
  · exact (Works.raise _ _).after (.withFtc id)
  · exact issueLineMove_works fun _ => ⟨lineTarget_ge _ _, hcap⟩

theorem startCutter_works {b : Bool} (s : State) : Works b s (startCutter s) := .withFtc Film.Kept.startCutter

theorem marginMoved_works {b : Bool} {target : Nat} {newE : Int} {s : State}
    (ht : s.ftc.Kept → (s.ftc.g ≤ target ∧ target ≤ s.ftc.cap) ∧ -1000000 < newE ∧ newE < 1000000) :
    Works b s (marginMoved target newE s) :=
  (startCutter_works _).after <| (testLowFilm_works _).after <| .withFtc fun h => h.moved (ht h).1 (ht h).2

theorem issueMargin_works {b : Bool} {target : Nat} {s : State}
    (ht : s.ftc.Kept → s.ftc.g ≤ target ∧ target ≤ s.ftc.cap) : Works b s (issueMargin target s) := by
  unfold issueMargin
  dsimp only
  split
  · exact marginMoved_works fun h => ⟨ht h, stepping_newE _ _⟩
  · exact .withFtc fun h => h.startMargin target

theorem Film.Kept.cut_target {f : Film} (h : f.Kept) {c : Cut} (hc : f.cut = some c) :
    f.g ≤ c.target ∧ c.target ≤ f.cap := h.2.2.2.2 c hc

theorem startCut_works {b : Bool} (line : Nat) (s : State) : Works b s (startCut line s) :=
  (issueMargin_works fun h => h.cut_target rfl).after <| .withFtc fun h => h.startCut line

/-! ### The course of a line -/

theorem hold_works {b : Bool} (stage : Stage) (mount : Bool) (s : State) : Works b s (hold stage mount s) := by
  unfold hold
  dsimp only
  split
  · exact (Works.raise _ _).after .enter
  · exact .enter

theorem freeExposure_works {b : Bool} (s : State) : Works b s (freeExposure s) := .enter

theorem closeLineExposure_works {b : Bool} {f : LineRecord → LineRecord} (hf : ∀ r, (f r).elems = r.elems) (s : State) :
    Works b s (closeLineExposure f s) := by
  unfold closeLineExposure
  split
  · exact .refl b s
  · exact Works.after .enter <| Works.after (.withSls (by rfl)) <| .update hf _ s

theorem endPartial_works {b : Bool} (s : State) : Works b s (endPartial s) :=
  (freeExposure_works _).after (closeLineExposure_works (fun _ => by rfl) s)

theorem lineDone_works {b : Bool} (s : State) : Works b s (lineDone s) := by
  unfold lineDone
  split
  · exact .refl b s
  · dsimp only
    generalize hu : raise .line _ = u
    have h : Works b s u := by
      rw [← hu]
      exact (Works.raise _ _).after (closeLineExposure_works (fun _ => by rfl) s)
    split
    · exact Works.after .enter <| (startCut_works _ u).after h
    · exact (freeExposure_works u).after h

theorem countElement_works {b : Bool} (s : State) : Works b s (countElement s) := by
  unfold countElement
  split
  · exact .refl b s
  · exact Works.after .withExc (.update (fun _ => by rfl) _ s)

theorem goElements_works {b : Bool} (es : List Elem) (s : State) : Works b s (goElements es s) := by
  induction es generalizing s with
  | nil =>
    unfold goElements
    split
    · exact .enter
    · exact lineDone_works s
  | cons e es ih =>
    unfold goElements
    split
    · exact .enter
    · split
      · exact hold_works _ _ s
      · split
        · exact (requestBox_works _ _ _ _).after .enter
        · exact (ih _).after (countElement_works s)

theorem goElement_works {b : Bool} (s : State) : Works b s (goElement s) := by
  unfold goElement
  split
  · exact .refl b s
  · exact goElements_works _ s

/-- A countdown is armed only where the door is CLOSED and the drum AT_SPEED (R134). -/
theorem arm_works {b : Bool} {s : State} (h : doorOrDrum s = false) (m : Fin 8) (slot : Nat) (p : Fin 8) :
    Works b s (arm m slot p s) := by
  simp only [doorOrDrum, Bool.or_eq_false_iff, bne_eq_false_iff_eq] at h
  exact { Works.refl b s with excSettings := ⟨rfl, rfl, rfl, rfl, rfl⟩, flash := .inl rfl, armed := fun _ _ => ⟨rfl, h⟩ }

theorem armTest_works {b : Bool} (s : State) : Works b s (armTest s) := by
  unfold armTest
  split
  · exact .refl b s
  · split
    · exact lineDone_works s
    · split
      · exact hold_works _ _ s
      · rename_i hclear
        simp only [Bool.or_eq_true, not_or, Bool.not_eq_true] at hclear
        split
        · split
          · exact arm_works hclear.1 _ _ _
          · exact (requestBox_works _ _ _ _).after .enter
        · exact goElements_works _ s

/-- A line's end leaves no countdown running. -/
theorem lineDone_armed {s : State} {r : LineRecord} (h : currentRecord s = some r) : (lineDone s).exc.armed = none := by
  unfold lineDone
  rw [h]
  dsimp only
  split <;> rfl

theorem goElements_nil_armed {s : State} {r : LineRecord} (h : currentRecord s = some r) :
    (goElements [] s).exc.armed = none := by
  unfold goElements
  split
  · rfl
  · exact lineDone_armed h

/-- The film transport's report of a move: the Exposure Controller goes to the first element, or stays STOPPED, with no
countdown in either case. -/
theorem moveCompleted_works {b : Bool} (m : LineMove) (s : State) : Works b s (moveCompleted m s) := by
  unfold moveCompleted
  dsimp only
  generalize hu : State.withExc _ _ = u
  have h : Works b s u := by
    rw [← hu]
    exact Works.after .withExc (.update (fun _ => by rfl) _ s)
  split
  · exact (goElement_works u).after h
  · split
    · rename_i hempty
      obtain ⟨r, hr, hrest⟩ := (Option.any_eq_true _ _).mp hempty
      have hgo : goElement u = goElements [] u := by
        rw [List.isEmpty_iff] at hrest
        simp only [goElement, hr, hrest]
      rcases stayStopped_cases (goElement u) with ⟨_, e⟩ | ⟨_, e⟩ <;> rw [e]
      · exact (Works.withState (hgo ▸ goElements_nil_armed hr) _).after <| (goElement_works u).after h
      · exact (goElement_works u).after h
    · exact h

theorem requestLineMove_works {b : Bool} (s : State) : Works b s (requestLineMove s) := by
  unfold requestLineMove
  split
  · exact .refl b s
  · rename_i r _
    generalize hu : State.withExc _ _ = u
    have hmove : Works b s (requestMove r u).2 := by
      rw [← hu]
      exact (requestMove_works r _).after .enter
    split <;> rename_i e <;> rw [e] at hmove
    · exact Works.after .enter hmove
    · exact hmove
    · exact (moveCompleted_works _ _).after hmove

theorem beginMove_works {b : Bool} (s : State) : Works b s (beginMove s) := by
  unfold beginMove
  dsimp only
  split
  · exact requestLineMove_works s
  · split
    · exact (Works.raise _ _).after .enter
    · exact .enter

/-- An idle Exposure Controller takes a line: its own fields are set, the band is read, the record is written. -/
theorem takeLine_works {b : Bool} (r : LineRecord) (s : State) : Works b s (takeLine r s) :=
  (beginMove_works _).after <| Works.after .withExc <|
    (Works.update (f := LineRecord.taken _ _) (fun _ => by rfl) _ _).after (.withReads _ s)

theorem beginStage_works {b : Bool} (s : State) : Works b s (beginStage s) := by
  unfold beginStage
  split
  · exact beginMove_works s
  · exact goElement_works s
  · exact armTest_works s

theorem cancelCountdown_works {b : Bool} (st : ExcState) (s : State) : Works b s (cancelCountdown st s) := by
  rcases cancelCountdown_cases st s with ⟨_, e⟩ | ⟨_, e⟩ <;> rw [e]
  · exact .enter
  · exact .refl b s

/-! ### Stops, cut wait, endings -/

theorem endCutWait_works {b : Bool} (s : State) : Works b s (endCutWait s) := by
  rcases endCutWait_cases s with ⟨_, e⟩ | ⟨_, e⟩ <;> rw [e]
  · exact freeExposure_works s
  · exact .refl b s

theorem beginEnding_works {b : Bool} (why : Ending) (s : State) : Works b s (beginEnding why s) :=
  (withdrawRequests_works _).after <| Works.after .withExc (cancelCountdown_works _ s)

theorem exposureRemoval_works {b : Bool} (s : State) : Works b s (exposureRemoval s) := by
  unfold exposureRemoval
  dsimp only
  split
  · exact (beginEnding_works _ _).after <| Works.after .withExc (endCutWait_works s)
  · exact endCutWait_works s

theorem enterStopped_works {b : Bool} (s : State) : Works b s (enterStopped s) := .enter

theorem exposureReact_works {b : Bool} {s t : State} (h : exposureReact s = some t) : Works b s t := by
  unfold exposureReact at h
  (repeat' split at h) <;> cases h
  · exact beginEnding_works _ s
  · exact endPartial_works s
  · exact enterStopped_works s
  · exact enterStopped_works s
  · exact armTest_works s
  · exact beginStage_works s

theorem exposureTake_works {b : Bool} {s t : State} (h : exposureTake s = some t) : Works b s t := by
  unfold exposureTake at h
  split at h
  · obtain ⟨r, _, rfl⟩ := Option.map_eq_some_iff.mp h
    exact takeLine_works r s
  · cases h

/-! ### Faults of the line -/

theorem exposureFault_works (kind : ExposureKind) (s : State) : Works true s (exposureFault kind s) :=
  (Works.raise _ _).after (.fault ⟨rfl, rfl, rfl, rfl, id⟩)

theorem filmFault_works (kind : FilmKind) (line : Nat) (s : State) : Works true s (filmFault kind line s) :=
  (Works.raise _ _).after (.fault ⟨rfl, rfl, rfl, rfl, id⟩)

theorem lineFault_works (kind : ExposureKind) (stage : Stage) (s : State) : Works true s (lineFault kind stage s) := by
  unfold lineFault
  dsimp only
  split
  · exact exposureFault_works kind s
  · exact (withdrawRequests_works _).after <| Works.after .enter (exposureFault_works kind s)

/-- A slot miss lets the countdown run for one revolution more, in the state it ran in (R135). -/
theorem slotMiss_works {s : State} (h : s.exc.armed.isSome) : Works true s (slotMiss s) := by
  unfold slotMiss
  dsimp only
  generalize hv : State.withExc _ _ = v
  have hw : Works true s v ∧ v.exc.armed = s.exc.armed := by
    rw [← hv]
    cases s.exc.ptr with
    | none => exact ⟨.withExc, rfl⟩
    | some n => exact ⟨Works.after .withExc (.update (fun _ => by rfl) n s), rfl⟩
  obtain ⟨hw, harmed⟩ := hw
  split
  · exact (lineFault_works _ _ v).after hw
  · split
    · exact hw
    · split
      · refine Works.trans hw { Works.refl true v with
          excSettings := ⟨rfl, rfl, rfl, rfl, rfl⟩, flash := .inr rfl, armed := fun hs _ => ?_ }
        exact hs (harmed ▸ h)
      · exact hw

/-- The photocell's confirmation counts the element and goes to the next. -/
theorem confirmFlash_works {b : Bool} (s : State) (h : s.exc.st = .flashing) : Works b s (confirmFlash s) := by
  refine (goElement_works _).after <| (countElement_works _).after ?_
  exact { Works.refl b s with
    excSettings := ⟨rfl, rfl, rfl, rfl, rfl⟩, flash := .inl rfl, armed := fun hs ha => by simpa [h] using hs ha }

/-! ### Ends of operations -/

theorem mechComplete_works {b : Bool} (k : Mechanism) (s : State) : Works b s (mechComplete k s) := by
  unfold mechComplete
  dsimp only
  split
  · exact .refl b s
  · exact .withOpc (setMech_eq _ _ _)

theorem escComplete_works {b : Bool} (s : State) : Works b s (escComplete s) := by
  unfold escComplete
  split
  · exact .refl b s
  · exact .withExc

theorem escTimeout_works (s : State) : Works true s (escTimeout s) := by
  unfold escTimeout
  split
  · exact .refl true s
  · rename_i why _
    cases why with
    | element => exact Works.after .withExc <| (lineFault_works _ _ _).after .withExc
    | park => exact Works.after .withExc <| (exposureFault_works _ _).after .withExc

theorem photocell_works {b : Bool} (s : State) : Works b s (photocell s) := by
  unfold photocell
  split
  · exact confirmFlash_works s (by assumption)
  · exact .refl b s

theorem windowEnds_works (s : State) : Works true s (windowEnds s) := by
  unfold windowEnds
  split
  · exact lineFault_works _ _ s
  · exact .refl true s

theorem charged_works {b : Bool} (s : State) : Works b s (charged s) := by
  unfold charged
  split
  · exact .withExc
  · exact .refl b s

/-- What encoder counts do, for whatever they keep: the encoder goes on, the countdown falls, and the slot may arrive. -/
theorem counts_keep {P : State → Prop} (hpins : ∀ s x, P s → P (s.withPins x))
    (hcount : ∀ s a n, s.exc.armed = some a → P s → P (s.withExc { s.exc with armed := some { a with count := n } }))
    (hslot : ∀ s, P s → P (slotArrives s)) {s : State} (h : P s) : P (countArrives s) ∧ P (remainingCounts s) := by
  unfold countArrives remainingCounts
  dsimp only
  cases ha : s.exc.armed with
  | none => simpa only [State.withPins_exc, ha] using ⟨hpins s _ h, h⟩
  | some a =>
    simp only [State.withPins_exc, ha]
    refine ⟨?_, hslot _ (hcount (s.withPins _) a _ ha (hpins s _ h))⟩
    split
    · exact hslot _ (hcount (s.withPins _) a _ ha (hpins s _ h))
    · exact hcount (s.withPins _) a _ ha (hpins s _ h)

/-- The armed slot's arrival fires the lamp or is work on the line (R135). -/
theorem slotArrives_works (s : State) :
    Works true s (slotArrives s) ∨ ∃ a, s.exc.armed = some a ∧ s.exc.lamp = .charged ∧ slotArrives s =
      s.withExc { s.exc with st := .flashing, armed := none, flash := some a.energy, lamp := .charging } := by
  rcases slotArrives_cases s with ⟨_, e⟩ | ⟨a, ha, ⟨hl, e⟩ | ⟨_, e⟩⟩
  · exact .inl (by rw [e]; exact .refl true s)
  · exact .inr ⟨a, ha, hl, e⟩
  · exact .inl (by rw [e]; exact slotMiss_works (by simp [ha]))

/-! ### The ends of film operations and the stops -/

theorem stepperDone_works {b : Bool} (s : State) : Works b s (stepperDone s) := by
  unfold stepperDone
  split
  · rename_i m p hop
    refine (moveCompleted_works _ _).after <| (testLowFilm_works _).after <| .withFtc fun h => ?_
    obtain ⟨_, hline, _⟩ := id h
    obtain ⟨hg, hc, he⟩ := hline m p hop
    exact h.lineMoved ⟨hg, hc⟩ he
  · rename_i p hop
    split
    · rename_i c hc
      refine marginMoved_works fun h => ⟨h.cut_target hc, ?_⟩
      obtain ⟨_, _, hmargin, _⟩ := h
      exact hmargin p hop
    · exact .refl b s
  · exact .refl b s

theorem moveFailed_works {b : Bool} (s : State) : Works b s (moveFailed s) := by
  unfold moveFailed
  split
  · exact .enter
  · exact .refl b s

theorem moveJams_works (s : State) : Works true s (moveJams s) := by
  unfold moveJams
  split
  · rename_i m p hop
    refine (moveFailed_works _).after <| (filmFault_works _ _ _).after <| .withFtc fun h => h.fail ?_
    rintro m' ⟨⟩
    obtain ⟨hg, hc, _⟩ := h.2.1 m p hop
    exact ⟨hg, hc⟩
  · exact (endCutWait_works _).after <| (filmFault_works _ _ _).after <| .withFtc fun h => h.fail nofun
  · exact .refl true s

theorem cutterFails_works (s : State) : Works true s (cutterFails s) := by
  unfold cutterFails
  split
  · exact (endCutWait_works _).after <| (filmFault_works _ _ _).after <| .withFtc fun h => h.fail nofun
  · exact .refl true s

theorem retryFilm_works {b : Bool} (s : State) : Works b s (retryFilm s) := by
  unfold retryFilm
  split
  · split
    · rename_i m hfailed
      split
      · have hmove : Works b s (issueLineMove m s).2 := issueLineMove_works fun h => h.2.2.2.1 m hfailed
        split <;> rename_i e <;> rw [e] at hmove
        · exact (moveCompleted_works _ _).after hmove
        · exact hmove
      · refine .withFtc fun h => ?_
        obtain ⟨hsafe, hline, hmargin, _, hcut⟩ := h
        exact ⟨hsafe, hline, hmargin, nofun, hcut⟩
    · split
      · rename_i c hc
        exact issueMargin_works fun h => h.cut_target hc
      · exact .refl b s
    · exact startCutter_works s
    · exact .refl b s
  · exact .refl b s

theorem stopHard_works {b : Bool} (s : State) : Works b s (stopHard s) :=
  (withdrawRequests_works _).after <| (cancelCountdown_works _ _).after .withExc

theorem takeStop_works {b : Bool} (form : HaltForm) (s : State) : Works b s (takeStop form s) := by
  unfold takeStop
  split
  · exact .refl b s
  · split
    · exact .withExc
    · exact stopHard_works s
    · exact stopHard_works s
    · exact .refl b s

theorem resume_works {b : Bool} (s : State) : Works b s (resume s) := by
  unfold resume
  dsimp only
  split
  · exact Works.after .enter .withExc
  · split
    · exact Works.after .enter .withExc
    · exact (beginStage_works _).after .withExc

theorem exposureRetry_works {b : Bool} (s : State) : Works b s (exposureRetry s) := by
  unfold exposureRetry
  split
  · split
    · exact enterStopped_works s
    · split
      · exact (armTest_works _).after .withExc
      · exact goElement_works s
  · exact .refl b s

theorem exposureAbort_works {b : Bool} (s : State) : Works b s (exposureAbort s) := by
  unfold exposureAbort
  split
  · dsimp only
    split
    · exact .enter
    · exact .withExc
  · exact .refl b s

end Sys2Proof.Machine
end

section
/-! SUPPORT. What taking a record brings, once for all commands: `RecordEffect`, with what its taking has made sure of. -/

namespace Sys2Proof.Machine

-- One declaration at a time: it keeps the threads, and with them the memory, of the compile small.
set_option Elab.async false

/-- The changes of state that a record can bring (R12, R189), each with the tests its command has passed: `RecordEffect s u`
says that one of them leads from `s` to `u`. -/
inductive RecordEffect (s : State) : State → Prop
  | same : RecordEffect s s
  | text (payload : Text) (h : payload.length ≤ s.txq.room) : RecordEffect s (s.withTxq (s.txq.append payload))
  | textWake (payload : Text) (h : payload.length ≤ s.txq.room) :
      RecordEffect s (wake (s.withTxq (s.txq.append payload)))
  | watch : RecordEffect s (s.withTxq { s.txq with watch := true })
  | job (p : PendingJob) : RecordEffect s (s.withCmp { s.cmp with pend := p })
  | pairs (c : Fin 26) (vs : List Nat) : RecordEffect s (s.withHyu (s.hyu.setRow c vs))
  | dictAdd (word : List (Fin 26)) (ns : List Int) (hlen : 2 ≤ word.length ∧ word.length ≤ 24)
      (hpos : ascending 0 word.length ns = true)
      (hroom : (s.hyu.lookup word).isSome = true ∨ s.hyu.roomFor word.length = true) :
      RecordEffect s (s.withHyu (s.hyu.put { word := word, positions := ns.map Int.toNat }))
  | dictDel (word : List (Fin 26)) :
      RecordEffect s (s.withHyu { s.hyu with dict := s.hyu.dict.filter fun e => e.word != word })
  | dictClear : RecordEffect s (s.withHyu { s.hyu with dict := [] })
  | decided (p : Option Position) : RecordEffect s (endReferral .decided p [.referred] s)
  | abortHard : RecordEffect s (s.withSls { s.sls with abort := some .hard })
  | abort (form : HaltForm) (h : aborting s = false) : RecordEffect s (startAbort form s)
  | face (m : Fin 8) (x : Mount) (h : mountReferenced m s = false) :
      RecordEffect s (retrySetup (s.withOpc (s.opc.setMount m x)))
  | mount (m : Fin 8) (x : Mount) (h : mountReferenced m s = false) : RecordEffect s (s.withOpc (s.opc.setMount m x))
  | lens (p : Fin 8) (size : Nat) (h : lensReferenced p s = false) :
      RecordEffect s (retrySetup (s.withOpc (s.opc.setLens p size)))
  | survey (h : s.exc.ptr = none) : RecordEffect s (takeSurvey s)
  | stop (form : HaltForm) : RecordEffect s (takeStop form s)
  | resume (h : s.exc.st = .stopped) : RecordEffect s (resume s)
  | reading : RecordEffect s (s.withReads (s.thermReads + 1))
  | temps (a b c : Int) : RecordEffect s (s.withExc { s.exc with t1 := a, t2 := b, t3 := c })
  | intensity (t : Vector (Vector Nat 8) 4) : RecordEffect s (s.withExc { s.exc with intensity := t })
  | cassette (inches : Nat) : RecordEffect s (loadCassette inches s)
  | feedCut : RecordEffect s (startCut 0 s)
  | rest : RecordEffect s (restDrum s)
  | wake : RecordEffect s (wake s)
  | reset : RecordEffect s (s.withLink { s.link with resetTaken := true })
  | tune (ps : List (TuneKey × TuneValue)) : RecordEffect s (tuneAll ps s)
  | clear (fs : List Flag) : RecordEffect s (s.withLink (s.link.clearAll fs))
  | clearFault (b : FaultBlock) : RecordEffect s (clearFault b s)

theorem textBody_effect (payload : Text) (s : State) : RecordEffect s (textBody payload s).1 := by
  unfold textBody
  split
  · exact .same
  · split
    · rename_i h
      dsimp only
      split
      · exact .text payload h
      · exact .textWake payload h
    · exact .watch

theorem dictAddBody_effect (params : List Text) (s : State) : RecordEffect s (dictAddBody params s).1 := by
  unfold dictAddBody
  split
  · exact .same
  · split
    · split
      · exact .same
      · rename_i hform
        split
        · rename_i hroom
          simp only [not_or, Bool.not_eq_false, Nat.not_lt] at hform
          exact .dictAdd _ _ ⟨hform.1, hform.2.1⟩ hform.2.2 ((Bool.or_eq_true _ _).mp hroom)
        · exact .same
    · exact .same

theorem decideBody_effect (params : List Text) (s : State) : RecordEffect s (decideBody params s).1 := by
  unfold decideBody
  (repeat' split) <;> first | exact .same | exact .decided _

theorem abortBody_effect (params : List Text) (s : State) : RecordEffect s (abortBody params s).1 := by
  unfold abortBody
  split
  · split
    · exact .same
    · split
      · split
        · exact .abortHard
        · exact .same
      · rename_i h
        exact .abort _ (Bool.not_eq_true _ ▸ h)
  · exact .same

theorem faceBody_effect (params : List Text) (s : State) : RecordEffect s (faceBody params s).1 := by
  unfold faceBody
  split
  · split
    · split
      · exact .same
      · split
        · exact .same
        · split
          · exact .same
          · rename_i h
            exact .face _ _ (Bool.not_eq_true _ ▸ h)
    · exact .same
  · exact .same

theorem widthsBody_effect (params : List Text) (s : State) : RecordEffect s (widthsBody params s).1 := by
  unfold widthsBody
  split
  · exact .same
  · split
    · split
      · exact .same
      · split
        · exact .same
        · split
          · exact .same
          · split
            · exact .same
            · rename_i h
              exact .mount _ _ (Bool.not_eq_true _ ▸ h)
    · exact .same

theorem unmountBody_effect (params : List Text) (s : State) : RecordEffect s (unmountBody params s).1 := by
  unfold unmountBody
  split
  · split
    · exact .same
    · split
      · exact .same
      · split
        · exact .same
        · rename_i h
          exact .mount _ _ (Bool.not_eq_true _ ▸ h)
  · exact .same

theorem lensBody_effect (params : List Text) (s : State) : RecordEffect s (lensBody params s).1 := by
  unfold lensBody
  split
  · split
    · split
      · exact .same
      · split
        · exact .same
        · split
          · exact .same
          · rename_i h
            exact .lens _ _ (Bool.not_eq_true _ ▸ h)
    · exact .same
  · exact .same

theorem surveyBody_effect (params : List Text) (s : State) : RecordEffect s (surveyBody params s).1 := by
  unfold surveyBody
  split
  · split
    · exact .same
    · rename_i h
      exact .survey (by simpa using h)
  · exact .same

theorem resumeBody_effect (params : List Text) (s : State) : RecordEffect s (resumeBody params s).1 := by
  unfold resumeBody
  split
  · split
    · exact .same
    · rename_i h
      simp only [Bool.or_eq_true, not_or, bne_iff_ne, ne_eq, Decidable.not_not] at h
      exact .resume h.1
  · exact .same

theorem cassetteBody_effect (params : List Text) (s : State) : RecordEffect s (cassetteBody params s).1 := by
  unfold cassetteBody
  (repeat' split) <;> first | exact .same | exact .cassette _

/-- A command leaves the state, or has passed its tests and has its effect (R189). -/
theorem commandBody_effect (k : Keyword) (params : List Text) (s : State) :
    RecordEffect s (commandBody k params s).1 := by
  cases k with
  | job => rcases jobBody_cases params s with ⟨r, e⟩ | ⟨ps, _, _, _, e⟩ <;> simp only [commandBody, e] <;>
      first | exact .same | exact .job _
  | pairs => simp only [commandBody, pairsBody]; (repeat' split) <;> first | exact .same | exact .pairs _ _
  | dictAdd => exact dictAddBody_effect params s
  | dictDel => simp only [commandBody, dictDelBody]; (repeat' split) <;> first | exact .same | exact .dictDel _
  | dictClear => simp only [commandBody, dictClearBody]; split <;> first | exact .same | exact .dictClear
  | dictGet => simp only [commandBody, dictGetBody]; (repeat' split) <;> exact .same
  | dictList => simp only [commandBody, dictListBody]; (repeat' split) <;> exact .same
  | decideBreak => exact decideBody_effect params s
  | line => simp only [commandBody, lineBody]; (repeat' split) <;> exact .same
  | abort => exact abortBody_effect params s
  | face => exact faceBody_effect params s
  | widths => exact widthsBody_effect params s
  | unmount => exact unmountBody_effect params s
  | lens => exact lensBody_effect params s
  | survey => exact surveyBody_effect params s
  | optics => simp only [commandBody, opticsBody]; split <;> exact .same
  | stop => simp only [commandBody, stopBody]; (repeat' split) <;> first | exact .same | exact .stop _
  | resume => exact resumeBody_effect params s
  | temps => simp only [commandBody, tempsBody]; (repeat' split) <;> first | exact .same | exact .reading | exact .temps _ _ _
  | intensity => simp only [commandBody, intensityBody]; (repeat' split) <;> first | exact .same | exact .intensity _
  | cassette => exact cassetteBody_effect params s
  | feedCut => simp only [commandBody, feedCutBody]; (repeat' split) <;> first | exact .same | exact .feedCut
  | transport => simp only [commandBody, transportBody]; split <;> exact .same
  | printer => simp only [commandBody, printerBody]; split <;> exact .same
  | rest => simp only [commandBody, restBody]; (repeat' split) <;> first | exact .same | exact .rest
  | wake => simp only [commandBody, wakeBody]; split <;> first | exact .same | exact .wake
  | reset => simp only [commandBody, resetBody]; split <;> first | exact .same | exact .reset
  | tune => simp only [commandBody, tuneBody]; (repeat' split) <;> first | exact .same | exact .tune _
  | clear => simp only [commandBody, clearBody]; split <;> first | exact .same | exact .clear _
  | status => simp only [commandBody, statusBody]; split <;> exact .same
  | faults => simp only [commandBody, faultsBody]; split <;> exact .same
  | clearFault => simp only [commandBody, clearFaultBody]; (repeat' split) <;> first | exact .same | exact .clearFault _
  | caps => simp only [commandBody, capsBody]; split <;> exact .same

/-- All that taking a record can do to the state. -/
theorem recordBody_effect (r : LinkRecord) (s : State) : RecordEffect s (recordBody r s).1 := by
  cases r with
  | bad => exact .same
  | text payload => exact textBody_effect payload s
  | unknown word params =>
    dsimp only [recordBody]
    split <;> exact .same
  | command k params =>
    dsimp only [recordBody]
    split
    · exact commandBody_effect k params s
    · exact .same

/-- What each pair of a TUNE keeps, the whole TUNE keeps. -/
theorem tuneAll_induct {P : State → Prop} (h : ∀ s p, P s → P (tune s p)) (ps : List (TuneKey × TuneValue)) {s : State}
    (hs : P s) : P (tuneAll ps s) := by
  unfold tuneAll
  generalize (ps.filter fun p => !p.1.isProof) ++ ps.filter (fun p => p.1.isProof) = qs
  induction qs generalizing s with
  | nil => exact hs
  | cons q qs ih => exact ih (h s q hs)

end Sys2Proof.Machine
end

section
/-! SUPPORT and PROOF. Which events and records leave a block as it is, and with that the promises about the film (R147 to
R160) and the dictionary (R63). -/

namespace Sys2Proof.Machine

-- One declaration at a time: it keeps the threads, and with them the memory, of the compile small.
set_option Elab.async false

/-! ### Blocks that events leave -/

@[simp] theorem codeRead_frame (s : State) :
    (codeRead s).pending = s.pending ∧ (codeRead s).pins = s.pins ∧ (codeRead s).hyu = s.hyu ∧ (codeRead s).sls = s.sls ∧
      (codeRead s).opc = s.opc ∧ (codeRead s).exc = s.exc ∧ (codeRead s).ftc = s.ftc ∧ (codeRead s).prc = s.prc := by
  unfold codeRead
  split <;> simp

@[simp] theorem referralExpires_frame (s : State) :
    (referralExpires s).pending = s.pending ∧ (referralExpires s).pins = s.pins ∧ (referralExpires s).txq = s.txq ∧
      (referralExpires s).sls = s.sls ∧ (referralExpires s).opc = s.opc ∧ (referralExpires s).exc = s.exc ∧
      (referralExpires s).ftc = s.ftc ∧ (referralExpires s).prc = s.prc := by
  unfold referralExpires
  split <;> simp

@[simp] theorem drumExpires_frame (s : State) (f : State → State) (hf : f = spinUpExpires ∨ f = monitorExpires ∨ f = restExpires) :
    (f s).txq = s.txq ∧ (f s).hyu = s.hyu ∧ (f s).sls = s.sls ∧ (f s).ftc = s.ftc ∧ (f s).prc = s.prc := by
  rcases hf with rfl | rfl | rfl
  · unfold spinUpExpires; split <;> simp
  · unfold monitorExpires; split <;> simp
  · unfold restExpires; split <;> simp

@[simp] theorem counts_frame (s : State) (f : State → State) (hf : f = countArrives ∨ f = remainingCounts) :
    (f s).txq = s.txq ∧ (f s).hyu = s.hyu ∧ (f s).ftc = s.ftc ∧ (f s).prc = s.prc := by
  have h := counts_keep (P := fun t => t.txq = s.txq ∧ t.hyu = s.hyu ∧ t.ftc = s.ftc ∧ t.prc = s.prc) (s := s)
    (fun _ _ => id) (fun _ _ _ _ => id) (fun t ht => by simpa using ht) ⟨rfl, rfl, rfl, rfl⟩
  rcases hf with rfl | rfl
  · exact h.1
  · exact h.2

theorem takeSurvey_frame (s : State) :
    (takeSurvey s).txq = s.txq ∧ (takeSurvey s).hyu = s.hyu ∧ (takeSurvey s).sls = s.sls ∧ (takeSurvey s).ftc = s.ftc ∧
      (takeSurvey s).prc = s.prc ∧ (takeSurvey s).link = s.link := by
  unfold takeSurvey
  split <;> simp

@[simp] theorem exposureAbort_frame (s : State) :
    (exposureAbort s).pending = s.pending ∧ (exposureAbort s).pins = s.pins ∧ (exposureAbort s).link = s.link ∧
      (exposureAbort s).txq = s.txq ∧ (exposureAbort s).hyu = s.hyu ∧ (exposureAbort s).sls = s.sls ∧
      (exposureAbort s).opc = s.opc ∧ (exposureAbort s).ftc = s.ftc ∧ (exposureAbort s).prc = s.prc := by
  unfold exposureAbort
  split <;> simp

theorem startAbort_frame (form : HaltForm) (s : State) :
    (startAbort form s).pending = s.pending ∧ (startAbort form s).pins = s.pins ∧ (startAbort form s).opc = s.opc ∧
      (startAbort form s).ftc = s.ftc := by
  simp [startAbort]

@[simp] theorem surveyRetry_frame (s : State) :
    (surveyRetry s).pending = s.pending ∧ (surveyRetry s).pins = s.pins ∧ (surveyRetry s).link = s.link ∧
      (surveyRetry s).txq = s.txq ∧ (surveyRetry s).cmp = s.cmp ∧ (surveyRetry s).hyu = s.hyu ∧
      (surveyRetry s).sls = s.sls ∧ (surveyRetry s).exc = s.exc ∧ (surveyRetry s).ftc = s.ftc ∧
      (surveyRetry s).prc = s.prc := by
  unfold surveyRetry
  split <;> simp

@[simp] theorem tuneAll_frame (ps : List (TuneKey × TuneValue)) (s : State) :
    (tuneAll ps s).pending = s.pending ∧ (tuneAll ps s).pins = s.pins ∧ (tuneAll ps s).txq = s.txq ∧
      (tuneAll ps s).hyu = s.hyu ∧ (tuneAll ps s).sls = s.sls := by
  refine tuneAll_induct (P := fun t => t.pending = s.pending ∧ t.pins = s.pins ∧ t.txq = s.txq ∧ t.hyu = s.hyu ∧
    t.sls = s.sls) (fun t p h => ?_) ps ⟨rfl, rfl, rfl, rfl, rfl⟩
  unfold tune
  split <;> simpa using h

@[simp] theorem clearFault_frame (b : FaultBlock) (s : State) :
    (clearFault b s).pending = s.pending ∧ (clearFault b s).pins = s.pins ∧ (clearFault b s).txq = s.txq ∧
      (clearFault b s).hyu = s.hyu := by
  cases b with
  | exposure =>
    have h := exposureRetry_works (b := true)
      ((s.withLink { s.link with exposure := .empty }).withOpc { s.opc with stallHold := false })
    simp only [clearFault, surveyRetry_frame]
    exact ⟨h.pending, h.pins, h.txq, h.hyu⟩
  | film => simp [clearFault]
  | proof => simp [clearFault]

/-! ### The film (R147 to R160) -/

theorem film_effect {c : Instr} {s u : State} (h : EventEffect s c u) (hs : s.ftc.Kept) : u.ftc.Kept := by
  cases h with
  | cassetteTake =>
    unfold cassetteTake
    split
    · exact hs
    · dsimp only
      split
      · have hlevel (t : Option Nat) (l : Sensor) : ({ s.ftc with sensorTimer := t, sensor := l } : Film).Kept := hs
        simpa using (hlevel _ _).remove
      · exact hs
  | cutterDone =>
    unfold cutterDone
    split
    · simpa using hs.cutDone
    · exact hs
  | cassetteLevel level =>
    unfold cassetteLevel
    split <;> exact hs
  | stepperDone => exact (stepperDone_works (b := true) s).kept hs
  | moveJams => exact (moveJams_works s).kept hs
  | cutterFails => exact (cutterFails_works s).kept hs
  | photocell => exact (photocell_works (b := true) s).kept hs
  | windowEnds => exact (windowEnds_works s).kept hs
  | charged => exact (charged_works (b := true) s).kept hs
  | countArrives => simpa [counts_frame] using hs
  | remainingCounts => simpa [counts_frame] using hs
  | spinUpExpires => simpa [drumExpires_frame] using hs
  | monitorExpires => simpa [drumExpires_frame] using hs
  | restExpires => simpa [drumExpires_frame] using hs
  | portFree => exact hs
  | codeRead | referralExpires | mechComplete | mechTimeout | escComplete | escTimeout | doorLevel | doorTake
  | indexArrives | grantExpires => simpa using hs

theorem film_tune (s : State) (p : TuneKey × TuneValue) (hs : s.ftc.Kept) : (tune s p).ftc.Kept := by
  unfold tune
  split
  case h_4 => exact (testLowFilm_works (b := true) _).kept hs
  all_goals exact hs

theorem film_clearFault (b : FaultBlock) (s : State) (hs : s.ftc.Kept) : (clearFault b s).ftc.Kept := by
  cases b with
  | exposure =>
    simp only [clearFault, surveyRetry_frame]
    exact (exposureRetry_works (b := true) _).kept hs
  | film => exact (retryFilm_works (b := true) _).kept hs
  | proof => simpa [clearFault] using hs

theorem film_record {s u : State} (h : RecordEffect s u) (hs : s.ftc.Kept) : u.ftc.Kept := by
  cases h with
  | cassette n => exact (testLowFilm_works (b := true) _).kept (Film.Kept.load s.ftc n)
  | feedCut => exact (startCut_works (b := true) 0 s).kept hs
  | stop form => exact (takeStop_works (b := true) form s).kept hs
  | resume => exact (resume_works (b := true) s).kept hs
  | tune ps => exact tuneAll_induct film_tune ps hs
  | clearFault b => exact film_clearFault b s hs
  | abort form => rw [(startAbort_frame form s).2.2.2]; exact hs
  | survey => rw [(takeSurvey_frame s).2.2.2.1]; exact hs
  | textWake | decided | face | lens | rest | wake => simpa using hs
  | same | text | watch | job | pairs | dictAdd | dictDel | dictClear | abortHard | mount | reading | temps
  | intensity | reset | clear => exact hs

theorem film_react {s t : State} (h : react s = some t) (hs : s.ftc.Kept) : t.ftc.Kept := by
  rcases react_cases h with h | h | h | h | h | h | h | h
  · exact (exposureReact_works (b := true) h).kept hs
  · simpa [surveyReact_frame s t h] using hs
  · simpa [releaseOldest_frame s t h] using hs
  · simpa [skipReact_frame s t h] using hs
  · simpa [composerStep_frame s t h] using hs
  · exact (exposureTake_works (b := true) h).kept hs
  · simpa [composerRest_frame s t h] using hs
  · simpa [abortReact_frame s t h] using hs

theorem film_keeps : StepKeeps fun s => s.ftc.Kept where
  pending _ _ h := h
  reset _ _ := .reset
  rx _ _ h := h
  txFree _ h := h
  pump _ h := by simpa using h
  record r s _ h := show (recordBody r s).1.ftc.Kept from film_record (recordBody_effect r s) h
  effect _ _ _ := film_effect
  byte _ _ h := by simpa using h
  react _ _ := film_react
  spin _ h := by simpa using h
  rest _ h := by simpa using h
  proof _ h := by simpa using h
  idle _ h := by simpa using h

/-- Settles O55: every operation of the film keeps its positions, its marks and the targets it has issued on the galley's
film. -/
theorem filmStaysWithinTheCassette : Obligations.FilmStaysWithinTheCassette := by
  unfold Obligations.FilmStaysWithinTheCassette
  exact fun _ _ h e => film_keeps.step h e

end Sys2Proof.Machine
end

section
/-! SUPPORT and PROOF. The line parameters (R6, R20): what each operation of the composer leaves of the following set and of
the open line's set. -/

namespace Sys2Proof.Machine

-- One declaration at a time: it keeps the threads, and with them the memory, of the compile small.
set_option Elab.async false

/-- The line parameters of the composer are in range (R6, R20). -/
def Composer.SetsInRange (c : Composer) : Prop := c.following.InRange ∧ ∀ l, c.line = some l → l.set.InRange

/-- The following set stands, and the open line has the set it had, or the following set. -/
def Composer.SetsStay (c c' : Composer) : Prop :=
  c'.following = c.following ∧
    ∀ l', c'.line = some l' → l'.set = c.following ∨ ∃ l, c.line = some l ∧ l'.set = l.set

namespace Composer.SetsStay

theorem inRange {c c' : Composer} (h : c.SetsStay c') (hc : c.SetsInRange) : c'.SetsInRange := by
  refine ⟨h.1 ▸ hc.1, fun l' hl' => ?_⟩
  rcases h.2 l' hl' with e | ⟨l, hl, e⟩ <;> rw [e]
  · exact hc.1
  · exact hc.2 l hl

theorem of_eq {c c' : Composer} (hf : c'.following = c.following) (hl : c'.line = c.line) : c.SetsStay c' :=
  ⟨hf, fun l' h => .inr ⟨l', hl ▸ h, rfl⟩⟩

theorem of_none {c c' : Composer} (hf : c'.following = c.following) (hl : c'.line = none) : c.SetsStay c' :=
  ⟨hf, fun _ h => nomatch hl.symm.trans h⟩

theorem of_map {c c' : Composer} (g : OpenLine → OpenLine) (hg : ∀ l, (g l).set = l.set)
    (hf : c'.following = c.following) (hl : c'.line = c.line.map g) : c.SetsStay c' := by
  refine ⟨hf, fun l' h => .inr ?_⟩
  obtain ⟨l, hcl, rfl⟩ := Option.map_eq_some_iff.mp (hl ▸ h)
  exact ⟨l, hcl, hg l⟩

theorem refl (c : Composer) : c.SetsStay c := of_eq rfl rfl

theorem trans {a b c : Composer} (h : a.SetsStay b) (h' : b.SetsStay c) : a.SetsStay c := by
  refine ⟨h'.1.trans h.1, fun l'' hl'' => ?_⟩
  rcases h'.2 l'' hl'' with e | ⟨l', hl', e⟩
  · exact .inl (e.trans h.1)
  · rcases h.2 l' hl' with e' | ⟨l, hl, e'⟩
    · exact .inl (e.trans e')
    · exact .inr ⟨l, hl, e.trans e'⟩

end Composer.SetsStay

open Composer (SetsStay)

/-! ### Codes -/

theorem flagLine_sets (f : LineFlag) (c : Composer) : c.SetsStay (c.flagLine f) :=
  .of_map (fun l => { l with flags := addLineFlag f l.flags }) (fun _ => rfl) rfl rfl

theorem setReturn_sets (k : Fin 4) (c : Composer) : c.SetsStay (c.setReturn k) := by
  unfold Composer.setReturn
  split
  · split
    · exact .of_eq rfl rfl
    · rename_i l hl _
      exact ⟨rfl, fun l' h => .inr ⟨l, hl, by cases h; rfl⟩⟩
  · exact .of_eq rfl rfl

theorem resolveSize_sets {o : Optics} {req : Nat} {c c' : Composer} (h : c.resolveSize o req = some c') : c.SetsStay c' := by
  unfold Composer.resolveSize at h
  obtain ⟨⟨l, subst⟩, _, rfl⟩ := Option.map_eq_some_iff.mp h
  cases subst
  · exact .of_eq rfl rfl
  · exact flagLine_sets .sizeSubst _

theorem withLens_sets {o : Optics} {c c' : Composer} {l : LensSel} (h : c.withLens o = some (c', l)) : c.SetsStay c' := by
  rcases withLens_cases h with rfl | h
  · exact .refl _
  · exact resolveSize_sets h

theorem stallSetup_sets (cause : StallCause) (s : State) : s.cmp.SetsStay (stallSetup cause s).cmp := by
  rcases stallSetup_cases cause s with ⟨_, h⟩ | ⟨_, h⟩ <;> rw [h] <;> exact .of_eq rfl rfl

theorem codeDone_sets {c : Composer} {s : State} (h : s.cmp.SetsStay c) : s.cmp.SetsStay (codeDone c s).cmp :=
  h.trans (.of_eq rfl rfl)

theorem pushElem_sets (byte : Byte) (mk : Fin 8 → LensSel → Elem) (s : State) :
    s.cmp.SetsStay (pushElem byte mk s).cmp := by
  unfold pushElem
  split
  · exact stallSetup_sets .lens s
  · rename_i h
    exact codeDone_sets ((withLens_sets h).trans (.of_eq rfl rfl))

/-- A line parameter keeps the range where the change of a set does (R20). -/
theorem setParam_inRange {f : LineSet → LineSet} (hf : ∀ l : LineSet, l.InRange → (f l).InRange) {c : Composer}
    (h : c.SetsInRange) : (c.setParam f).SetsInRange := by
  refine ⟨hf _ h.1, fun l' hl' => ?_⟩
  obtain ⟨l, hl, rfl⟩ := Option.map_eq_some_iff.mp hl'
  split
  · exact h.2 l hl
  · exact hf _ (h.2 l hl)

/-- Indents brought into agreement leave an available width of 240 (R20). -/
theorem agree_inRange {l : LineSet} (hm : 240 ≤ l.measure ∧ l.measure ≤ 17280) (hl : -2880 ≤ l.leading ∧ l.leading ≤ 2880) :
    l.agree.InRange := by
  unfold LineSet.agree LineSet.InRange
  dsimp only
  split
  · exact ⟨hm.1, hm.2, by omega, hl⟩
  · split
    · exact ⟨hm.1, hm.2, by dsimp only; omega, hl⟩
    · exact ⟨hm.1, hm.2, by dsimp only; omega, hl⟩

/-- A code's clamped parameters are in the range of the line parameters (R16, R20, R21). -/
def Code.InRange : Code → Prop
  | .lead l => -2880 ≤ l ∧ l ≤ 2880
  | .measure m => 240 ≤ m ∧ m ≤ 17280
  | _ => True

theorem selector_inRange {n v : Nat} {f : Fin n → Code} (h : ∀ k, (f k).InRange) : (selector n v f).InRange := by
  unfold selector
  split
  · exact h _
  · trivial

theorem clampInt_bounds {low high : Int} (h : low ≤ high) (x : Int) :
    low ≤ clampInt low high x ∧ clampInt low high x ≤ high := by
  unfold clampInt
  omega

theorem clampNat_bounds {low high : Nat} (h : low ≤ high) (x : Nat) :
    low ≤ clampNat low high x ∧ clampNat low high x ≤ high := by
  unfold clampNat
  omega

theorem readCode_inRange (c : Byte) (ps : Text) : (readCode c ps).InRange := by
  unfold readCode
  split
  case h_4 => exact clampInt_bounds (by decide) _
  case h_6 => exact clampNat_bounds (by decide) _
  case h_21 => split <;> trivial
  all_goals first
    | trivial
    | exact selector_inRange fun _ => trivial

theorem codeDone_inRange {c : Composer} {s : State} (h : c.SetsInRange) : (codeDone c s).cmp.SetsInRange := h

/-- A code changes the sets only as a line parameter, whose value is in range (R16 to R26). -/
theorem actCode_inRange (byte : Byte) {code : Code} (hcode : code.InRange) {s : State} (h : s.cmp.SetsInRange) :
    (actCode byte code s).cmp.SetsInRange := by
  cases code with
  | lead l =>
    exact setParam_inRange (f := fun p => { p with leading := l }) (fun p hp => ⟨hp.1, hp.2.1, hp.2.2.1, hcode⟩) h
  | quad q => exact setParam_inRange (f := fun p => { p with quad := q }) (fun p hp => hp) h
  | measure m =>
    exact setParam_inRange (f := fun p => { p with measure := m }.agree)
      (fun p hp => agree_inRange (l := { p with measure := m }) hcode hp.2.2.2) h
  | indent l r =>
    exact setParam_inRange (f := fun p => { p with left := l, right := r }.agree)
      (fun p hp => agree_inRange (l := { p with left := l, right := r }) ⟨hp.1, hp.2.1⟩ hp.2.2.2) h
  | size n =>
    dsimp only [actCode]
    split
    · exact (stallSetup_sets .lens s).inRange h
    · rename_i h1
      exact codeDone_inRange ((resolveSize_sets h1).inRange h)
  | char slot =>
    dsimp only [actCode]
    split
    · exact (stallSetup_sets .mount s).inRange h
    · exact (pushElem_sets byte _ s).inRange h
  | fixed f => exact (pushElem_sets byte _ s).inRange h
  | undefined => exact codeDone_inRange ((flagLine_sets .code _).inRange h)
  | mark k =>
    have hm : s.cmp.SetsStay (s.cmp.onLine (OpenLine.addMark k)) := .of_map (OpenLine.addMark k) (fun _ => rfl) rfl rfl
    exact codeDone_inRange (hm.inRange h)
  | ret k => exact codeDone_inRange ((setReturn_sets k _).inRange h)
  | fill | face _ | soft | tie | hyph _ | ending _ | space => exact h

/-! ### The steps of the composer -/

theorem openLine_sets (s : State) : s.cmp.SetsStay (openLine s).cmp :=
  ⟨rfl, fun l' h => .inl (by cases h; rfl)⟩

theorem ensureOpen_sets (s : State) : s.cmp.SetsStay (ensureOpen s).cmp := by
  unfold ensureOpen
  split
  · exact .refl _
  · exact openLine_sets s

theorem closeLine_sets (brk : BreakKind) (cut : Bool) (flags : List LineFlag) (rest : WordBuf)
    (carried : Option BreakOpp) (s : State) : s.cmp.SetsStay (closeLine brk cut flags rest carried s).cmp := by
  unfold closeLine
  split
  · exact .of_eq rfl rfl
  · exact .of_none rfl rfl

theorem examineStep_sets (l : OpenLine) (opp : BreakOpp) (s : State) : s.cmp.SetsStay (examineStep l opp s).cmp := by
  dsimp only [examineStep]
  split
  · exact stallSetup_sets .hyphen s
  · split <;> exact .of_eq rfl rfl

theorem fitStep_sets (opp : BreakOpp) (s : State) : s.cmp.SetsStay (fitStep opp s).cmp := by
  refine (ensureOpen_sets s).trans ?_
  unfold fitStep
  generalize ensureOpen s = s1
  dsimp only
  split
  · exact .refl _
  · split
    · exact .of_eq rfl rfl
    · split
      · exact .of_eq rfl rfl
      · split
        · exact closeLine_sets _ _ _ _ _ s1
        · split
          · exact examineStep_sets _ opp s1
          · exact .of_eq rfl rfl

theorem placeStep_sets (opp : BreakOpp) (s : State) : s.cmp.SetsStay (placeStep opp s).cmp := by
  dsimp only [placeStep]
  split
  · exact .of_eq rfl rfl
  · rename_i l hl
    split
    · exact .of_eq rfl rfl
    · exact ⟨rfl, fun l' h => .inr ⟨l, hl, by cases h; rfl⟩⟩

theorem breakStep_sets (b : Break) (flags : List LineFlag) (opp : BreakOpp) (s : State) :
    s.cmp.SetsStay (breakStep b flags opp s).cmp := by
  dsimp only [breakStep]
  split
  · exact .of_eq rfl rfl
  · split
    · exact .of_eq rfl rfl
    · exact .of_none rfl rfl

theorem oversetStep_sets (flags : List LineFlag) (opp : BreakOpp) (s : State) :
    s.cmp.SetsStay (oversetStep flags opp s).cmp := by
  dsimp only [oversetStep]
  split
  · exact .of_eq rfl rfl
  · split
    · exact .of_eq rfl rfl
    · exact .of_none rfl rfl

theorem noBreakStep_sets (flags : List LineFlag) (opp : BreakOpp) (s : State) :
    s.cmp.SetsStay (noBreakStep flags opp s).cmp := by
  unfold noBreakStep
  split
  · exact .of_eq rfl rfl
  · split
    · exact closeLine_sets _ _ _ _ _ s
    · exact .of_eq rfl rfl

theorem enterStore_sets (r : LineRecord) (s : State) : s.cmp.SetsStay (enterStore r s).cmp := by
  dsimp only [enterStore]
  split <;> exact .of_eq rfl rfl

theorem offerStep_sets (r : LineRecord) (carried : Option BreakOpp) (s : State) :
    s.cmp.SetsStay (offerStep r carried s).cmp := by
  dsimp only [offerStep]
  split
  · exact .of_eq rfl rfl
  · refine (enterStore_sets r s).trans ?_
    split
    · exact .of_eq rfl rfl
    · split
      · exact .of_eq rfl rfl
      · exact (openLine_sets (enterStore r s)).trans (.of_eq rfl rfl)

theorem afterStep_sets (opp : BreakOpp) (s : State) : s.cmp.SetsStay (afterStep opp s).cmp := by
  cases opp with
  | space size => exact .of_eq rfl rfl
  | ending k => cases k <;> exact (ensureOpen_sets s).trans (closeLine_sets _ _ _ _ _ _)
  | split byte ps => exact (ensureOpen_sets s).trans (.of_eq rfl rfl)

theorem codeStep_inRange (byte : Byte) (ps : Text) {s : State} (h : s.cmp.SetsInRange) :
    (codeStep byte ps s).cmp.SetsInRange := by
  have h1 := (ensureOpen_sets s).inRange h
  dsimp only [codeStep]
  split
  · exact h1
  · exact actCode_inRange byte (readCode_inRange byte ps) h1

theorem taskStep_inRange (t : Task) {s : State} (h : s.cmp.SetsInRange) : (taskStep t s).cmp.SetsInRange := by
  cases t with
  | code byte ps => exact codeStep_inRange byte ps h
  | fit opp => exact (fitStep_sets opp s).inRange h
  | place opp => exact (placeStep_sets opp s).inRange h
  | brk b flags opp => exact (breakStep_sets b flags opp s).inRange h
  | noBreak flags opp => exact (noBreakStep_sets flags opp s).inRange h
  | overset flags opp => exact (oversetStep_sets flags opp s).inRange h
  | offer r carried => exact (offerStep_sets r carried s).inRange h
  | after opp => exact (afterStep_sets opp s).inRange h
  | decision opp => exact h

/-! ### The step -/

theorem composerRest_sets {s t : State} (h : composerRest s = some t) : s.cmp.SetsStay t.cmp := by
  unfold composerRest at h
  (repeat' split at h) <;> cases h <;> exact .of_eq rfl rfl

theorem abortReact_sets {s t : State} (h : abortReact s = some t) : s.cmp.SetsStay t.cmp := by
  unfold abortReact at h
  split at h
  · cases h
    exact .of_eq (by simp [completeAbort, Composer.abortEnds]) (by simp [completeAbort, Composer.abortEnds])
  · cases h

theorem react_setsInRange (s t : State) (h : react s = some t) (hs : s.cmp.SetsInRange) : t.cmp.SetsInRange := by
  rcases react_cases h with h | h | h | h | h | h | h | h
  · simpa [exposureReact_frame s t h] using hs
  · simpa [surveyReact_frame s t h] using hs
  · simpa [releaseOldest_frame s t h] using hs
  · simpa [skipReact_frame s t h] using hs
  · rcases composerStep_cases h with ⟨k, _, _, rfl⟩ | ⟨_, _, _, _, rfl⟩
    · exact taskStep_inRange k hs
    · exact hs
  · simpa [exposureTake_frame s t h] using hs
  · exact (composerRest_sets h).inRange hs
  · exact (abortReact_sets h).inRange hs

theorem endReferral_sets (how : LastEnd) (p : Option Position) (flags : List LineFlag) (s : State) :
    s.cmp.SetsStay (endReferral how p flags s).cmp := by
  dsimp only [endReferral]
  split <;> exact .of_eq rfl rfl

theorem retrySetup_sets (s : State) : s.cmp.SetsStay (retrySetup s).cmp := by
  rcases retrySetup_cases s with ⟨_, h⟩ | ⟨_, h⟩ <;> rw [h] <;> exact .of_eq rfl rfl

theorem recordEffect_sets {s u : State} (h : RecordEffect s u) : s.cmp.SetsStay u.cmp := by
  cases h with
  | decided p => exact endReferral_sets _ p _ s
  | face m x => exact retrySetup_sets (s.withOpc (s.opc.setMount m x))
  | lens p size => exact retrySetup_sets (s.withOpc (s.opc.setLens p size))
  | abort form => exact .of_none (by simp [startAbort, Composer.abandon]) (by simp [startAbort, Composer.abandon])
  | job p => exact .of_eq rfl rfl
  | _ => exact .of_eq (by simp) (by simp)

theorem codeRead_sets (s : State) : s.cmp.SetsStay (codeRead s).cmp := by
  have gather (c : Byte) (ps bytes : Text) : s.cmp.SetsStay (takeCode.gather s c ps bytes).cmp := by
    dsimp only [takeCode.gather]
    split <;> exact .of_eq (by simp) (by simp)
  unfold codeRead takeCode
  split
  · split
    · exact .refl _
    · exact gather _ _ _
    · exact gather _ _ _
  · exact .refl _

theorem referralExpires_sets (s : State) : s.cmp.SetsStay (referralExpires s).cmp := by
  unfold referralExpires
  split
  · exact endReferral_sets _ _ _ s
  · exact .refl _

theorem reset_setsInRange : Composer.reset.SetsInRange :=
  ⟨by unfold LineSet.InRange; decide, fun _ h => nomatch h⟩

/-- Settles O23: a line parameter's value is clamped and the indents brought into agreement, and every other operation of
the composer leaves the following set and gives the open line the set it had or the following one. -/
theorem indentsAgreeWithTheMeasure : Obligations.IndentsAgreeWithTheMeasure := by
  unfold Obligations.IndentsAgreeWithTheMeasure
  exact fun s t h hs => step_cmp_induct (P := Composer.SetsInRange) reset_setsInRange
    (fun r s => (recordEffect_sets (recordBody_effect r s)).inRange) react_setsInRange
    (fun s => (codeRead_sets s).inRange) (fun s => (referralExpires_sets s).inRange) hs h

end Sys2Proof.Machine
end

section
/-! SUPPORT and PROOF. The dictionary (R63 to R65): the order of its words, an entry written at its place, and what keeps it
ordered and within its limits. -/

namespace Sys2Proof.Machine

-- One declaration at a time: it keeps the threads, and with them the memory, of the compile small.
set_option Elab.async false

/-! ### The order of the words -/

theorem wordBefore_irrefl (a : List (Fin 26)) : wordBefore a a = false := by
  induction a with
  | nil => rfl
  | cons x as ih => simpa [wordBefore] using ih

theorem wordBefore_trans {a b c : List (Fin 26)} (hab : wordBefore a b = true) (hbc : wordBefore b c = true) :
    wordBefore a c = true := by
  induction a generalizing b c with
  | nil =>
    cases c with
    | nil => cases b <;> simp [wordBefore] at hab hbc
    | cons z cs => rfl
  | cons x as ih =>
    cases b with
    | nil => simp [wordBefore] at hab
    | cons y bs =>
      cases c with
      | nil => simp [wordBefore] at hbc
      | cons z cs =>
        simp only [wordBefore] at hab hbc ⊢
        split at hab
        · subst_vars
          split at hbc <;> rename_i hyz
          · rw [if_pos hyz]
            exact ih hab hbc
          · rw [if_neg hyz]
            exact hbc
        · split at hbc
          · subst_vars
            simpa [*] using hab
          · simp only [decide_eq_true_eq] at hab hbc
            have hxz : x ≠ z := fun h => by subst h; omega
            simpa [hxz] using hab.trans hbc

theorem wordBefore_total {a b : List (Fin 26)} (hne : a ≠ b) (h : wordBefore a b = false) : wordBefore b a = true := by
  induction a generalizing b with
  | nil =>
    cases b with
    | nil => exact absurd rfl hne
    | cons y bs => simp [wordBefore] at h
  | cons x as ih =>
    cases b with
    | nil => rfl
    | cons y bs =>
      simp only [wordBefore] at h ⊢
      split at h
      · rename_i hxy
        subst hxy
        simpa using ih (fun e => hne (by rw [e])) h
      · rename_i hxy
        simp only [decide_eq_false_iff_not] at h
        have hv : x.val ≠ y.val := fun e => hxy (Fin.ext e)
        simpa [Ne.symm hxy] using (by omega : y.val < x.val)

/-- The words of a dictionary stand in ascending order, each once (R63). -/
def Ordered (d : List DictEntry) : Prop := (d.map DictEntry.word).Pairwise fun a b => wordBefore a b = true

theorem ordered_cons {e : DictEntry} {d : List DictEntry} :
    Ordered (e :: d) ↔ (∀ f ∈ d, wordBefore e.word f.word = true) ∧ Ordered d := by
  simp [Ordered]

theorem Ordered.word_ne {e : DictEntry} {d : List DictEntry} (h : Ordered (e :: d)) {f : DictEntry} (hf : f ∈ d) :
    f.word ≠ e.word := by
  intro he
  have := (ordered_cons.mp h).1 f hf
  rw [he, wordBefore_irrefl] at this
  cases this

/-! ### An entry written -/

/-- A dictionary with an entry written has that entry and every entry of another word (R64). -/
theorem mem_dictInsert {e : DictEntry} {d : List DictEntry} (h : Ordered d) (f : DictEntry) :
    f ∈ dictInsert e d ↔ f = e ∨ (f ∈ d ∧ f.word ≠ e.word) := by
  induction d with
  | nil => simp [dictInsert]
  | cons x ds ih =>
    obtain ⟨hx, hds⟩ := ordered_cons.mp h
    unfold dictInsert
    split
    · rename_i hw
      have hne (g : DictEntry) (hg : g ∈ ds) : g.word ≠ e.word := hw ▸ h.word_ne hg
      simp only [List.mem_cons]
      constructor
      · rintro (rfl | hf)
        · exact .inl rfl
        · exact .inr ⟨.inr hf, hne f hf⟩
      · rintro (rfl | ⟨rfl | hf, hfw⟩)
        · exact .inl rfl
        · exact absurd hw hfw
        · exact .inr hf
    · rename_i hw
      split
      · rename_i hb
        have hne (g : DictEntry) (hg : g ∈ x :: ds) : g.word ≠ e.word := by
          intro hge
          rcases List.mem_cons.mp hg with rfl | hg
          · exact hw hge
          · have := wordBefore_trans hb (hx g hg)
            rw [hge, wordBefore_irrefl] at this
            cases this
        simp only [List.mem_cons (a := f) (b := e)]
        exact ⟨Or.imp_right fun hf => ⟨hf, hne f hf⟩, Or.imp_right And.left⟩
      · simp only [List.mem_cons, ih hds]
        constructor
        · rintro (rfl | rfl | ⟨hf, hfw⟩)
          · exact .inr ⟨.inl rfl, hw⟩
          · exact .inl rfl
          · exact .inr ⟨.inr hf, hfw⟩
        · rintro (rfl | ⟨rfl | hf, hfw⟩)
          · exact .inr (.inl rfl)
          · exact .inl rfl
          · exact .inr (.inr ⟨hf, hfw⟩)

theorem ordered_dictInsert {e : DictEntry} {d : List DictEntry} (h : Ordered d) : Ordered (dictInsert e d) := by
  induction d with
  | nil => simp [dictInsert, Ordered]
  | cons x ds ih =>
    obtain ⟨hx, hds⟩ := ordered_cons.mp h
    unfold dictInsert
    split
    · rename_i hw
      exact ordered_cons.mpr ⟨fun f hf => hw ▸ hx f hf, hds⟩
    · rename_i hw
      split
      · rename_i hb
        refine ordered_cons.mpr ⟨fun f hf => ?_, h⟩
        rcases List.mem_cons.mp hf with rfl | hf
        · exact hb
        · exact wordBefore_trans hb (hx f hf)
      · rename_i hb
        refine ordered_cons.mpr ⟨fun f hf => ?_, ih hds⟩
        rcases (mem_dictInsert hds f).mp hf with rfl | ⟨hf, _⟩
        · exact wordBefore_total (Ne.symm hw) (by simpa using hb)
        · exact hx f hf

/-- An entry whose word stands in the dictionary leaves the words as they are (R64). -/
theorem words_dictInsert {e : DictEntry} {d : List DictEntry} (h : Ordered d) (hk : ∃ f ∈ d, f.word = e.word) :
    (dictInsert e d).map DictEntry.word = d.map DictEntry.word := by
  induction d with
  | nil => simp at hk
  | cons x ds ih =>
    obtain ⟨hx, hds⟩ := ordered_cons.mp h
    obtain ⟨f, hf, hfe⟩ := hk
    unfold dictInsert
    split
    · rename_i hw
      simp [hw]
    · rename_i hw
      have hf : f ∈ ds := (List.mem_cons.mp hf).resolve_left fun h => hw (h ▸ hfe)
      split
      · rename_i hb
        have := wordBefore_trans hb (hx f hf)
        rw [hfe, wordBefore_irrefl] at this
        cases this
      · simp [ih hds ⟨f, hf, hfe⟩]

/-- An entry of a new word is one more (R64). -/
theorem dictInsert_of_new {e : DictEntry} {d : List DictEntry} (hk : ∀ f ∈ d, f.word ≠ e.word) :
    (dictInsert e d).Perm (e :: d) := by
  induction d with
  | nil => exact .refl _
  | cons x ds ih =>
    unfold dictInsert
    rw [if_neg (hk x (by simp))]
    split
    · exact .refl _
    · exact ((ih fun f hf => hk f (by simp [hf])).cons x).trans (.swap e x ds)

theorem lettersUsed_eq (h : Hyphenation) : h.lettersUsed = ((h.dict.map DictEntry.word).map List.length).sum := by
  simp [Hyphenation.lettersUsed, Function.comp_def]

/-! ### Words and positions -/

theorem inRange_iff (low high v : Int) : inRange low high v = true ↔ low ≤ v ∧ v ≤ high := by simp [inRange]

/-- The test of DICTADD's positions says that they ascend strictly between `low` and `len` (R64). -/
theorem ascending_iff (low len : Nat) (ps : List Int) :
    ascending low len ps = true ↔ ps.Pairwise (· < ·) ∧ ∀ p ∈ ps, (low : Int) < p ∧ p < len := by
  induction ps generalizing low with
  | nil => simp [ascending]
  | cons p ps ih =>
    simp only [ascending, Bool.and_eq_true, inRange_iff, ih, List.pairwise_cons, List.forall_mem_cons]
    constructor
    · rintro ⟨hp, hps, hall⟩
      exact ⟨⟨fun q hq => by have := hall q hq; omega, hps⟩, by omega, fun q hq => by have := hall q hq; omega⟩
    · rintro ⟨⟨hlt, hps⟩, hp, hall⟩
      exact ⟨by omega, hps, fun q hq => by have := hlt q hq; have := hall q hq; omega⟩

theorem lookup_isSome (h : Hyphenation) (w : List (Fin 26)) : (h.lookup w).isSome = true ↔ ∃ e ∈ h.dict, e.word = w := by
  simp [Hyphenation.lookup]

theorem roomFor_iff (len : Nat) (h : Hyphenation) :
    h.roomFor len = true ↔ h.dict.length < 256 ∧ h.lettersUsed + len ≤ 3072 :=
  decide_eq_true_iff

/-- The entry of a DICTADD that has passed its tests is well made (R64). -/
theorem wellMade_of_ascending {word : List (Fin 26)} {ns : List Int} (hlen : 2 ≤ word.length ∧ word.length ≤ 24)
    (hpos : ascending 0 word.length ns = true) :
    ({ word := word, positions := ns.map Int.toNat } : DictEntry).WellMade := by
  obtain ⟨hlt, hall⟩ := (ascending_iff 0 word.length ns).mp hpos
  refine ⟨hlen.1, hlen.2, ?_, ?_⟩
  · refine List.pairwise_map.mpr (hlt.imp_of_mem fun ha hb hab => ?_)
    have := hall _ ha
    omega
  · intro p hp
    obtain ⟨n, hn, rfl⟩ := List.mem_map.mp hp
    have := hall n hn
    dsimp only
    omega

/-! ### The invariant -/

theorem dictKept_put {h : Hyphenation} {e : DictEntry} (hk : h.DictKept) (he : e.WellMade)
    (hroom : (h.lookup e.word).isSome = true ∨ h.roomFor e.word.length = true) : (h.put e).DictKept := by
  obtain ⟨hord, hn, hl, hwm⟩ := hk
  have hmade : ∀ f ∈ dictInsert e h.dict, f.WellMade := fun f hf => by
    rcases (mem_dictInsert hord f).mp hf with rfl | ⟨hf, _⟩
    · exact he
    · exact hwm f hf
  refine ⟨ordered_dictInsert hord, ?_, ?_, hmade⟩ <;> by_cases hknown : ∃ f ∈ h.dict, f.word = e.word
  · have := congrArg List.length (words_dictInsert hord hknown)
    simp only [List.length_map] at this
    exact this.trans_le hn
  · have hr := (roomFor_iff _ h).mp (hroom.resolve_left fun hs => hknown ((lookup_isSome h e.word).mp hs))
    have := (dictInsert_of_new (e := e) fun f hf hfe => hknown ⟨f, hf, hfe⟩).length_eq
    simp only [List.length_cons] at this
    exact this.trans_le hr.1
  · rw [lettersUsed_eq] at hl ⊢
    simpa [Hyphenation.put, words_dictInsert hord hknown] using hl
  · have hr := (roomFor_iff _ h).mp (hroom.resolve_left fun hs => hknown ((lookup_isSome h e.word).mp hs))
    have hp := ((dictInsert_of_new (e := e) fun f hf hfe => hknown ⟨f, hf, hfe⟩).map fun f => f.word.length).sum_eq
    simp only [List.map_cons, List.sum_cons] at hp
    unfold Hyphenation.lettersUsed Hyphenation.put at *
    simp only [Config.dictLetters]
    omega

theorem dictKept_filter {h : Hyphenation} (hk : h.DictKept) (keep : DictEntry → Bool) :
    ({ h with dict := h.dict.filter keep } : Hyphenation).DictKept := by
  obtain ⟨hord, hn, hl, hwm⟩ := hk
  have hsub : (h.dict.filter keep).Sublist h.dict := List.filter_sublist
  exact ⟨hord.sublist (hsub.map _), hsub.length_le.trans hn, ((hsub.map _).sum_le_sum (by simp)).trans hl,
    fun e he => hwm e (hsub.subset he)⟩

theorem dictKept_empty (h : Hyphenation) : ({ h with dict := [] } : Hyphenation).DictKept := by
  simp [Hyphenation.DictKept, Hyphenation.lettersUsed]

end Sys2Proof.Machine
end

section
/-! SUPPORT. What follows an event leaves of the 410, once for all of its reactions and services: the relation `FollowsUp`. -/

namespace Sys2Proof.Machine

-- One declaration at a time: it keeps the threads, and with them the memory, of the compile small.
set_option Elab.async false

/-! ### What each block keeps -/

/-- A Link Interface whose receiver, rate and fault records stand, and whose pending names are set flags where they were. -/
structure Link.FollowsUp (l l' : Link) : Prop where
  rate : l'.rate = l.rate
  rx : l'.rx = l.rx
  resetTaken : l'.resetTaken = l.resetTaken
  faults : l.SameFaults l'
  names : l.NamesSet → l'.NamesSet
  replies : l'.replies.length ≤ l.replies.length

/-- The pair table and the dictionary stand. -/
def Hyphenation.SameTables (h h' : Hyphenation) : Prop := h'.pairs = h.pairs ∧ h'.dict = h.dict

/-- The tables, the door, the settings, the stall hold and the survey request of the Optics Controller stand. -/
def Optics.SameTables (o o' : Optics) : Prop :=
  o'.mounts = o.mounts ∧ o'.lenses = o.lenses ∧ o'.door = o.door ∧ o'.doorTimer = o.doorTimer ∧ o'.debounce = o.debounce ∧
    o'.restInterval = o.restInterval ∧ o'.stallHold = o.stallHold ∧ o'.surveyRequest = o.surveyRequest

/-- The settings of the Proof Controller, its last printer code and a message half received stand. -/
def Proof.SameSettings (p p' : Proof) : Prop :=
  p'.mode = p.mode ∧ p'.grant = p.grant ∧ p'.lastCode = p.lastCode ∧ p'.half = p.half

/-- At most 15 rows are outstanding, and room is granted for 15 at most (9.1). -/
def Proof.RowsKept (p : Proof) : Prop := p.out.length ≤ Config.printerRows ∧ p.room ≤ Config.printerRows

/-- What the reactions and services that follow an event leave of the 410. -/
structure FollowsUp (s t : State) : Prop where
  pending : t.pending = s.pending
  pins : t.pins = s.pins
  txq : t.txq = s.txq
  link : s.link.FollowsUp t.link
  hyu : s.hyu.SameTables t.hyu
  opc : s.opc.SameTables t.opc
  exc : s.exc.SameSettings t.exc
  flash : t.exc.flash = none ∨ t.exc.flash = s.exc.flash
  armed : FlashSafe s → FlashSafe t
  ftc : s.ftc.SameSettings t.ftc
  prc : s.prc.SameSettings t.prc
  rows : s.prc.RowsKept → t.prc.RowsKept

theorem Link.FollowsUp.refl (l : Link) : l.FollowsUp l := ⟨rfl, rfl, rfl, ⟨rfl, rfl, rfl⟩, id, le_rfl⟩

theorem Link.FollowsUp.trans {l l' l'' : Link} (h : l.FollowsUp l') (h' : l'.FollowsUp l'') : l.FollowsUp l'' := by
  obtain ⟨h1, h2, h3⟩ := h.faults
  obtain ⟨h1', h2', h3'⟩ := h'.faults
  exact ⟨h'.rate.trans h.rate, h'.rx.trans h.rx, h'.resetTaken.trans h.resetTaken,
    ⟨h1'.trans h1, h2'.trans h2, h3'.trans h3⟩, h'.names ∘ h.names, h'.replies.trans h.replies⟩

theorem link_raise_followsUp (f : Flag) (l : Link) : l.FollowsUp (l.raise f) := by
  have h := link_raise_reported f l
  exact ⟨h.rate, h.rx, h.resetTaken, link_raise_sameFaults f l, h.names, by rw [h.replies]⟩

@[simp] theorem Hyphenation.SameTables.refl (h : Hyphenation) : h.SameTables h := ⟨rfl, rfl⟩

@[simp] theorem Optics.SameTables.refl (o : Optics) : o.SameTables o := ⟨rfl, rfl, rfl, rfl, rfl, rfl, rfl, rfl⟩

@[simp] theorem Exposure.SameSettings.refl (e : Exposure) : e.SameSettings e := ⟨rfl, rfl, rfl, rfl, rfl⟩

@[simp] theorem Film.SameSettings.refl (f : Film) : f.SameSettings f := ⟨rfl, rfl, rfl, rfl, rfl, rfl, rfl, rfl, rfl⟩

@[simp] theorem Proof.SameSettings.refl (p : Proof) : p.SameSettings p := ⟨rfl, rfl, rfl, rfl⟩

namespace FollowsUp

theorem refl (s : State) : FollowsUp s s :=
  ⟨rfl, rfl, rfl, .refl _, .refl _, .refl _, .refl _, .inr rfl, id, .refl _, .refl _, id⟩

theorem trans {s t u : State} (h : FollowsUp s t) (h' : FollowsUp t u) : FollowsUp s u where
  pending := h'.pending.trans h.pending
  pins := h'.pins.trans h.pins
  txq := h'.txq.trans h.txq
  link := h.link.trans h'.link
  hyu := ⟨h'.hyu.1.trans h.hyu.1, h'.hyu.2.trans h.hyu.2⟩
  opc := by
    obtain ⟨h1, h2, h3, h4, h5, h6, h7, h8⟩ := h.opc
    obtain ⟨h1', h2', h3', h4', h5', h6', h7', h8'⟩ := h'.opc
    exact ⟨h1'.trans h1, h2'.trans h2, h3'.trans h3, h4'.trans h4, h5'.trans h5, h6'.trans h6, h7'.trans h7, h8'.trans h8⟩
  exc := by
    obtain ⟨h1, h2, h3, h4, h5⟩ := h.exc
    obtain ⟨h1', h2', h3', h4', h5'⟩ := h'.exc
    exact ⟨h1'.trans h1, h2'.trans h2, h3'.trans h3, h4'.trans h4, h5'.trans h5⟩
  flash := by
    rcases h'.flash with e | e
    · exact .inl e
    · rw [e]
      exact h.flash
  armed := h'.armed ∘ h.armed
  ftc := by
    obtain ⟨h1, h2, h3, h4, h5, h6, h7, h8, h9⟩ := h.ftc
    obtain ⟨h1', h2', h3', h4', h5', h6', h7', h8', h9'⟩ := h'.ftc
    exact ⟨h1'.trans h1, h2'.trans h2, h3'.trans h3, h4'.trans h4, h5'.trans h5, h6'.trans h6, h7'.trans h7,
      h8'.trans h8, h9'.trans h9⟩
  prc := by
    obtain ⟨h1, h2, h3, h4⟩ := h.prc
    obtain ⟨h1', h2', h3', h4'⟩ := h'.prc
    exact ⟨h1'.trans h1, h2'.trans h2, h3'.trans h3, h4'.trans h4⟩
  rows := h'.rows ∘ h.rows

/-- Work on a line that records no fault is a follow-up. -/
theorem of_works {s t : State} (h : Works false s t) : FollowsUp s t where
  pending := h.pending
  pins := h.pins
  txq := h.txq
  link := ⟨h.link.rate, h.link.rx, h.link.resetTaken, h.records rfl, h.link.names, by rw [h.link.replies]⟩
  hyu := by rw [h.hyu]; exact .refl _
  opc := by rw [h.opc]; exact ⟨rfl, rfl, rfl, rfl, rfl, rfl, rfl, rfl⟩
  exc := h.excSettings
  flash := h.flash
  armed := h.armed
  ftc := h.film
  prc := by rw [h.prc]; exact .refl _
  rows := by rw [h.prc]; exact id

/-- A change of the line store, the composer, the Hyphenation Unit outside its tables, and the flags. -/
theorem of_frame {s t : State}
    (h : t.pending = s.pending ∧ t.pins = s.pins ∧ t.txq = s.txq ∧ t.opc = s.opc ∧ t.exc = s.exc ∧ t.ftc = s.ftc ∧
      t.prc = s.prc)
    (hlink : s.link.FollowsUp t.link) (hhyu : s.hyu.SameTables t.hyu) : FollowsUp s t := by
  obtain ⟨hpending, hpins, htxq, hopc, hexc, hftc, hprc⟩ := h
  refine ⟨hpending, hpins, htxq, hlink, hhyu, ?_, ?_, .inr (by rw [hexc]), ?_, ?_, ?_, ?_⟩
  · rw [hopc]; exact .refl _
  · rw [hexc]; exact .refl _
  · unfold FlashSafe; rw [hexc, hopc]; exact id
  · rw [hftc]; exact .refl _
  · rw [hprc]; exact .refl _
  · rw [hprc]; exact id

/-- A change of the Optics Controller that leaves its tables, and the drum where a countdown may run. -/
theorem withOpc {s : State} {o : Optics} (h : s.opc.SameTables o) (hdrum : s.opc.drum = .atSpeed → o.drum = .atSpeed) :
    FollowsUp s (s.withOpc o) :=
  { refl s with
    opc := h
    armed := fun hs ha => by
      obtain ⟨hst, hdoor, hd⟩ := hs ha
      exact ⟨hst, h.2.2.1.trans hdoor, hdrum hd⟩ }

/-- A change of the line store and of the Proof Controller outside its settings. -/
theorem of_proof {s t : State}
    (h : t.pending = s.pending ∧ t.pins = s.pins ∧ t.link = s.link ∧ t.txq = s.txq ∧ t.hyu = s.hyu ∧ t.opc = s.opc ∧
      t.exc = s.exc ∧ t.ftc = s.ftc)
    (hprc : s.prc.SameSettings t.prc) (hrows : s.prc.RowsKept → t.prc.RowsKept) : FollowsUp s t := by
  obtain ⟨hpending, hpins, hlink, htxq, hhyu, hopc, hexc, hftc⟩ := h
  refine ⟨hpending, hpins, htxq, ?_, ?_, ?_, ?_, .inr (by rw [hexc]), ?_, ?_, hprc, hrows⟩
  · rw [hlink]; exact .refl _
  · rw [hhyu]; exact .refl _
  · rw [hopc]; exact .refl _
  · rw [hexc]; exact .refl _
  · unfold FlashSafe; rw [hexc, hopc]; exact id
  · rw [hftc]; exact .refl _

theorem raise (f : Flag) (s : State) : FollowsUp s (raise f s) :=
  of_frame ⟨rfl, rfl, rfl, rfl, rfl, rfl, rfl⟩ (link_raise_followsUp f s.link) (.refl _)

end FollowsUp

/-! ### The composer -/

theorem stallSetup_followsUp (cause : StallCause) (s : State) : FollowsUp s (stallSetup cause s) := by
  have h1 (c : Composer) : FollowsUp s (s.withCmp c) := .of_frame ⟨rfl, rfl, rfl, rfl, rfl, rfl, rfl⟩ (.refl _) (.refl _)
  rcases stallSetup_cases cause s with ⟨_, h⟩ | ⟨_, h⟩ <;> rw [h]
  · exact h1 _
  · exact (h1 _).trans (.raise _ _)

theorem pushElem_followsUp (byte : Byte) (mk : Fin 8 → LensSel → Elem) (s : State) : FollowsUp s (pushElem byte mk s) := by
  unfold pushElem
  split
  · exact stallSetup_followsUp .lens s
  · exact .of_frame ⟨rfl, rfl, rfl, rfl, rfl, rfl, rfl⟩ (.refl _) (.refl _)

theorem actCode_followsUp (byte : Byte) (code : Code) (s : State) : FollowsUp s (actCode byte code s) := by
  cases code with
  | size n =>
    dsimp only [actCode]
    split
    · exact stallSetup_followsUp .lens s
    · exact .of_frame ⟨rfl, rfl, rfl, rfl, rfl, rfl, rfl⟩ (.refl _) (.refl _)
  | char slot =>
    dsimp only [actCode]
    split
    · exact stallSetup_followsUp .mount s
    · exact pushElem_followsUp byte _ s
  | fixed f => exact pushElem_followsUp byte (fun _ l => fixedElem f l) s
  | _ => exact .of_frame ⟨rfl, rfl, rfl, rfl, rfl, rfl, rfl⟩ (.refl _) (.refl _)

theorem ensureOpen_followsUp (s : State) : FollowsUp s (ensureOpen s) :=
  .of_frame (by simp) (by simp [Link.FollowsUp.refl]) (by simp)

theorem codeStep_followsUp (byte : Byte) (ps : Text) (s : State) : FollowsUp s (codeStep byte ps s) := by
  refine (ensureOpen_followsUp s).trans ?_
  dsimp only [codeStep]
  split
  · exact .of_frame ⟨rfl, rfl, rfl, rfl, rfl, rfl, rfl⟩ (.refl _) (.refl _)
  · exact actCode_followsUp byte _ _

theorem makeReferral_followsUp (x : Exam) (opp : BreakOpp) (s : State) : FollowsUp s (makeReferral x opp s) :=
  .of_frame ⟨rfl, rfl, rfl, rfl, rfl, rfl, rfl⟩ ⟨rfl, rfl, rfl, ⟨rfl, rfl, rfl⟩, id, le_rfl⟩ ⟨rfl, rfl⟩

theorem examineStep_followsUp (l : OpenLine) (opp : BreakOpp) (s : State) : FollowsUp s (examineStep l opp s) := by
  dsimp only [examineStep]
  split
  · exact stallSetup_followsUp .hyphen s
  · split
    · exact makeReferral_followsUp _ opp s
    · exact .of_frame ⟨rfl, rfl, rfl, rfl, rfl, rfl, rfl⟩ (.refl _) (.refl _)

theorem fitStep_followsUp (opp : BreakOpp) (s : State) : FollowsUp s (fitStep opp s) := by
  refine (ensureOpen_followsUp s).trans ?_
  unfold fitStep
  generalize ensureOpen s = s1
  dsimp only
  split
  · exact .refl _
  · split
    · exact .of_frame ⟨rfl, rfl, rfl, rfl, rfl, rfl, rfl⟩ (.refl _) (.refl _)
    · split
      · exact .of_frame ⟨rfl, rfl, rfl, rfl, rfl, rfl, rfl⟩ (.refl _) (.refl _)
      · split
        · exact .of_frame (by simp) (by simp [Link.FollowsUp.refl]) (by simp)
        · split
          · exact examineStep_followsUp _ opp s1
          · exact .of_frame ⟨rfl, rfl, rfl, rfl, rfl, rfl, rfl⟩ (.refl _) (.refl _)

theorem enterStore_followsUp (r : LineRecord) (s : State) : FollowsUp s (enterStore r s) := by
  have h : FollowsUp s ((s.withSls { s.sls with records := s.sls.records ++ [r] }).withCmp
      { s.cmp with ladder := ladderAfter r.brk s.cmp.ladder }) :=
    .of_frame ⟨rfl, rfl, rfl, rfl, rfl, rfl, rfl⟩ (.refl _) (.refl _)
  dsimp only [enterStore]
  split
  · exact h.trans (.withOpc ⟨rfl, rfl, rfl, rfl, rfl, rfl, rfl, rfl⟩ id)
  · exact h

theorem offerStep_followsUp (r : LineRecord) (carried : Option BreakOpp) (s : State) :
    FollowsUp s (offerStep r carried s) := by
  dsimp only [offerStep]
  split
  · exact .of_frame ⟨rfl, rfl, rfl, rfl, rfl, rfl, rfl⟩ (.refl _) (.refl _)
  · refine (enterStore_followsUp r s).trans ?_
    split
    · exact .of_frame ⟨rfl, rfl, rfl, rfl, rfl, rfl, rfl⟩ (.refl _) (.refl _)
    · split <;> exact .of_frame ⟨rfl, rfl, rfl, rfl, rfl, rfl, rfl⟩ (.refl _) (.refl _)

theorem taskStep_followsUp (t : Task) (s : State) : FollowsUp s (taskStep t s) := by
  cases t with
  | code byte ps => exact codeStep_followsUp byte ps s
  | fit opp => exact fitStep_followsUp opp s
  | offer r carried => exact offerStep_followsUp r carried s
  | decision opp => exact .refl s
  | place opp => exact .of_frame (by simp [taskStep]) (by simp [taskStep, Link.FollowsUp.refl]) (by simp [taskStep])
  | brk b flags opp => exact .of_frame (by simp [taskStep]) (by simp [taskStep, Link.FollowsUp.refl]) (by simp [taskStep])
  | noBreak flags opp =>
    exact .of_frame (by simp [taskStep]) (by simp [taskStep, Link.FollowsUp.refl]) (by simp [taskStep])
  | overset flags opp =>
    exact .of_frame (by simp [taskStep]) (by simp [taskStep, Link.FollowsUp.refl]) (by simp [taskStep])
  | after opp => exact .of_frame (by simp [taskStep]) (by simp [taskStep, Link.FollowsUp.refl]) (by simp [taskStep])

theorem composerStep_followsUp {s t : State} (h : composerStep s = some t) : FollowsUp s t := by
  rcases composerStep_cases h with ⟨k, _, _, rfl⟩ | ⟨_, _, _, _, rfl⟩
  · exact taskStep_followsUp k s
  · exact .of_frame ⟨rfl, rfl, rfl, rfl, rfl, rfl, rfl⟩ (.refl _) (.refl _)

/-! ### The other blocks -/

theorem surveyReact_followsUp {s t : State} (h : surveyReact s = some t) : FollowsUp s t := by
  unfold surveyReact at h
  (repeat' split at h) <;> cases h
  exact .withOpc ⟨rfl, rfl, rfl, rfl, rfl, rfl, rfl, rfl⟩ id

theorem proofEnded_settings (r : LineRecord) (s : State) :
    s.prc.SameSettings (proofEnded r s).prc ∧ (s.prc.RowsKept → (proofEnded r s).prc.RowsKept) := by
  dsimp only [proofEnded]
  split <;> exact ⟨⟨rfl, rfl, rfl, rfl⟩, id⟩

theorem skipReact_followsUp {s t : State} (h : skipReact s = some t) : FollowsUp s t := by
  have hf := skipReact_frame s t h
  unfold skipReact at h
  split at h
  · obtain ⟨r, _, rfl⟩ := Option.map_eq_some_iff.mp h
    have hp := proofEnded_settings r (updateRecord r.number
      (fun r => { r with proof := .skipped, flags := addLineFlag .skipped r.flags }) s)
    exact .of_proof (by simp) hp.1 hp.2
  · cases h

theorem completeAbort_followsUp (s : State) : FollowsUp s (completeAbort s) := by
  refine FollowsUp.trans ?_ (.raise .idle _)
  exact .of_proof (by simp) ⟨rfl, rfl, rfl, rfl⟩ id

theorem react_followsUp {s t : State} (h : react s = some t) : FollowsUp s t := by
  rcases react_cases h with h | h | h | h | h | h | h | h
  · exact .of_works (exposureReact_works h)
  · exact surveyReact_followsUp h
  · have hf := releaseOldest_frame s t h
    exact .of_frame (by simp [hf]) (by simp [hf, Link.FollowsUp.refl]) (by simp [hf])
  · exact skipReact_followsUp h
  · exact composerStep_followsUp h
  · exact .of_works (exposureTake_works h)
  · have hf := composerRest_frame s t h
    exact .of_frame (by simp [hf]) (by simp [hf, Link.FollowsUp.refl]) (by simp [hf])
  · unfold abortReact at h
    split at h <;> cases h
    exact completeAbort_followsUp s

/-! ### The services -/

theorem spinUp_followsUp (s : State) : FollowsUp s (spinUp s) := by
  rcases spinUp_cases s with ⟨hdrum, _, _, _, h⟩ | h <;> rw [h]
  · exact .withOpc ⟨rfl, rfl, rfl, rfl, rfl, rfl, rfl, rfl⟩ (by simp [hdrum])
  · exact .refl s

theorem restService_followsUp (s : State) : FollowsUp s (restService s) := by
  unfold restService
  split
  · split
    · exact .withOpc ⟨rfl, rfl, rfl, rfl, rfl, rfl, rfl, rfl⟩ id
    · exact .refl s
  · exact .withOpc ⟨rfl, rfl, rfl, rfl, rfl, rfl, rfl, rfl⟩ id

theorem beginAsk_settings (p : Proof) : p.SameSettings p.beginAsk ∧ p.beginAsk.out = p.out ∧ p.beginAsk.room = p.room := by
  unfold Proof.beginAsk
  split <;> exact ⟨⟨rfl, rfl, rfl, rfl⟩, rfl, rfl⟩

/-- A change of the Proof Controller that leaves its settings and keeps the rows within their limit. -/
theorem FollowsUp.withPrc {s : State} {p : Proof} (h : s.prc.SameSettings p) (hr : s.prc.RowsKept → p.RowsKept) :
    FollowsUp s (s.withPrc p) := .of_proof ⟨rfl, rfl, rfl, rfl, rfl, rfl, rfl, rfl⟩ h hr

theorem FollowsUp.ask {s : State} {p : Proof} (h : s.prc.SameSettings p) (ho : p.out = s.prc.out) (hr : p.room = s.prc.room) :
    FollowsUp s (s.withPrc p) :=
  .withPrc h fun hs => ⟨ho ▸ hs.1, hr ▸ hs.2⟩

theorem send_rows {p : Proof} (hp : p.out.length < Config.printerRows) (row : ProofRow) (cells : List Cell)
    (h : p.RowsKept) : (p.send row cells).RowsKept := by
  refine ⟨?_, (Nat.sub_le p.room 1).trans h.2⟩
  simpa [Proof.send] using hp

theorem sendReady_followsUp {s : State} (h : s.prc.out.length < Config.printerRows) : FollowsUp s (sendReady s) := by
  have hrow (r : LineRecord) (j : Nat) : FollowsUp s (sendRow r j s) := by
    have hr := send_rows h (.row r.number j) (rowCellsOf s.opc r j)
    dsimp only [sendRow]
    split <;> exact .of_proof ⟨rfl, rfl, rfl, rfl, rfl, rfl, rfl, rfl⟩ ⟨rfl, rfl, rfl, rfl⟩ hr
  unfold sendReady
  split
  · split
    · exact hrow _ _
    · exact .refl s
  · split
    · split
      · exact .withPrc ⟨rfl, rfl, rfl, rfl⟩ (send_rows h .header (headerCells s.prc.galley s.cmp.job.name))
      · exact hrow _ _
    · exact .refl s

theorem proofAct_followsUp (s : State) : FollowsUp s (proofAct s) := by
  obtain ⟨hset, hout, hroom⟩ := beginAsk_settings s.prc
  dsimp only [proofAct]
  split
  · exact .refl s
  · split
    · exact .ask hset hout hroom
    · split
      · exact .refl s
      · rename_i hsend
        split
        · exact sendReady_followsUp (by simp at hsend; omega)
        · split
          · exact .refl s
          · exact .ask hset hout hroom

theorem timerService_followsUp (s : State) : FollowsUp s (timerService s) := by
  unfold timerService
  split
  · split
    · exact .refl s
    · exact .ask ⟨rfl, rfl, rfl, rfl⟩ rfl rfl
  · exact .ask ⟨rfl, rfl, rfl, rfl⟩ rfl rfl

theorem proofService_followsUp (s : State) : FollowsUp s (proofService s) := by
  have hrest (s1 : State) : FollowsUp s1 (timerService (proofAct s1)) :=
    (proofAct_followsUp s1).trans (timerService_followsUp _)
  dsimp only [proofService]
  split
  · exact hrest s
  · have hst : FollowsUp s (s.withPrc { s.prc with st := s.prc.decided (rowReady s) }) := .ask ⟨rfl, rfl, rfl, rfl⟩ rfl rfl
    exact hst.trans (hrest _)

theorem pump_followsUp (l : Link) : l.FollowsUp l.pump := by
  have hnotice : l.FollowsUp l.beginNotice := by
    unfold Link.beginNotice
    split
    · exact ⟨rfl, rfl, rfl, ⟨rfl, rfl, rfl⟩, id, le_rfl⟩
    · split
      · exact .refl l
      · exact ⟨rfl, rfl, rfl, ⟨rfl, rfl, rfl⟩, fun _ _ hf => absurd hf (by simp), le_rfl⟩
  have hreply : l.FollowsUp l.beginReply := by
    unfold Link.beginReply
    split
    · exact .refl l
    · rename_i hr
      exact ⟨rfl, rfl, rfl, ⟨rfl, rfl, rfl⟩, id, by simp [hr]⟩
  unfold Link.pump
  split
  · exact .refl l
  · split
    · exact hnotice
    · split
      · exact hnotice
      · exact hreply

theorem pumpTx_followsUp (s : State) : FollowsUp s (pumpTx s) :=
  .of_frame (by simp) (pump_followsUp s.link) (by simp)

/-- All that follows an event is a follow-up. -/
theorem finish_followsUp (s u : State) : FollowsUp u (finish s u) :=
  finish_induct (P := FollowsUp u) (fun _ _ h hs => hs.trans (react_followsUp h)) (fun s h => h.trans (spinUp_followsUp s))
    (fun s h => h.trans (restService_followsUp s)) (fun s h => h.trans (proofService_followsUp s))
    (fun s h => h.trans (.raise .idle s)) (fun s h => h.trans (pumpTx_followsUp s)) s u (.refl u)

/-- What every follow-up keeps needs of the rest of a step only the resets, the receiver and the transmitter, the records and
the bytes of the printer. -/
theorem FollowsUp.linkKeeps {P : State → Prop} (follow : ∀ s t, FollowsUp s t → P s → P t)
    (reset : ∀ c s, P (resetAll c s)) (rx : ∀ rx s, P s → P (setRx rx s))
    (txFree : ∀ s, P s → P (s.withLink { s.link with tx := none }))
    (record : ∀ r s, s.link.replies.length < Config.replyQueue → P s → P (takeRecord r s))
    (byte : ∀ s b, P s → P (printerByte s b)) : LinkKeeps P where
  reset := reset
  rx := rx
  txFree := txFree
  pump s := follow _ _ (pumpTx_followsUp s)
  record := record
  byte := byte
  react _ _ h := follow _ _ (react_followsUp h)
  spin s := follow _ _ (spinUp_followsUp s)
  rest s := follow _ _ (restService_followsUp s)
  proof s := follow _ _ (proofService_followsUp s)
  idle s := follow _ _ (.raise .idle s)

end Sys2Proof.Machine
end

section
/-! PROOF. The dictionary through a step (R63 to R65): only DICTADD, DICTDEL and DICTCLEAR change it. -/

namespace Sys2Proof.Machine

-- One declaration at a time: it keeps the threads, and with them the memory, of the compile small.
set_option Elab.async false

theorem dictKept_of_sameTables {h h' : Hyphenation} (ht : h.SameTables h') (hk : h.DictKept) : h'.DictKept := by
  unfold Hyphenation.DictKept Hyphenation.lettersUsed at *
  rwa [ht.2]

theorem endReferral_sameTables (how : LastEnd) (p : Option Position) (flags : List LineFlag) (s : State) :
    s.hyu.SameTables (endReferral how p flags s).hyu := by
  dsimp only [endReferral]
  split <;> exact ⟨rfl, rfl⟩

theorem startAbort_sameTables (form : HaltForm) (s : State) : s.hyu.SameTables (startAbort form s).hyu := by
  simp [startAbort, withdrawReferral, Hyphenation.SameTables]

theorem effect_sameTables {c : Instr} {s u : State} (h : EventEffect s c u) : s.hyu.SameTables u.hyu := by
  cases h with
  | referralExpires =>
    unfold referralExpires
    split
    · exact endReferral_sameTables _ _ _ s
    · exact .refl _
  | countArrives => simp [counts_frame]
  | remainingCounts => simp [counts_frame]
  | spinUpExpires => simp [drumExpires_frame]
  | monitorExpires => simp [drumExpires_frame]
  | restExpires => simp [drumExpires_frame]
  | photocell => rw [(photocell_works (b := true) s).hyu]; exact .refl _
  | windowEnds => rw [(windowEnds_works s).hyu]; exact .refl _
  | charged => rw [(charged_works (b := true) s).hyu]; exact .refl _
  | portFree => exact .refl _
  | _ => simp

/-- A record changes the dictionary as DICTADD, DICTDEL and DICTCLEAR do, and not otherwise. -/
theorem dictKept_record {s u : State} (h : RecordEffect s u) (hs : s.hyu.DictKept) : u.hyu.DictKept := by
  cases h with
  | pairs c vs => exact hs
  | dictAdd word ns hlen hpos hroom => exact dictKept_put hs (wellMade_of_ascending hlen hpos) hroom
  | dictDel word => exact dictKept_filter hs _
  | dictClear => exact dictKept_empty _
  | decided p => exact dictKept_of_sameTables (endReferral_sameTables _ p _ s) hs
  | abort form => exact dictKept_of_sameTables (startAbort_sameTables form s) hs
  | survey => rw [(takeSurvey_frame s).2.1]; exact hs
  | stop form => rw [(takeStop_works (b := true) form s).hyu]; exact hs
  | resume => rw [(resume_works (b := true) s).hyu]; exact hs
  | cassette n => simpa [loadCassette] using hs
  | _ => simpa using hs

theorem dictionary_keeps : StepKeeps fun s => s.hyu.DictKept where
  toLinkKeeps := FollowsUp.linkKeeps (fun _ _ h => dictKept_of_sameTables h.hyu) (fun _ _ => dictKept_empty .reset)
    (fun _ _ h => h) (fun _ h => h)
    (fun r s _ h => show (recordBody r s).1.hyu.DictKept from dictKept_record (recordBody_effect r s) h)
    (fun _ _ h => by simpa using h)
  pending _ _ h := h
  effect _ _ _ h := dictKept_of_sameTables (effect_sameTables h)

/-- Settles O32: the three commands that change the dictionary keep it ordered and within its limits, and nothing else in a
step touches it. -/
theorem dictionaryStaysOrderedAndBounded : Obligations.DictionaryStaysOrderedAndBounded := by
  unfold Obligations.DictionaryStaysOrderedAndBounded
  exact fun _ _ h e => dictionary_keeps.step h e

end Sys2Proof.Machine
end

section
/-! PROOF. Countdown and flash (R134 to R136): what stops the drum cancels the countdown, and no event but the arrival of a
count or of the armed slot brings a flash. -/

namespace Sys2Proof.Machine

-- One declaration at a time: it keeps the threads, and with them the memory, of the compile small.
set_option Elab.async false

/-- A change that keeps the promise about the countdown and brings no flash. -/
structure NoFlash (s t : State) : Prop where
  armed : FlashSafe s → FlashSafe t
  flash : t.exc.flash = none ∨ t.exc.flash = s.exc.flash

theorem flashSafe_of_none {s : State} (h : s.exc.armed = none) : FlashSafe s := fun ha => by simp [h] at ha

namespace NoFlash

theorem of_works {b : Bool} {s t : State} (h : Works b s t) : NoFlash s t := ⟨h.armed, h.flash⟩

theorem of_eq {s t : State} (hexc : t.exc = s.exc) (hdoor : t.opc.door = s.opc.door) (hdrum : t.opc.drum = s.opc.drum) :
    NoFlash s t := ⟨by unfold FlashSafe; rw [hexc, hdoor, hdrum]; exact id, .inr (by rw [hexc])⟩

theorem refl (s : State) : NoFlash s s := of_eq rfl rfl rfl

theorem trans {s t u : State} (h : NoFlash s t) (h' : NoFlash t u) : NoFlash s u := by
  refine ⟨h'.armed ∘ h.armed, ?_⟩
  rcases h'.flash with e | e
  · exact .inl e
  · rw [e]
    exact h.flash

/-- A change told from its end. -/
theorem after {s t u : State} (h' : NoFlash t u) (h : NoFlash s t) : NoFlash s u := h.trans h'

/-- A change before which no countdown can run. -/
theorem of_unarmed {s t : State} (hs : FlashSafe s → s.exc.armed = none) (hexc : t.exc = s.exc) : NoFlash s t :=
  ⟨fun h => flashSafe_of_none (by rw [hexc, hs h]), .inr (by rw [hexc])⟩

end NoFlash

theorem FlashSafe.unarmed {s : State} (h : FlashSafe s) (hs : s.opc.door ≠ .closed ∨ s.opc.drum ≠ .atSpeed) :
    s.exc.armed = none := by
  by_contra hne
  obtain ⟨_, hdoor, hdrum⟩ := h (Option.isSome_iff_ne_none.mpr hne)
  rcases hs with hs | hs
  · exact hs hdoor
  · exact hs hdrum

theorem cancelCountdown_exc (st : ExcState) (s : State) :
    (cancelCountdown st s).exc = if s.exc.st = .armed then { s.exc.enter st with stage := .arm } else s.exc := by
  unfold cancelCountdown
  split <;> rfl

/-- What begins by cancelling the countdown and then leaves the Exposure Controller: no countdown runs after it. -/
theorem noFlash_of_cancel {s s1 t : State} {st : ExcState} (h : t.exc = (cancelCountdown st s1).exc)
    (h1 : s1.exc = s.exc := by rfl) : NoFlash s t := by
  rw [cancelCountdown_exc, h1] at h
  split at h
  · exact ⟨fun _ => flashSafe_of_none (by rw [h]; rfl), .inl (by rw [h]; rfl)⟩
  · rename_i hst
    refine .of_unarmed (fun hs => ?_) h
    by_contra hne
    exact hst (hs (Option.isSome_iff_ne_none.mpr hne)).1

theorem stopDrum_exc (s : State) : (stopDrum s).exc = (cancelCountdown .held s).exc := rfl

theorem drumStall_noFlash (s : State) : NoFlash s (drumStall s) := noFlash_of_cancel rfl

theorem restDrum_noFlash (s : State) : NoFlash s (restDrum s) := by
  have h : NoFlash s (stopDrum s) := noFlash_of_cancel rfl
  refine h.trans ⟨fun hs => ?_, .inr rfl⟩
  exact flashSafe_of_none (hs.unarmed (.inr (by simp [stopDrum])))

theorem beginSurvey_noFlash {s s1 : State} (h : s1.exc = s.exc) : NoFlash s (beginSurvey s1) := noFlash_of_cancel rfl h

theorem doorTake_noFlash (s : State) : NoFlash s (doorTake s) := by
  unfold doorTake
  split
  · exact .refl s
  · dsimp only
    split
    · exact ⟨fun h ha => ⟨(h ha).1, rfl, (h ha).2.2⟩, .inr rfl⟩
    · split
      · rename_i hunknown
        have hdoor : s.opc.door ≠ .closed := fun e => by simp [e] at hunknown
        exact .of_unarmed (fun h => h.unarmed (.inl hdoor)) rfl
      · exact noFlash_of_cancel (stopDrum_exc _)

theorem qualified_noFlash {s s1 : State} (h : s1.exc = s.exc) (hu : FlashSafe s → s.exc.armed = none) :
    NoFlash s (qualified s1) := by
  dsimp only [qualified]
  split
  · exact beginSurvey_noFlash h
  · exact .of_unarmed hu h

theorem spinIndex_noFlash (interval : Nat) {s s1 : State} (h : s1.exc = s.exc) (hdrum : s.opc.drum = .spinningUp) :
    NoFlash s (spinIndex interval s1) := by
  have hu : FlashSafe s → s.exc.armed = none := fun hs => hs.unarmed (.inr (by simp [hdrum]))
  dsimp only [spinIndex]
  generalize (if 98 ≤ interval ∧ interval ≤ 102 then s1.opc.intervals + 1 else 0) = n
  split
  · exact .of_unarmed hu h
  · split
    · exact qualified_noFlash h hu
    · exact .of_unarmed hu h

theorem surveyIndex_exc (upper lower : Byte) (s : State) : (surveyIndex upper lower s).exc = s.exc := by simp

theorem indexArrives_noFlash (interval : Nat) (upper lower : Byte) (s : State) :
    NoFlash s (indexArrives interval upper lower s) := by
  unfold indexArrives
  dsimp only [State.withPins_opc]
  split
  · exact .of_eq rfl rfl rfl
  · exact spinIndex_noFlash interval rfl (by assumption)
  · rename_i hdrum
    exact .of_unarmed (fun hs => hs.unarmed (.inr (by simp [hdrum]))) (surveyIndex_exc upper lower _)
  · exact .of_eq rfl rfl rfl

theorem mechTimeout_noFlash (k : Mechanism) (s : State) : NoFlash s (mechTimeout k s) := by
  have hset (t : State) (m : MechState) : NoFlash t (t.withOpc (t.opc.setMech k m)) := by
    cases k <;> exact .of_eq rfl rfl rfl
  have hfailed (f : Flight) (t : State) : NoFlash t (mechFailed k f t) := by
    dsimp only [mechFailed]
    split
    · exact .of_works (lineFault_works _ _ t)
    · have h := NoFlash.of_works (exposureFault_works (mechKind k) t)
      split
      · exact h.trans (.of_eq rfl rfl rfl)
      · exact h
  unfold mechTimeout
  split
  · exact .refl s
  · exact (hset s _).trans ((hfailed _ _).trans (hset _ _))

theorem takeSurvey_noFlash (s : State) : NoFlash s (takeSurvey s) := by
  have hwake (t : State) : NoFlash t (wake t) := .of_eq rfl rfl rfl
  unfold takeSurvey
  split
  · exact (beginSurvey_noFlash rfl).trans (hwake _)
  · exact hwake s
  · exact .of_eq rfl rfl rfl
  · exact .of_eq rfl rfl rfl

theorem cassetteTake_noFlash (s : State) : NoFlash s (cassetteTake s) := by
  unfold cassetteTake
  split
  · exact .refl s
  · dsimp only
    split
    · exact (NoFlash.of_works (exposureRemoval_works (b := true) _)).after (.of_eq rfl rfl rfl)
    · exact .of_eq rfl rfl rfl

theorem cutterDone_noFlash (s : State) : NoFlash s (cutterDone s) := by
  unfold cutterDone
  split
  · exact (NoFlash.of_works (endCutWait_works (b := true) _)).after (.of_eq rfl rfl rfl)
  · exact .refl s

/-- No event's effect but the arrival of a count or of the armed slot brings a flash, and none breaks the promise about the
countdown. -/
theorem effect_noFlash {c : Instr} {s u : State} (h : EventEffect s c u) :
    NoFlash s u ∨ (c = .encoderCount ∧ u = countArrives s) ∨ (c = .slotArrival ∧ u = remainingCounts s) := by
  cases h with
  | countArrives => exact .inr (.inl ⟨rfl, rfl⟩)
  | remainingCounts => exact .inr (.inr ⟨rfl, rfl⟩)
  | photocell => exact .inl (.of_works (photocell_works (b := true) s))
  | windowEnds => exact .inl (.of_works (windowEnds_works s))
  | charged => exact .inl (.of_works (charged_works (b := true) s))
  | mechComplete k => exact .inl (.of_works (mechComplete_works (b := true) k s))
  | mechTimeout k => exact .inl (mechTimeout_noFlash k s)
  | escComplete => exact .inl (.of_works (escComplete_works (b := true) s))
  | escTimeout => exact .inl (.of_works (escTimeout_works s))
  | doorLevel level => exact .inl (.of_eq (by simp) (by unfold doorLevel; split <;> rfl) (by unfold doorLevel; split <;> rfl))
  | doorTake => exact .inl (doorTake_noFlash s)
  | indexArrives interval upper lower => exact .inl (indexArrives_noFlash interval upper lower s)
  | spinUpExpires =>
    unfold spinUpExpires
    split
    · exact .inl (drumStall_noFlash s)
    · exact .inl (.refl s)
  | monitorExpires =>
    unfold monitorExpires
    split
    · exact .inl (drumStall_noFlash s)
    · exact .inl (.refl s)
  | restExpires =>
    unfold restExpires
    split
    · exact .inl (restDrum_noFlash s)
    · exact .inl (.refl s)
  | cassetteTake => exact .inl (cassetteTake_noFlash s)
  | stepperDone => exact .inl (.of_works (stepperDone_works (b := true) s))
  | moveJams => exact .inl (.of_works (moveJams_works s))
  | cutterDone => exact .inl (cutterDone_noFlash s)
  | cutterFails => exact .inl (.of_works (cutterFails_works s))
  | portFree => exact .inl (.of_eq rfl rfl rfl)
  | codeRead | referralExpires | cassetteLevel | grantExpires => exact .inl (.of_eq (by simp) (by simp) (by simp))

theorem tune_noFlash (s : State) (p : TuneKey × TuneValue) : NoFlash s (tune s p) := by
  unfold tune
  split
  case h_2 => exact ⟨id, .inr rfl⟩
  case h_4 => exact (NoFlash.of_works (testLowFilm_works (b := true) _)).after (.of_eq rfl rfl rfl)
  all_goals exact .of_eq rfl rfl rfl

theorem clearFault_noFlash (b : FaultBlock) (s : State) : NoFlash s (clearFault b s) := by
  cases b with
  | exposure =>
    have hsurvey (t : State) : NoFlash t (surveyRetry t) := by
      unfold surveyRetry
      split
      · exact .of_eq rfl rfl rfl
      · exact .refl t
    exact (hsurvey _).after ((NoFlash.of_works (exposureRetry_works (b := true) _)).after (.of_eq rfl rfl rfl))
  | film => exact (NoFlash.of_works (retryFilm_works (b := true) _)).after (.of_eq rfl rfl rfl)
  | proof => exact .of_eq (by simp [clearFault]) (by simp [clearFault]) (by simp [clearFault])

/-- No record brings a flash (R134 to R136). -/
theorem record_noFlash {s u : State} (h : RecordEffect s u) : NoFlash s u := by
  cases h with
  | abort form =>
    have hbefore (c : Composer) (x : Store) : NoFlash s (((withdrawReferral (drainTo [] s)).withCmp c).withSls x) :=
      .of_eq (by simp) (by simp) (by simp)
    have hafter (t : State) : NoFlash t (proofAbort t) := .of_eq rfl rfl rfl
    exact (hbefore _ _).trans ((NoFlash.of_works (exposureAbort_works (b := true) _)).trans (hafter _))
  | survey => exact takeSurvey_noFlash s
  | stop form => exact .of_works (takeStop_works (b := true) form s)
  | resume => exact .of_works (resume_works (b := true) s)
  | temps a b c => exact ⟨id, .inr rfl⟩
  | intensity t => exact ⟨id, .inr rfl⟩
  | cassette n =>
    exact (NoFlash.of_works (testLowFilm_works (b := true) _)).after ⟨id, .inr rfl⟩
  | feedCut => exact .of_works (startCut_works (b := true) 0 s)
  | rest => exact restDrum_noFlash s
  | tune ps => exact tuneAll_induct (P := NoFlash s) (fun t p h => h.trans (tune_noFlash t p)) ps (.refl s)
  | clearFault b => exact clearFault_noFlash b s
  | decided => exact .of_eq (by simp) (by simp) (by simp)
  | face | lens =>
    have hretry (t : State) : NoFlash t (retrySetup t) := .of_eq (by simp) (by simp) (by simp)
    exact (hretry _).after (.of_eq rfl rfl rfl)
  | _ => exact .of_eq rfl rfl rfl

/-- The armed slot brings a flash only at a charged lamp, and of the armed energy (R135). -/
theorem slotArrives_flash {s : State} {a : Armed} (h : s.exc.armed = some a) (hf : s.exc.flash = none)
    (hu : (slotArrives s).exc.flash ≠ none) : s.exc.lamp = .charged ∧ (slotArrives s).exc.flash = some a.energy := by
  rcases slotArrives_works s with hw | ⟨b, hb, hlamp, e⟩
  · exact absurd (hw.flash.elim id fun e => e.trans hf) hu
  · cases h.symm.trans hb
    exact ⟨hlamp, by rw [e]; rfl⟩

/-- Counts bring a flash only as the armed slot does. -/
theorem counts_flash {s u : State} (hu : u = countArrives s ∨ u = remainingCounts s) (hf : s.exc.flash = none)
    (hne : u.exc.flash ≠ none) : s.exc.lamp = .charged ∧ ∃ a, s.exc.armed = some a ∧ u.exc.flash = some a.energy := by
  cases ha : s.exc.armed with
  | none => rcases hu with rfl | rfl <;> simp [countArrives, remainingCounts, ha, hf] at hne
  | some a =>
    have hslot (x : Pins) (n : Nat) := slotArrives_flash (a := { a with count := n })
      (s := (s.withPins x).withExc { s.exc with armed := some { a with count := n } }) rfl hf
    rcases hu with rfl | rfl
    · simp only [countArrives, State.withPins_exc, ha] at hne ⊢
      split at hne
      · rename_i hc
        rw [if_pos hc]
        obtain ⟨hlamp, e⟩ := hslot _ _ hne
        exact ⟨hlamp, a, rfl, e⟩
      · exact absurd hf hne
    · simp only [remainingCounts, ha] at hne ⊢
      obtain ⟨hlamp, e⟩ := hslot _ _ hne
      exact ⟨hlamp, a, rfl, e⟩

theorem counts_flashSafe {s : State} (h : FlashSafe s) : FlashSafe (countArrives s) ∧ FlashSafe (remainingCounts s) := by
  refine counts_keep (fun _ _ h => h) (fun s a n ha h _ => h (by simp [ha])) (fun s h => ?_) h
  rcases slotArrives_works s with hw | ⟨b, _, _, e⟩
  · exact hw.armed h
  · rw [e]
    exact flashSafe_of_none rfl

theorem effect_flashSafe {c : Instr} {s u : State} (he : EventEffect s c u) (h : FlashSafe s) : FlashSafe u := by
  rcases effect_noFlash he with hn | ⟨_, rfl⟩ | ⟨_, rfl⟩
  · exact hn.armed h
  · exact (counts_flashSafe h).1
  · exact (counts_flashSafe h).2

theorem flashSafe_keeps : StepKeeps FlashSafe where
  toLinkKeeps := FollowsUp.linkKeeps (fun _ _ h => h.armed) (fun _ _ => flashSafe_of_none rfl) (fun _ _ h => h)
    (fun _ h => h)
    (fun r s _ h => show FlashSafe (recordBody r s).1 from (record_noFlash (recordBody_effect r s)).armed h)
    (fun _ _ h => by unfold FlashSafe at *; simpa using h)
  pending _ _ h := h
  effect _ _ _ := effect_flashSafe

theorem flash_keeps : LinkKeeps fun s => s.exc.flash = none :=
  FollowsUp.linkKeeps (fun _ _ h hs => h.flash.elim id fun e => e.trans hs) (fun _ _ => rfl) (fun _ _ h => h) (fun _ h => h)
    (fun r s _ h => show (recordBody r s).1.exc.flash = none from
      (record_noFlash (recordBody_effect r s)).flash.elim id fun e => e.trans h)
    (fun _ _ h => by simpa using h)

/-- An event that leads to a flash is the arrival of a count or of the armed slot, and its own effect leads to it. -/
theorem exec_flash {c : Instr} {s t : State} (e : exec c s = .next t) (hne : t.exc.flash ≠ none) (hf : s.exc.flash = none) :
    (c = .encoderCount ∨ c = .slotArrival) ∧
      ∃ u, (u = countArrives s ∨ u = remainingCounts s) ∧ u.exc.flash = t.exc.flash := by
  have hnext {u : State} (hu : u.exc.flash = none) (e : Host.Outcome.next (φ := Fault) (ρ := Refusal) u = .next t) : False :=
    hne (Host.Outcome.next.inj e ▸ hu)
  have hfinish {u : State} (e : event s u = .next t) : u.exc.flash = t.exc.flash := by
    cases Host.Outcome.next.inj e
    exact ((finish_followsUp s u).flash.resolve_left hne).symm
  rcases exec_event_cases c s with ⟨r, _, hx⟩ | ⟨u, hu, hx⟩ | ⟨bs, _, hx⟩ | ⟨k, l, _, hx⟩ | ⟨bs, hx⟩ | ⟨_, hx⟩ |
    ⟨b, a, _, hx⟩ <;> rw [hx] at e
  · exact (hnext (flash_keeps.finish s (flash_keeps.receive r hf)) e).elim
  · rcases effect_noFlash hu with hn | ⟨hc, hu⟩ | ⟨hc, hu⟩
    · exact (hnext (flash_keeps.finish s (hn.flash.elim id fun h => h.trans hf)) e).elim
    · exact ⟨.inl hc, u, .inl hu, hfinish e⟩
    · exact ⟨.inr hc, u, .inr hu, hfinish e⟩
  · exact (hnext (flash_keeps.finish s (flash_keeps.gapExpires (flash_keeps.feed bs hf))) e).elim
  · exact (hnext (flash_keeps.finish s (flash_keeps.feed _ hf)) e).elim
  · exact (hnext (flash_keeps.printerBytes bs hf) e).elim
  · exact (hnext (flash_keeps.frameEnds hf) e).elim
  · exact (hnext rfl e).elim

/-- Settles O50: all that opens the door or takes the drum from AT_SPEED cancels the countdown first, and only the armed slot
at a charged lamp fires. -/
theorem flashesOnlyAtTheArmedSlot : Obligations.FlashesOnlyAtTheArmedSlot := by
  unfold Obligations.FlashesOnlyAtTheArmedSlot
  refine ⟨fun s t h e => flashSafe_keeps.step h e, fun c s t h e hne hf => ?_⟩
  obtain ⟨hc, u, hu, huf⟩ := exec_flash e hne hf
  obtain ⟨hlamp, a, ha, hfa⟩ := counts_flash hu hf (huf ▸ hne)
  obtain ⟨hst, hdoor, hdrum⟩ := h (by simp [ha])
  exact ⟨hc, hlamp, hst, hdoor, hdrum, a, ha, huf ▸ hfa⟩

end Sys2Proof.Machine
end

section
/-! SUPPORT and PROOF. The Link Interface through a step: what events, records and the printer report to it, the flags and
their pending names (R192), and the reply queue (R188). -/

namespace Sys2Proof.Machine

-- One declaration at a time: it keeps the threads, and with them the memory, of the compile small.
set_option Elab.async false

/-! ### What the blocks report -/

theorem reported_of_eq {s t : State} (h : t.link = s.link) : s.link.Reported t.link := h ▸ .refl _

theorem raise_reported (f : Flag) (s : State) : s.link.Reported (raise f s).link := link_raise_reported f s.link

/-- A report told from its end. -/
theorem Link.Reported.after {l l' l'' : Link} (h' : l'.Reported l'') (h : l.Reported l') : l.Reported l'' := h.trans h'

/-- The Link Interface reads no record of faults, no refer notice and no transmission in a report. -/
theorem reported_of_fields {l l' : Link} (hrate : l'.rate = l.rate) (hrx : l'.rx = l.rx) (hreplies : l'.replies = l.replies)
    (hreset : l'.resetTaken = l.resetTaken) (hflags : l'.flags = l.flags) (hnames : l'.pendingNames = l.pendingNames) :
    l.Reported l' :=
  ⟨hrate, hrx, hreplies, hreset, fun h f hf => hflags ▸ h f (hnames ▸ hf)⟩

theorem proofFault_reported (kind : ProofKind) (line : Nat) (s : State) : s.link.Reported (proofFault kind line s).link :=
  (link_raise_reported .pfault _).after (reported_of_fields rfl rfl rfl rfl rfl rfl)

theorem exposureFault_reported (kind : ExposureKind) (s : State) : s.link.Reported (exposureFault kind s).link :=
  (exposureFault_works kind s).link

theorem drainTo_reported (bytes : Text) (s : State) : s.link.Reported (drainTo bytes s).link := by
  dsimp only [drainTo]
  split
  · exact raise_reported .room _
  · exact .refl _

theorem codeRead_reported (s : State) : s.link.Reported (codeRead s).link := by
  have gather (c : Byte) (ps bytes : Text) : s.link.Reported (takeCode.gather s c ps bytes).link := by
    dsimp only [takeCode.gather]
    split <;> exact drainTo_reported _ s
  unfold codeRead takeCode
  split
  · split
    · exact .refl _
    · exact gather _ _ _
    · exact gather _ _ _
  · exact .refl _

theorem endReferral_reported (how : LastEnd) (p : Option Position) (flags : List LineFlag) (s : State) :
    s.link.Reported (endReferral how p flags s).link := by
  dsimp only [endReferral]
  split <;> exact reported_of_fields rfl rfl rfl rfl rfl rfl

theorem skipAll_link (rs : List LineRecord) (s : State) : (skipAll rs s).link = s.link := by simp

theorem takeFault_reported (c : Byte) (s : State) : s.link.Reported (takeFault c s).link := by
  have h : s.link.Reported (proofFault .printer (proofFaultLine s) (s.withPrc { s.prc with lastCode := some c })).link :=
    proofFault_reported _ _ _
  dsimp only [takeFault]
  generalize proofFault .printer (proofFaultLine s) (s.withPrc { s.prc with lastCode := some c }) = s1 at h ⊢
  split
  · split
    · exact h
    · exact (raise_reported .skip _).after (h.trans (reported_of_eq (by simp)))
  · exact h.trans (reported_of_eq (by simp))

theorem enterSkipping_reported (s : State) : s.link.Reported (enterSkipping s).link := raise_reported .skip _

theorem grantExpires_reported (s : State) : s.link.Reported (grantExpires s).link := by
  unfold grantExpires
  split
  · exact .refl _
  · split
    · dsimp only [abortGiveUp]
      split
      · exact .refl _
      · exact (raise_reported .skip _).after (reported_of_eq (by simp))
    · split
      · exact enterSkipping_reported s
      · exact .refl _
      · split
        · split
          · exact (enterSkipping_reported _).after (reported_of_eq (by simp))
          · dsimp only [requiredSilence]
            refine (raise_reported .pfault _).after ?_
            split
            · exact .refl _
            · exact proofFault_reported _ _ s
        · exact .refl _

theorem printerByte_reported (s : State) (b : Byte) : s.link.Reported (printerByte s b).link := by
  have hprinted : s.link.Reported (takePrinted s).link := by
    unfold takePrinted
    split
    · exact .refl _
    · unfold rowPrinted
      split
      · exact reported_of_eq (by simp)
      · split
        · exact reported_of_eq (by simp)
        · split
          · exact (raise_reported .proof _).after (reported_of_eq (by simp))
          · exact reported_of_eq (by simp)
  unfold printerByte
  split
  · exact reported_of_eq (by simp)
  · exact takeFault_reported b (s.withPrc { s.prc with half := none })
  · (repeat' split) <;> first | exact hprinted | exact .refl _

theorem mechTimeout_reported (k : Mechanism) (s : State) : s.link.Reported (mechTimeout k s).link := by
  have hfailed (f : Flight) (t : State) : t.link.Reported (mechFailed k f t).link := by
    dsimp only [mechFailed]
    split
    · exact (lineFault_works _ _ t).link
    · split <;> exact exposureFault_reported _ t
  unfold mechTimeout
  split
  · exact .refl _
  · exact hfailed _ (s.withOpc (s.opc.setMech k { s.opc.mech k with held := none, flight := none }))

theorem drumStall_reported (s : State) : s.link.Reported (drumStall s).link :=
  (exposureFault_reported .drumStall (stopDrum s)).after (reported_of_eq (by simp))

theorem restDrum_reported (s : State) : s.link.Reported (restDrum s).link :=
  (raise_reported .rest _).after (reported_of_eq (by simp))

theorem surveyIndex_reported (upper lower : Byte) (s : State) : s.link.Reported (surveyIndex upper lower s).link := by
  have hcomplete (t : State) : t.link.Reported (surveyComplete t).link := by
    dsimp only [surveyComplete]
    split
    · split
      · exact raise_reported .mount _
      · exact .refl _
    · exact .refl _
  unfold surveyIndex
  split
  · split
    · exact reported_of_eq (by simp)
    · exact (hcomplete _).after (reported_of_eq rfl)
  · exact .refl _

theorem indexArrives_reported (interval : Nat) (upper lower : Byte) (s : State) :
    s.link.Reported (indexArrives interval upper lower s).link := by
  unfold indexArrives
  dsimp only [State.withPins_opc]
  split
  · exact .refl _
  · exact reported_of_eq (by simp)
  · exact (surveyIndex_reported upper lower _).after (reported_of_eq rfl)
  · exact .refl _

theorem counts_reported (s : State) :
    s.link.Reported (countArrives s).link ∧ s.link.Reported (remainingCounts s).link := by
  refine counts_keep (P := fun t => s.link.Reported t.link) (fun _ _ h => h) (fun _ _ _ _ h => h) (fun t h => ?_) (.refl _)
  rcases slotArrives_works t with hw | ⟨_, _, _, e⟩
  · exact h.trans hw.link
  · rw [e]
    exact h

theorem cassetteTake_reported (s : State) : s.link.Reported (cassetteTake s).link := by
  unfold cassetteTake
  split
  · exact .refl _
  · dsimp only
    split
    · exact (exposureRemoval_works (b := true) _).link.after (raise_reported .cassette _)
    · exact .refl _

theorem cutterDone_reported (s : State) : s.link.Reported (cutterDone s).link := by
  unfold cutterDone
  split
  · exact (endCutWait_works (b := true) _).link.after (raise_reported .galley _)
  · exact .refl _

/-- Every event's own effect but a record reports to the Link Interface, and no more. -/
theorem effect_reported {c : Instr} {s u : State} (h : EventEffect s c u) : s.link.Reported u.link := by
  cases h with
  | codeRead => exact codeRead_reported s
  | referralExpires =>
    unfold referralExpires
    split
    · exact endReferral_reported _ _ _ s
    · exact .refl _
  | countArrives => exact (counts_reported s).1
  | remainingCounts => exact (counts_reported s).2
  | photocell => exact (photocell_works (b := true) s).link
  | windowEnds => exact (windowEnds_works s).link
  | charged => exact (charged_works (b := true) s).link
  | mechTimeout k => exact mechTimeout_reported k s
  | escTimeout => exact (escTimeout_works s).link
  | indexArrives interval upper lower => exact indexArrives_reported interval upper lower s
  | doorLevel | doorTake | mechComplete | escComplete | cassetteLevel => exact reported_of_eq (by simp)
  | spinUpExpires =>
    unfold spinUpExpires
    split
    · exact drumStall_reported s
    · exact .refl _
  | monitorExpires =>
    unfold monitorExpires
    split
    · exact drumStall_reported s
    · exact .refl _
  | restExpires =>
    unfold restExpires
    split
    · exact restDrum_reported s
    · exact .refl _
  | cassetteTake => exact cassetteTake_reported s
  | stepperDone => exact (stepperDone_works (b := true) s).link
  | moveJams => exact (moveJams_works s).link
  | cutterDone => exact cutterDone_reported s
  | cutterFails => exact (cutterFails_works s).link
  | portFree => exact .refl _
  | grantExpires => exact grantExpires_reported s

/-! ### Records -/

/-- What taking a record leaves of the Link Interface before the reply is added: all but flags, fault records, the REFER notice
and the note of a RESET. -/
structure Link.Recorded (l l' : Link) : Prop where
  rate : l'.rate = l.rate
  rx : l'.rx = l.rx
  replies : l'.replies = l.replies
  names : l.NamesSet → l'.NamesSet

theorem Link.Reported.recorded {l l' : Link} (h : l.Reported l') : l.Recorded l' := ⟨h.rate, h.rx, h.replies, h.names⟩

theorem mem_removeFrom {f g : Flag} {fs : List Flag} : f ∈ removeFrom g fs ↔ f ∈ fs ∧ f ≠ g := by simp [removeFrom]

theorem clearAll_recorded (fs : List Flag) (l : Link) : l.Recorded (l.clearAll fs) := by
  unfold Link.clearAll
  induction fs generalizing l with
  | nil => exact ⟨rfl, rfl, rfl, id⟩
  | cons f fs ih =>
    obtain ⟨hrate, hrx, hreplies, hnames⟩ := ih (l.clearFlag f)
    refine ⟨hrate, hrx, hreplies, fun h => hnames fun g hg => ?_⟩
    obtain ⟨hg, hne⟩ := mem_removeFrom.mp hg
    exact mem_removeFrom.mpr ⟨h g hg, hne⟩

theorem tune_reported (s : State) (p : TuneKey × TuneValue) : s.link.Reported (tune s p).link := by
  unfold tune
  split
  case h_4 => exact (testLowFilm_works (b := true) _).link.after (reported_of_eq rfl)
  all_goals exact .refl _

theorem tuneAll_reported (ps : List (TuneKey × TuneValue)) (s : State) : s.link.Reported (tuneAll ps s).link :=
  tuneAll_induct (P := fun t => s.link.Reported t.link) (fun t p h => h.trans (tune_reported t p)) ps (.refl _)

theorem clearFault_recorded (b : FaultBlock) (s : State) : s.link.Recorded (clearFault b s).link := by
  cases b with
  | exposure =>
    have h := (exposureRetry_works (b := true)
      ((s.withLink { s.link with exposure := .empty }).withOpc { s.opc with stallHold := false })).link
    simp only [clearFault, surveyRetry_frame]
    exact ⟨h.rate, h.rx, h.replies, h.names⟩
  | film =>
    have h := (retryFilm_works (b := true) (s.withLink { s.link with film := .empty })).link
    exact ⟨h.rate, h.rx, h.replies, h.names⟩
  | proof => simpa [clearFault] using ⟨rfl, rfl, rfl, id⟩

theorem startAbort_reported (form : HaltForm) (s : State) : s.link.Reported (startAbort form s).link := by
  have hwithdraw (t : State) : t.link.Reported (withdrawReferral t).link := reported_of_fields rfl rfl rfl rfl rfl rfl
  have h := (hwithdraw _).after (drainTo_reported [] s)
  simpa [startAbort] using h

@[simp] theorem retrySetup_link (s : State) : (retrySetup s).link = s.link := by
  rcases retrySetup_cases s with ⟨_, h⟩ | ⟨_, h⟩ <;> rw [h]
  rfl

theorem record_recorded {s u : State} (h : RecordEffect s u) : s.link.Recorded u.link := by
  cases h with
  | decided p => exact (endReferral_reported _ p _ s).recorded
  | abort form => exact (startAbort_reported form s).recorded
  | survey => exact (reported_of_eq (takeSurvey_frame s).2.2.2.2.2).recorded
  | stop form => exact (takeStop_works (b := true) form s).link.recorded
  | resume => exact (resume_works (b := true) s).link.recorded
  | cassette n =>
    have h : s.link.Reported (loadCassette n s).link := (testLowFilm_works (b := true) _).link.after (reported_of_eq rfl)
    exact h.recorded
  | feedCut => exact (startCut_works (b := true) 0 s).link.recorded
  | rest => exact (restDrum_reported s).recorded
  | reset => exact ⟨rfl, rfl, rfl, id⟩
  | tune ps => exact (tuneAll_reported ps s).recorded
  | clear fs => exact clearAll_recorded fs s.link
  | clearFault b => exact clearFault_recorded b s
  | face | lens =>
    exact ⟨by simp, by simp, by simp, by simp⟩
  | _ => exact ⟨rfl, rfl, rfl, id⟩

/-! ### The pending names (R192) -/

theorem names_keep : StepKeeps PendingNamesSet where
  toLinkKeeps := FollowsUp.linkKeeps (fun _ _ h => h.link.names) (fun _ _ _ h => nomatch h) (fun _ _ h => h) (fun _ h => h)
    (fun r s _ h => show (recordBody r s).1.link.NamesSet from (record_recorded (recordBody_effect r s)).names h)
    (fun s b => (printerByte_reported s b).names)
  pending _ _ h := h
  effect _ _ _ h := (effect_reported h).names

/-- Settles O14: raising a flag writes both sets in table order, and every change of the two sets keeps the names among the
flags. -/
theorem flagsLatchUntilCleared : Obligations.FlagsLatchUntilCleared := by
  unfold Obligations.FlagsLatchUntilCleared
  refine ⟨fun f l => ⟨fun h => ?_, fun h => ?_⟩, fun s t h e => names_keep.step h e⟩
  · rcases link_raise_cases f l with ⟨_, e⟩ | ⟨hf, _⟩
    · exact e
    · exact absurd h hf
  · rcases link_raise_cases f l with ⟨hf, _⟩ | ⟨_, e⟩
    · exact absurd hf h
    · rw [e]
      exact ⟨fun g => by simp [mem_insertIn, flag_mem_all], fun g => by simp [mem_insertIn, flag_mem_all],
        List.filter_sublist, rfl⟩

/-! ### The reply queue (R188) -/

theorem replies_keep : StepKeeps fun s => s.link.replies.length ≤ Config.replyQueue where
  toLinkKeeps := FollowsUp.linkKeeps (fun _ _ h hs => h.link.replies.trans hs) (fun _ _ => Nat.zero_le _) (fun _ _ h => h)
    (fun _ h => h)
    (fun r s hr _ => by
      have h := (record_recorded (recordBody_effect r s)).replies
      simpa [takeRecord, addReply, h] using hr)
    (fun s b h => (congrArg List.length (printerByte_reported s b).replies).trans_le h)
  pending _ _ h := h
  effect _ _ _ he h := (congrArg List.length (effect_reported he).replies).trans_le h

end Sys2Proof.Machine
end

section
/-! SUPPORT and PROOF. The buffers (R11, R87, R88, R188, 9.1): text queue, line store, element pool and printer rows through a
step. -/

namespace Sys2Proof.Machine

-- One declaration at a time: it keeps the threads, and with them the memory, of the compile small.
set_option Elab.async false

/-! ### The text queue (R11) -/

@[simp] theorem drainTo_bytes (bytes : Text) (s : State) : (drainTo bytes s).txq.bytes = bytes := by
  rcases drainTo_cases bytes s with ⟨_, _, e⟩ | ⟨_, e⟩ <;> rw [e] <;> rfl

theorem codeRead_bytes (s : State) : (codeRead s).txq.bytes.length ≤ s.txq.bytes.length := by
  have gather (c : Byte) (ps bytes : Text) : (takeCode.gather s c ps bytes).txq.bytes.length ≤ bytes.length := by
    dsimp only [takeCode.gather]
    split <;> simp
  unfold codeRead takeCode
  split
  · split
    · exact le_rfl
    · rename_i b bs _ hq
      exact hq ▸ gather _ _ _
    · rename_i b bs _ hq
      rw [hq]
      exact (gather _ _ _).trans (by simp)
  · exact le_rfl

theorem effect_txq {c : Instr} {s u : State} (h : EventEffect s c u) : u.txq.bytes.length ≤ s.txq.bytes.length := by
  cases h with
  | codeRead => exact codeRead_bytes s
  | countArrives | remainingCounts => simp [counts_frame]
  | spinUpExpires | monitorExpires | restExpires => simp [drumExpires_frame]
  | photocell => rw [(photocell_works (b := true) s).txq]
  | windowEnds => rw [(windowEnds_works s).txq]
  | charged => rw [(charged_works (b := true) s).txq]
  | portFree => exact le_rfl
  | _ => simp

theorem record_txq {s u : State} (h : RecordEffect s u) (hs : s.txq.bytes.length ≤ Config.textQueue) :
    u.txq.bytes.length ≤ Config.textQueue := by
  have happend (payload : Text) (hp : payload.length ≤ s.txq.room) :
      (s.txq.append payload).bytes.length ≤ Config.textQueue := by
    simp only [TextQueue.room] at hp
    simp only [TextQueue.append, List.length_append]
    omega
  cases h with
  | text payload hp => exact happend payload hp
  | textWake payload hp => exact happend payload hp
  | abort form => simp [startAbort]
  | survey => rw [(takeSurvey_frame s).1]; exact hs
  | stop form => rw [(takeStop_works (b := true) form s).txq]; exact hs
  | resume => rw [(resume_works (b := true) s).txq]; exact hs
  | cassette n => simpa [loadCassette] using hs
  | watch => exact hs
  | _ => simpa using hs

theorem text_keeps : StepKeeps fun s => s.txq.bytes.length ≤ Config.textQueue where
  toLinkKeeps := FollowsUp.linkKeeps (fun _ _ h hs => by rw [h.txq]; exact hs) (fun _ _ => Nat.zero_le _) (fun _ _ h => h)
    (fun _ h => h)
    (fun r s _ h => show (recordBody r s).1.txq.bytes.length ≤ _ from record_txq (recordBody_effect r s) h)
    (fun _ _ h => by simpa using h)
  pending _ _ h := h
  effect _ _ _ he h := (effect_txq he).trans h

/-! ### The printer rows (9.1) -/

theorem rowsKept_of_eq {p p' : Proof} (hout : p'.out = p.out) (hroom : p'.room = p.room) (h : p.RowsKept) : p'.RowsKept :=
  ⟨hout ▸ h.1, hroom ▸ h.2⟩

theorem skipAll_rows (rs : List LineRecord) (s : State) :
    (skipAll rs s).prc.out = s.prc.out ∧ (skipAll rs s).prc.room = s.prc.room := by
  unfold skipAll
  induction rs generalizing s with
  | nil => exact ⟨rfl, rfl⟩
  | cons r rs ih =>
    obtain ⟨hout, hroom⟩ := ih (skipRecord r s)
    refine ⟨hout.trans ?_, hroom.trans ?_⟩ <;> dsimp only [skipRecord, proofEnded] <;> split <;> rfl

theorem giveUp_rows (p : Proof) : p.giveUp.RowsKept := ⟨Nat.zero_le _, Nat.zero_le _⟩

theorem beginAsk_rows {p : Proof} (h : p.RowsKept) : p.beginAsk.RowsKept :=
  rowsKept_of_eq (beginAsk_settings p).2.1 (beginAsk_settings p).2.2 h

theorem enterSkipping_rows (s : State) : (enterSkipping s).prc.RowsKept :=
  beginAsk_rows (p := { s.prc.giveUp with st := .skipping }) (giveUp_rows s.prc)

theorem grantExpires_rows (s : State) (h : s.prc.RowsKept) : (grantExpires s).prc.RowsKept := by
  unfold grantExpires
  split
  · exact h
  · split
    · refine ⟨Nat.zero_le _, ?_⟩
      dsimp only [abortGiveUp]
      split
      · exact h.2
      · exact (skipAll_rows _ s).2 ▸ h.2
    · split
      · exact enterSkipping_rows s
      · exact beginAsk_rows h
      · split
        · split
          · exact enterSkipping_rows _
          · dsimp only [requiredSilence]
            split
            · exact beginAsk_rows (p := s.prc) h
            · exact beginAsk_rows (p := s.prc) h
        · exact beginAsk_rows h

theorem restartGrant_rows (s : State) (h : s.prc.RowsKept) : (restartGrant s).prc.RowsKept := by
  unfold restartGrant
  split <;> exact h

theorem proofDone_rows (r : LineRecord) (s : State) (h : s.prc.RowsKept) : (proofDone r s).prc.RowsKept :=
  (proofEnded_settings r (updateRecord r.number (fun r => { r with proof := .done }) s)).2 h

theorem printerByte_rows (s : State) (b : Byte) (h : s.prc.RowsKept) : (printerByte s b).prc.RowsKept := by
  unfold printerByte
  split
  · unfold takeReady
    split
    · exact restartGrant_rows _ ⟨h.1, Nat.min_le_right _ _⟩
    · exact h
  · exact ⟨Nat.zero_le _, Nat.zero_le _⟩
  · split
    · unfold takePrinted
      split
      · exact h
      · rename_i w ws hout
        have hrest := restartGrant_rows (s.withPrc { s.prc with out := ws, afterZero := false })
          ⟨(Nat.le_of_succ_le (by simpa [hout] using h.1)), h.2⟩
        generalize restartGrant _ = t at hrest ⊢
        unfold rowPrinted
        (repeat' split) <;> first | exact hrest | exact proofDone_rows _ t hrest
    · (repeat' split) <;> exact h

theorem effect_rows {c : Instr} {s u : State} (he : EventEffect s c u) (h : s.prc.RowsKept) : u.prc.RowsKept := by
  cases he with
  | grantExpires => exact grantExpires_rows s h
  | portFree => exact h
  | countArrives | remainingCounts => simpa [counts_frame] using h
  | spinUpExpires | monitorExpires | restExpires => simpa [drumExpires_frame] using h
  | photocell => rw [(photocell_works (b := true) s).prc]; exact h
  | windowEnds => rw [(windowEnds_works s).prc]; exact h
  | charged => rw [(charged_works (b := true) s).prc]; exact h
  | _ => simpa using h

theorem tune_rows (s : State) (p : TuneKey × TuneValue) (h : s.prc.RowsKept) : (tune s p).prc.RowsKept := by
  unfold tune
  split
  case h_4 => rw [(testLowFilm_works (b := true) _).prc]; exact h
  case h_9 => dsimp only [Proof.setMode, State.withPrc_prc]; (repeat' split) <;> exact h
  all_goals exact h

theorem askAfresh_rows (s : State) {p : Proof} (h : p.RowsKept) : (askAfresh s p).RowsKept := by
  unfold askAfresh
  split
  · exact h
  · exact beginAsk_rows h

theorem clearFault_rows (b : FaultBlock) (s : State) (h : s.prc.RowsKept) : (clearFault b s).prc.RowsKept := by
  cases b with
  | exposure =>
    simp only [clearFault, surveyRetry_frame]
    rw [(exposureRetry_works (b := true) _).prc]
    exact h
  | film => simpa [clearFault] using h
  | proof =>
    dsimp only [clearFault, proofRetry]
    split
    · exact askAfresh_rows _ (p := { s.prc with room := 0 }) ⟨h.1, Nat.zero_le _⟩
    · split
      · exact askAfresh_rows _ (p := s.prc) h
      · exact h
    · exact h

theorem record_rows {s u : State} (hr : RecordEffect s u) (h : s.prc.RowsKept) : u.prc.RowsKept := by
  cases hr with
  | abort form =>
    have hb (t : State) (ht : t.prc = s.prc) : (proofAbort t).prc.RowsKept := rowsKept_of_eq (p := t.prc) rfl rfl (by rw [ht]; exact h)
    exact hb _ (by simp)
  | survey => rw [(takeSurvey_frame s).2.2.2.2.1]; exact h
  | stop form => rw [(takeStop_works (b := true) form s).prc]; exact h
  | resume => rw [(resume_works (b := true) s).prc]; exact h
  | cassette n => simpa [loadCassette] using h
  | tune ps => exact tuneAll_induct tune_rows ps h
  | clearFault b => exact clearFault_rows b s h
  | _ => simpa using h

theorem rows_keep : StepKeeps fun s => s.prc.RowsKept where
  toLinkKeeps := FollowsUp.linkKeeps (fun _ _ h => h.rows) (fun _ _ => ⟨Nat.zero_le _, Nat.zero_le _⟩) (fun _ _ h => h)
    (fun _ h => h) (fun r s _ h => show (recordBody r s).1.prc.RowsKept from record_rows (recordBody_effect r s) h)
    printerByte_rows
  pending _ _ h := h
  effect _ _ _ := effect_rows

/-! ### The line store and the element pool (R87, R88) -/

/-- At most 24 records, and 2,048 elements in records, open line and held line together. -/
def PoolKept (s : State) : Prop := s.sls.records.length ≤ Config.storeRecords ∧ usedElements s ≤ Config.poolElements

/-- No record and no element more. -/
def PoolFollows (s t : State) : Prop :=
  t.sls.records.length ≤ s.sls.records.length ∧ usedElements t ≤ usedElements s

theorem PoolFollows.kept {s t : State} (h : PoolFollows s t) (hs : PoolKept s) : PoolKept t :=
  ⟨h.1.trans hs.1, h.2.trans hs.2⟩

theorem PoolFollows.trans {s t u : State} (h : PoolFollows s t) (h' : PoolFollows t u) : PoolFollows s u :=
  ⟨h'.1.trans h.1, h'.2.trans h.2⟩

theorem PoolFollows.refl (s : State) : PoolFollows s s := ⟨le_rfl, le_rfl⟩

theorem recordElems_congr {rs rs' : List LineRecord} (h : rs'.map LineRecord.elems = rs.map LineRecord.elems) :
    rs'.length = rs.length ∧ (rs'.map fun r => r.elems.length).sum = (rs.map fun r => r.elems.length).sum := by
  have hlen := congrArg List.length h
  have hsum := congrArg (fun es => (es.map List.length).sum) h
  simp only [List.length_map, List.map_map] at hlen hsum
  exact ⟨hlen, hsum⟩

/-- The records keep their elements, and the composer holds no more of them. -/
theorem PoolFollows.of_elems {s t : State} (h : t.sls.records.map LineRecord.elems = s.sls.records.map LineRecord.elems)
    (hopen : (openElems t).length ≤ (openElems s).length) (hheld : (heldLine t).length ≤ (heldLine s).length) :
    PoolFollows s t := by
  obtain ⟨hlen, hsum⟩ := recordElems_congr h
  refine ⟨hlen.le, ?_⟩
  unfold usedElements
  omega

theorem PoolFollows.of_cmp {s t : State} (h : t.sls.records.map LineRecord.elems = s.sls.records.map LineRecord.elems)
    (hc : t.cmp = s.cmp) : PoolFollows s t :=
  .of_elems h (by unfold openElems; rw [hc]) (by unfold heldLine; rw [hc])

theorem PoolFollows.of_works {b : Bool} {s t : State} (h : Works b s t) : PoolFollows s t := .of_cmp h.elems h.cmp

/-! The composer's steps. -/

theorem heldLine_of_task {s : State} {t : Task} (h : s.cmp.task = some t) (ht : ∀ r c, t ≠ .offer r c) : heldLine s = [] := by
  unfold heldLine
  rw [h]
  cases t with
  | offer r c => exact absurd rfl (ht r c)
  | _ => rfl

theorem heldLine_none {s : State} (h : s.cmp.task = none) : heldLine s = [] := by
  unfold heldLine
  rw [h]

/-- A step of the composer after which it holds no closed line and no element more on the open one. -/
theorem PoolFollows.of_step {s t : State} (hsls : t.sls.records = s.sls.records)
    (hline : ∀ l', t.cmp.line = some l' → l'.elems = [] ∨ ∃ l, s.cmp.line = some l ∧ l'.elems = l.elems)
    (hheld : heldLine t = [] ∨ heldLine t = heldLine s) : PoolFollows s t := by
  refine .of_elems (by rw [hsls]) ?_ (by rcases hheld with h | h <;> simp [h])
  unfold openElems
  cases ht : t.cmp.line with
  | none => simp
  | some l' =>
    rcases hline l' ht with he | ⟨l, hl, he⟩
    · simp [he]
    · simp [hl, he]

/-- The open line stands, or its elements do. -/
theorem sameElems_of_map {c c' : Composer} (g : OpenLine → OpenLine) (hg : ∀ l, (g l).elems = l.elems)
    (h : c'.line = c.line.map g) (l' : OpenLine) (hl : c'.line = some l') :
    l'.elems = [] ∨ ∃ l, c.line = some l ∧ l'.elems = l.elems := by
  obtain ⟨l, hc, rfl⟩ := Option.map_eq_some_iff.mp (h ▸ hl)
  exact .inr ⟨l, hc, hg l⟩

theorem sameElems_of_eq {c c' : Composer} (h : c'.line = c.line) (l' : OpenLine) (hl : c'.line = some l') :
    l'.elems = [] ∨ ∃ l, c.line = some l ∧ l'.elems = l.elems := .inr ⟨l', h ▸ hl, rfl⟩

theorem setTask_pool {t : Option Task} (ht : ∀ r c, t ≠ some (.offer r c)) (s : State) : PoolFollows s (setTask t s) := by
  refine .of_step rfl (sameElems_of_eq rfl) (.inl ?_)
  cases t with
  | none => rfl
  | some t => exact heldLine_of_task rfl fun r c e => ht r c (by rw [e])

theorem codeDone_pool {c : Composer} {s : State}
    (h : ∀ l', c.line = some l' → l'.elems = [] ∨ ∃ l, s.cmp.line = some l ∧ l'.elems = l.elems) :
    PoolFollows s (codeDone c s) := .of_step rfl h (.inl rfl)

theorem stallSetup_pool (cause : StallCause) (s : State) : PoolFollows s (stallSetup cause s) := by
  rcases stallSetup_cases cause s with ⟨_, h⟩ | ⟨_, h⟩ <;> rw [h] <;> exact .of_step rfl (sameElems_of_eq rfl) (.inr rfl)

/-- A size resolved leaves the line, or flags it. -/
theorem resolveSize_line {o : Optics} {req : Nat} {c c' : Composer} (h : c.resolveSize o req = some c') (l' : OpenLine)
    (hl : c'.line = some l') : l'.elems = [] ∨ ∃ l, c.line = some l ∧ l'.elems = l.elems := by
  unfold Composer.resolveSize at h
  obtain ⟨⟨l, subst⟩, _, rfl⟩ := Option.map_eq_some_iff.mp h
  cases subst
  · exact sameElems_of_eq rfl l' hl
  · exact sameElems_of_map (fun l => { l with flags := addLineFlag .sizeSubst l.flags }) (fun _ => rfl) rfl l' hl

theorem withLens_line {o : Optics} {c c' : Composer} {l : LensSel} (h : c.withLens o = some (c', l)) (l' : OpenLine)
    (hl : c'.line = some l') : l'.elems = [] ∨ ∃ l, c.line = some l ∧ l'.elems = l.elems := by
  rcases withLens_cases h with rfl | h
  · exact sameElems_of_eq rfl l' hl
  · exact resolveSize_line h l' hl

theorem pushElem_pool (byte : Byte) (mk : Fin 8 → LensSel → Elem) (s : State) : PoolFollows s (pushElem byte mk s) := by
  unfold pushElem
  split
  · exact stallSetup_pool .lens s
  · rename_i h
    exact codeDone_pool fun l' hl => withLens_line h l' hl

theorem setParam_line (f : LineSet → LineSet) (c : Composer) (l' : OpenLine) (hl : (c.setParam f).line = some l') :
    l'.elems = [] ∨ ∃ l, c.line = some l ∧ l'.elems = l.elems :=
  sameElems_of_map (fun l => if l.nonEmpty then l else { l with set := f l.set }) (fun l => by split <;> rfl) rfl l' hl

theorem setReturn_line (k : Fin 4) (c : Composer) (l' : OpenLine) (hl : (c.setReturn k).line = some l') :
    l'.elems = [] ∨ ∃ l, c.line = some l ∧ l'.elems = l.elems := by
  unfold Composer.setReturn at hl
  split at hl
  · split at hl
    · exact sameElems_of_eq rfl l' hl
    · rename_i l h _
      cases hl
      exact .inr ⟨l, h, rfl⟩
  · exact sameElems_of_eq rfl l' hl

theorem actCode_pool (byte : Byte) (code : Code) (s : State) : PoolFollows s (actCode byte code s) := by
  cases code with
  | fill | face _ | soft | tie | hyph _ => exact codeDone_pool (sameElems_of_eq rfl)
  | undefined =>
    exact codeDone_pool (sameElems_of_map (fun l => { l with flags := addLineFlag .code l.flags }) (fun _ => rfl) rfl)
  | mark k => exact codeDone_pool (sameElems_of_map (OpenLine.addMark k) (fun _ => rfl) rfl)
  | lead l => exact codeDone_pool (setParam_line (fun p => { p with leading := l }) s.cmp)
  | quad q => exact codeDone_pool (setParam_line (fun p => { p with quad := q }) s.cmp)
  | measure m => exact codeDone_pool (setParam_line (fun p => ({ p with measure := m } : LineSet).agree) s.cmp)
  | indent l r => exact codeDone_pool (setParam_line (fun p => ({ p with left := l, right := r } : LineSet).agree) s.cmp)
  | ret k => exact codeDone_pool (setReturn_line k s.cmp)
  | ending _ | space => exact setTask_pool (by simp) s
  | fixed f => exact pushElem_pool byte (fun _ l => fixedElem f l) s
  | size n =>
    dsimp only [actCode]
    split
    · exact stallSetup_pool .lens s
    · rename_i h
      exact codeDone_pool fun l' hl => resolveSize_line h l' hl
  | char slot =>
    dsimp only [actCode]
    split
    · exact stallSetup_pool .mount s
    · exact pushElem_pool byte _ s

theorem openLine_pool (s : State) : PoolFollows s (openLine s) :=
  .of_step rfl (fun l' h => .inl (by cases h; rfl)) (.inr rfl)

theorem ensureOpen_pool (s : State) : PoolFollows s (ensureOpen s) := by
  unfold ensureOpen
  split
  · exact .refl s
  · exact openLine_pool s

theorem codeStep_pool (byte : Byte) (ps : Text) (s : State) : PoolFollows s (codeStep byte ps s) := by
  refine (ensureOpen_pool s).trans ?_
  dsimp only [codeStep]
  split
  · exact setTask_pool (by simp) _
  · exact actCode_pool byte _ _

theorem placeFrom_length (res : GlueResult) (at_ k : Nat) (prev : Option Elem) (es : List Elem) :
    (placeFrom res at_ k prev es).length = es.length := by
  induction es generalizing at_ k prev with
  | nil => rfl
  | cons e es ih => simp [placeFrom, ih]

/-- A line that closes is held with the elements it had (R50). -/
theorem closeLine_pool (brk : BreakKind) (cut : Bool) (flags : List LineFlag) (rest : WordBuf) (carried : Option BreakOpp)
    (s : State) : PoolFollows s (closeLine brk cut flags rest carried s) := by
  unfold closeLine
  split
  · exact setTask_pool (by simp) s
  · rename_i l hl
    refine ⟨le_rfl, ?_⟩
    simp only [usedElements, openElems, heldLine, hl, State.withCmp_cmp, State.withCmp_sls, OpenLine.close, placeFrom_length,
      List.length_nil]
    omega

theorem examineStep_pool (l : OpenLine) (opp : BreakOpp) (s : State) : PoolFollows s (examineStep l opp s) := by
  have houtcome (p : Option Position) (c : Composer) (hc : c.line = s.cmp.line) (ht : c.task = some (outcome p [] opp)) :
      PoolFollows s (s.withCmp c) :=
    .of_step rfl (sameElems_of_eq hc) (.inl (heldLine_of_task ht (by cases p <;> simp [outcome])))
  dsimp only [examineStep]
  split
  · exact stallSetup_pool .hyphen s
  · split
    · exact .of_step rfl (sameElems_of_eq rfl) (.inl rfl)
    · exact houtcome _ _ rfl rfl

theorem fitStep_pool (opp : BreakOpp) (s : State) : PoolFollows s (fitStep opp s) := by
  refine (ensureOpen_pool s).trans ?_
  unfold fitStep
  generalize ensureOpen s = s1
  dsimp only
  split
  · exact .refl _
  · split
    · exact setTask_pool (by simp) s1
    · split
      · exact setTask_pool (by simp) s1
      · split
        · exact closeLine_pool _ _ _ _ _ s1
        · split
          · exact examineStep_pool _ opp s1
          · exact setTask_pool (by simp) s1

theorem afterStep_pool (opp : BreakOpp) (s : State) : PoolFollows s (afterStep opp s) := by
  cases opp with
  | space size => exact .of_step rfl (sameElems_of_eq rfl) (.inl rfl)
  | ending k => cases k <;> exact (ensureOpen_pool s).trans (closeLine_pool _ _ _ _ _ _)
  | split byte ps =>
    have h (t : State) (c : Composer) (hl : c.line = t.cmp.line) (ht : c.task = some (.code byte ps)) :
        PoolFollows t (t.withCmp c) :=
      .of_step rfl (sameElems_of_eq hl) (.inl (heldLine_of_task ht (by simp)))
    exact (ensureOpen_pool s).trans (h _ _ rfl rfl)

theorem noBreakStep_pool (flags : List LineFlag) (opp : BreakOpp) (s : State) : PoolFollows s (noBreakStep flags opp s) := by
  unfold noBreakStep
  split
  · exact setTask_pool (by simp) s
  · split
    · exact closeLine_pool _ _ _ _ _ s
    · exact setTask_pool (by simp) s

/-- A part is placed with its elements and no more (R43). -/
theorem placeItems_length (ne : Bool) (before : Nat) (is : List WordItem) :
    (placeItems ne before is).length = (itemElems is).length := by
  induction is generalizing ne before with
  | nil => rfl
  | cons i is ih => cases i <;> simp [placeItems, itemElems, WordItem.elem?, ih] <;> rfl

theorem append_length (j : Job) (l : OpenLine) (held : Option Nat) (is : List WordItem) (added : Option Elem) :
    (l.append j held is added).elems.length = l.elems.length + ((itemElems is).length + added.toList.length) := by
  simp [OpenLine.append, OpenLine.part, placeItems_length]

/-- Elements that the free pool can supply, placed on the open line, keep the pool (R35, R88). -/
theorem pool_append {s : State} {l l' : OpenLine} {c : Composer} {n : Nat} (hs : PoolKept s) (hl : s.cmp.line = some l)
    (hn : ¬ freePool s < n) (hc : c.line = some l') (hlen : l'.elems.length ≤ l.elems.length + n)
    (hheld : heldLine (s.withCmp c) = [] ∨ c.task = s.cmp.task) : PoolKept (s.withCmp c) := by
  refine ⟨hs.1, ?_⟩
  have hh : (heldLine (s.withCmp c)).length ≤ (heldLine s).length := by
    rcases hheld with h | h
    · simp [h]
    · unfold heldLine
      simp [h]
  have hused := hs.2
  unfold freePool at hn
  simp only [usedElements, openElems, hl, hc, State.withCmp_cmp, State.withCmp_sls] at hn hused ⊢
  omega

theorem placeStep_pool (opp : BreakOpp) {s : State} (hs : PoolKept s) : PoolKept (placeStep opp s) := by
  dsimp only [placeStep]
  split
  · exact (setTask_pool (by simp) s).kept hs
  · rename_i l hl
    split
    · exact hs
    · rename_i hn
      exact pool_append hs hl hn rfl (by simp [append_length]) (.inl rfl)

theorem breakStep_pool (b : Break) (flags : List LineFlag) (opp : BreakOpp) {s : State} (hs : PoolKept s) :
    PoolKept (breakStep b flags opp s) := by
  dsimp only [breakStep]
  split
  · exact (setTask_pool (by simp) s).kept hs
  · rename_i l hl
    split
    · exact hs
    · rename_i hn
      exact (closeLine_pool _ _ _ _ _ _).kept (pool_append hs hl hn rfl (by simp [append_length]) (.inr rfl))

/-- The first items up to the `k`-th element hold at most `k` elements. -/
theorem itemElems_takeElems_le (k : Nat) (is : List WordItem) : (itemElems (takeElems k is)).length ≤ k := by
  induction is generalizing k with
  | nil => cases k <;> simp [takeElems, itemElems]
  | cons i is ih =>
    cases k with
    | zero => simp [takeElems, itemElems]
    | succ k =>
      cases i with
      | elem c e env => simpa [takeElems, itemElems, WordItem.elem?, WordItem.isElem] using ih k
      | tie env => exact ih (k + 1)
      | soft env => exact ih (k + 1)

theorem oversetStep_pool (flags : List LineFlag) (opp : BreakOpp) {s : State} (hs : PoolKept s) :
    PoolKept (oversetStep flags opp s) := by
  dsimp only [oversetStep]
  split
  · exact (setTask_pool (by simp) s).kept hs
  · rename_i l hl
    split
    · exact hs
    · rename_i hn
      refine (closeLine_pool _ _ _ _ _ _).kept (pool_append hs hl hn rfl ?_ (.inr rfl))
      simpa [append_length] using itemElems_takeElems_le _ _

theorem enterStore_line (r : LineRecord) (s : State) :
    (enterStore r s).sls.records = s.sls.records ++ [r] ∧ (enterStore r s).cmp.line = s.cmp.line := by
  dsimp only [enterStore]
  split <;> exact ⟨rfl, rfl⟩

/-- The store takes the line that was held (R50). -/
theorem offerStep_pool {r : LineRecord} {carried : Option BreakOpp} {s : State} (hs : PoolKept s)
    (ht : s.cmp.task = some (.offer r carried)) : PoolKept (offerStep r carried s) := by
  have henter : ∀ t, t.sls.records = (enterStore r s).sls.records → (openElems t).length ≤ (openElems s).length →
      heldLine t = [] → s.sls.records.length < Config.storeRecords → PoolKept t := by
    intro t hrec hopen hheld hlen
    have hused := hs.2
    have hr : heldLine s = r.elems := by simp [heldLine, ht]
    unfold usedElements at hused
    unfold PoolKept usedElements
    rw [hrec, (enterStore_line r s).1, hheld]
    rw [hr] at hused
    simp only [List.length_append, List.map_append, List.sum_append, List.map_cons, List.map_nil, List.sum_cons,
      List.sum_nil, List.length_cons, List.length_nil]
    omega
  have hline : (openElems (enterStore r s)).length ≤ (openElems s).length := by
    unfold openElems
    rw [(enterStore_line r s).2]
  dsimp only [offerStep]
  split
  · exact hs
  · rename_i hlen
    rw [not_le] at hlen
    split
    · exact henter _ rfl hline rfl hlen
    · split
      · exact henter _ rfl hline rfl hlen
      · exact henter _ rfl (Nat.zero_le _) rfl hlen

theorem taskStep_pool {t : Task} {s : State} (ht : s.cmp.task = some t) (hs : PoolKept s) : PoolKept (taskStep t s) := by
  cases t with
  | code byte ps => exact (codeStep_pool byte ps s).kept hs
  | fit opp => exact (fitStep_pool opp s).kept hs
  | place opp => exact placeStep_pool opp hs
  | brk b flags opp => exact breakStep_pool b flags opp hs
  | noBreak flags opp => exact (noBreakStep_pool flags opp s).kept hs
  | overset flags opp => exact oversetStep_pool flags opp hs
  | offer r carried => exact offerStep_pool hs ht
  | after opp => exact (afterStep_pool opp s).kept hs
  | decision opp => exact hs

theorem composerStep_pool {s t : State} (h : composerStep s = some t) (hs : PoolKept s) : PoolKept t := by
  rcases composerStep_cases h with ⟨k, _, ht, rfl⟩ | ⟨_, _, _, _, rfl⟩
  · exact taskStep_pool ht hs
  · exact (PoolFollows.of_step rfl (sameElems_of_eq rfl) (.inr rfl)).kept hs

/-! The other operations: the records keep their elements. -/

theorem update_elems {f : LineRecord → LineRecord} (hf : ∀ r, (f r).elems = r.elems) (st : Store) (n : Nat) :
    (st.update n f).records.map LineRecord.elems = st.records.map LineRecord.elems := by
  simp only [Store.update, List.map_map]
  refine List.map_congr_left fun r _ => ?_
  dsimp only [Function.comp]
  split
  · exact hf r
  · rfl

/-- The same work seen from a state with the same records and composer. -/
theorem PoolFollows.after {s t u : State} (h : PoolFollows s t) (hr : u.sls.records = t.sls.records) (hc : u.cmp = t.cmp) :
    PoolFollows s u := h.trans (.of_cmp (by rw [hr]) hc)

theorem updateRecord_pool {f : LineRecord → LineRecord} (hf : ∀ r, (f r).elems = r.elems) (n : Nat) (s : State) :
    PoolFollows s (updateRecord n f s) := .of_cmp (update_elems hf s.sls n) rfl

theorem proofEnded_pool (r : LineRecord) (s : State) : PoolFollows s (proofEnded r s) := by
  dsimp only [proofEnded]
  split <;> exact .of_cmp rfl rfl

theorem skipRecord_pool (r : LineRecord) (s : State) : PoolFollows s (skipRecord r s) :=
  (updateRecord_pool (by exact fun _ => rfl) r.number s).trans (proofEnded_pool r _)

theorem skipAll_pool (rs : List LineRecord) (s : State) : PoolFollows s (skipAll rs s) := by
  unfold skipAll
  induction rs generalizing s with
  | nil => exact .refl s
  | cons r rs ih => exact (skipRecord_pool r s).trans (ih _)

theorem completeAbort_pool (s : State) : PoolFollows s (completeAbort s) := by
  refine ⟨Nat.zero_le _, ?_⟩
  simp [usedElements, openElems, heldLine, completeAbort, proofAbortEnds, Store.abortEnds, Composer.abortEnds]

theorem releaseOldest_pool {s t : State} (h : releaseOldest s = some t) : PoolFollows s t := by
  unfold releaseOldest at h
  split at h
  · rename_i r rs hrs
    split at h <;> cases h
    constructor
    · simp [hrs]
    · simp only [usedElements, openElems, heldLine, State.withSls_cmp, State.withSls_sls, hrs, List.map_cons, List.sum_cons]
      omega
  · cases h

theorem composerRest_pool {s t : State} (h : composerRest s = some t) : PoolFollows s t := by
  unfold composerRest at h
  (repeat' split at h) <;> cases h <;> exact .of_step rfl (sameElems_of_eq rfl) (.inr rfl)

theorem react_pool {s t : State} (h : react s = some t) (hs : PoolKept s) : PoolKept t := by
  rcases react_cases h with h | h | h | h | h | h | h | h
  · exact (PoolFollows.of_works (b := false) (exposureReact_works h)).kept hs
  · have hf := surveyReact_frame s t h
    exact (PoolFollows.of_cmp (by simp [hf]) (by simp [hf])).kept hs
  · exact (releaseOldest_pool h).kept hs
  · unfold skipReact at h
    split at h
    · obtain ⟨r, _, rfl⟩ := Option.map_eq_some_iff.mp h
      exact (skipRecord_pool r s).kept hs
    · cases h
  · exact composerStep_pool h hs
  · exact (PoolFollows.of_works (b := false) (exposureTake_works h)).kept hs
  · exact (composerRest_pool h).kept hs
  · unfold abortReact at h
    split at h <;> cases h
    exact (completeAbort_pool s).kept hs

theorem sendRow_pool (r : LineRecord) (j : Nat) (s : State) : PoolFollows s (sendRow r j s) := by
  have h : PoolFollows s (updateRecord r.number (fun r => { r with proof := .inProgress }) s) :=
    updateRecord_pool (by exact fun _ => rfl) r.number s
  dsimp only [sendRow]
  split <;> exact h.after rfl rfl

theorem proofAct_pool (s : State) : PoolFollows s (proofAct s) := by
  dsimp only [proofAct]
  split
  · exact .refl s
  · split
    · exact .of_cmp rfl rfl
    · split
      · exact .refl s
      · split
        · unfold sendReady
          (repeat' split) <;> first | exact .refl s | exact .of_cmp rfl rfl | exact sendRow_pool _ _ s
        · split
          · exact .refl s
          · exact .of_cmp rfl rfl

theorem proofService_pool (s : State) : PoolFollows s (proofService s) := by
  have htimer (s1 : State) : PoolFollows s1 (timerService s1) := by
    unfold timerService
    (repeat' split) <;> exact .of_cmp rfl rfl
  dsimp only [proofService]
  split
  · exact (proofAct_pool s).trans (htimer _)
  · exact (PoolFollows.of_cmp (t := s.withPrc { s.prc with st := s.prc.decided (rowReady s) }) rfl rfl).trans
      ((proofAct_pool _).trans (htimer _))

theorem proofDone_pool (r : LineRecord) (s : State) : PoolFollows s (proofDone r s) := by
  have h : PoolFollows s (updateRecord r.number (fun r => { r with proof := .done }) s) :=
    updateRecord_pool (by exact fun _ => rfl) r.number s
  exact (h.trans (proofEnded_pool r _)).after rfl rfl

theorem restartGrant_pool (s : State) : PoolFollows s (restartGrant s) := by
  unfold restartGrant
  split <;> exact .of_cmp rfl rfl

theorem takePrinted_pool (s : State) : PoolFollows s (takePrinted s) := by
  have hrow (w : ProofRow) (t : State) : PoolFollows t (rowPrinted w t) := by
    unfold rowPrinted
    (repeat' split) <;> first | exact .refl t | exact proofDone_pool _ t
  unfold takePrinted
  split
  · exact .refl s
  · rename_i w ws _
    have h : PoolFollows s (s.withPrc { s.prc with out := ws, afterZero := false }) := .of_cmp rfl rfl
    exact (h.trans (restartGrant_pool _)).trans (hrow w _)

theorem returnToPending_pool (s : State) : PoolFollows s (returnToPending s) := by
  refine .of_cmp ?_ rfl
  simp only [returnToPending, State.withSls_sls, List.map_map]
  refine List.map_congr_left fun r _ => ?_
  dsimp only [Function.comp]
  split <;> rfl

theorem endWaitReturned_pool (s : State) : PoolFollows s (endWaitReturned s) := by
  unfold endWaitReturned
  (repeat' split) <;> exact .of_cmp rfl rfl

theorem takeFault_pool (c : Byte) (s : State) : PoolFollows s (takeFault c s) := by
  have h : PoolFollows s (proofFault .printer (proofFaultLine s) (s.withPrc { s.prc with lastCode := some c })) :=
    .of_cmp rfl rfl
  dsimp only [takeFault]
  generalize proofFault .printer (proofFaultLine s) (s.withPrc { s.prc with lastCode := some c }) = s1 at h ⊢
  refine PoolFollows.after (t := match s1.prc.mode with
    | .best => if s1.sls.proofing.isEmpty then s1 else raise .skip (skipAll s1.sls.proofing s1)
    | .required => endWaitReturned (returnToPending s1)) ?_ rfl rfl
  split
  · split
    · exact h
    · exact (h.trans (skipAll_pool _ _)).after rfl rfl
  · exact h.trans ((returnToPending_pool _).trans (endWaitReturned_pool _))

theorem printerByte_pool (s : State) (b : Byte) : PoolFollows s (printerByte s b) := by
  have h : PoolFollows s (s.withPrc { s.prc with half := none }) := .of_cmp rfl rfl
  unfold printerByte
  split
  · refine h.trans ?_
    unfold takeReady
    split
    · exact .trans (.of_cmp rfl rfl) (restartGrant_pool _)
    · exact .refl _
  · exact h.trans (takeFault_pool b _)
  · split
    · exact takePrinted_pool s
    · (repeat' split) <;> exact .of_cmp rfl rfl

theorem grantExpires_pool (s : State) : PoolFollows s (grantExpires s) := by
  have hgone (rs : List LineRecord) : PoolFollows s (if rs.isEmpty then s else raise .skip (skipAll rs s)) := by
    split
    · exact .refl s
    · exact (skipAll_pool rs s).after rfl rfl
  have hsilent : PoolFollows s (requiredSilence s) := by
    dsimp only [requiredSilence]
    split <;> exact .of_cmp rfl rfl
  unfold grantExpires
  split
  · exact .refl s
  · split
    · exact (hgone _).after rfl rfl
    · split
      · exact .of_cmp rfl rfl
      · exact .of_cmp rfl rfl
      · split
        · split
          · exact (skipAll_pool _ s).after rfl rfl
          · exact hsilent
        · exact .of_cmp rfl rfl

theorem endReferral_pool (how : LastEnd) (p : Option Position) (flags : List LineFlag) (s : State) :
    PoolFollows s (endReferral how p flags s) := by
  dsimp only [endReferral]
  split
  · rename_i opp _
    exact .of_step rfl (sameElems_of_eq rfl) (.inl (by cases p <;> rfl))
  · exact .of_cmp rfl rfl

theorem codeRead_pool (s : State) : PoolFollows s (codeRead s) := by
  have gather (c : Byte) (ps bytes : Text) (ht : s.cmp.task = none) : PoolFollows s (takeCode.gather s c ps bytes) := by
    dsimp only [takeCode.gather]
    split
    · exact .of_step (by simp) (sameElems_of_eq (by simp)) (.inl (heldLine_none (by simp [ht])))
    · exact .of_step (by simp) (sameElems_of_eq (by simp)) (.inl rfl)
  unfold codeRead takeCode
  split
  · rename_i h
    split
    · exact .refl s
    · exact gather _ _ _ h.2
    · exact gather _ _ _ h.2
  · exact .refl s

theorem counts_pool (s : State) : PoolFollows s (countArrives s) ∧ PoolFollows s (remainingCounts s) := by
  refine counts_keep (P := PoolFollows s) (fun s' x h => h.after rfl rfl) (fun s' a n _ h => h.after rfl rfl)
    (fun t h => ?_) (.refl s)
  rcases slotArrives_works t with hw | ⟨a, _, _, e⟩
  · exact h.trans (.of_works hw)
  · rw [e]
    exact h.after rfl rfl

theorem cutterDone_pool (s : State) : PoolFollows s (cutterDone s) := by
  unfold cutterDone
  split
  · exact (PoolFollows.of_cmp (t := raise .galley (s.withFtc s.ftc.cutDone)) rfl rfl).trans
      (.of_works (endCutWait_works (b := true) _))
  · exact .refl s

theorem effect_pool {c : Instr} {s u : State} (h : EventEffect s c u) : PoolFollows s u := by
  cases h with
  | codeRead => exact codeRead_pool s
  | referralExpires =>
    unfold referralExpires
    split
    · exact endReferral_pool _ _ _ s
    · exact .refl s
  | countArrives => exact (counts_pool s).1
  | remainingCounts => exact (counts_pool s).2
  | photocell => exact .of_works (photocell_works (b := true) s)
  | windowEnds => exact .of_works (windowEnds_works s)
  | charged => exact .of_works (charged_works (b := true) s)
  | stepperDone => exact .of_works (stepperDone_works (b := true) s)
  | moveJams => exact .of_works (moveJams_works s)
  | cutterDone => exact cutterDone_pool s
  | cutterFails => exact .of_works (cutterFails_works s)
  | grantExpires => exact grantExpires_pool s
  | portFree => exact .of_cmp rfl rfl
  | spinUpExpires | monitorExpires | restExpires => exact .of_cmp (by simp [drumExpires_frame]) (by simp)
  | _ => exact .of_cmp (by simp) (by simp)

theorem startAbort_pool (form : HaltForm) (s : State) : PoolFollows s (startAbort form s) := by
  refine .of_elems ?_ (by simp [openElems, startAbort, Composer.abandon, proofAbort])
    (by simp [heldLine, startAbort, Composer.abandon, proofAbort])
  simp only [startAbort, proofAbort, Store.beginAbort, State.withPrc_sls, exposureAbort_frame, State.withSls_sls,
    withdrawReferral_frame, drainTo_frame, List.map_map]
  refine List.map_congr_left fun r _ => ?_
  dsimp only [Function.comp]
  split <;> rfl

theorem clearFault_pool (b : FaultBlock) (s : State) : PoolFollows s (clearFault b s) := by
  cases b with
  | exposure =>
    have h (t : State) : PoolFollows t (surveyRetry (exposureRetry t)) :=
      PoolFollows.after (.of_works (exposureRetry_works (b := true) t)) (by simp) (by simp)
    exact .trans (.of_cmp rfl rfl) (h ((s.withLink { s.link with exposure := .empty }).withOpc { s.opc with stallHold := false }))
  | film =>
    have h (t : State) : PoolFollows t (retryFilm t) := .of_works (retryFilm_works (b := true) t)
    exact .trans (.of_cmp rfl rfl) (h (s.withLink { s.link with film := .empty }))
  | proof => exact .of_cmp (by simp [clearFault]) (by simp [clearFault])

theorem retrySetup_pool (s : State) : PoolFollows s (retrySetup s) := by
  unfold retrySetup
  split
  · exact .of_step rfl (sameElems_of_eq rfl) (.inr rfl)
  · exact .refl s

theorem tune_pool (s : State) (p : TuneKey × TuneValue) : PoolFollows s (tune s p) := by
  unfold tune
  split <;> exact .of_cmp (by simp) (by simp)

theorem record_pool {s u : State} (h : RecordEffect s u) : PoolFollows s u := by
  cases h with
  | decided p => exact endReferral_pool _ _ _ s
  | abort form => exact startAbort_pool form s
  | job p => exact .of_step rfl (sameElems_of_eq rfl) (.inr rfl)
  | face m x => exact .trans (.of_cmp rfl rfl) (retrySetup_pool (s.withOpc (s.opc.setMount m x)))
  | lens p size => exact .trans (.of_cmp rfl rfl) (retrySetup_pool (s.withOpc (s.opc.setLens p size)))
  | stop form => exact .of_works (takeStop_works (b := true) form s)
  | resume => exact .of_works (resume_works (b := true) s)
  | survey => exact .of_cmp (by rw [(takeSurvey_frame s).2.2.1]) (by unfold takeSurvey; split <;> simp)
  | clearFault b => exact clearFault_pool b s
  | same => exact .refl s
  | cassette n => exact .of_cmp (by simp [loadCassette]) (by simp [loadCassette])
  | tune ps => exact tuneAll_induct (P := PoolFollows s) (fun t p h => h.trans (tune_pool t p)) ps (.refl s)
  | _ => exact .of_cmp (by simp) (by simp)

theorem pool_keeps : StepKeeps PoolKept where
  reset c s := ⟨Nat.zero_le _, Nat.zero_le _⟩
  rx rx s h := h
  txFree s h := h
  pump s h := (PoolFollows.of_cmp (by simp) (by simp)).kept h
  record r s _ h := (record_pool (recordBody_effect r s)).kept h
  byte s b h := (printerByte_pool s b).kept h
  react s t h := react_pool h
  spin s h := (PoolFollows.of_cmp (by simp) (by simp)).kept h
  rest s h := (PoolFollows.of_cmp (by simp) (by simp)).kept h
  proof s h := (proofService_pool s).kept h
  idle s h := h
  pending _ _ h := h
  effect _ _ _ he h := (effect_pool he).kept h

/-- Settles O59: each buffer's limit is kept by everything a step is made of. -/
theorem buffersStayWithinTheirLimits : Obligations.BuffersStayWithinTheirLimits := by
  unfold Obligations.BuffersStayWithinTheirLimits
  rintro s t ⟨htext, hreplies, hrecords, hused, hout, hroom⟩ h
  obtain ⟨hrecords', hused'⟩ := pool_keeps.step ⟨hrecords, hused⟩ h
  obtain ⟨hout', hroom'⟩ := rows_keep.step ⟨hout, hroom⟩ h
  exact ⟨text_keeps.step htext h, replies_keep.step hreplies h, hrecords', hused', hout', hroom'⟩

end Sys2Proof.Machine
end

section
/-! SUPPORT and PROOF. The receiver and the transmitter (R186 to R189): frames read from their bytes, malformed records, reply
room, frame ends and the reset. -/

namespace Sys2Proof.Machine

-- One declaration at a time: it keeps the threads, and with them the memory, of the compile small.
set_option Elab.async false

/-! ### The receive buffer -/

@[simp] theorem setRx_rx (x : Receiver) (s : State) : (setRx x s).link.rx = x := rfl

@[simp] theorem setRx_setRx (x y : Receiver) (s : State) : setRx y (setRx x s) = setRx y s := rfl

theorem setRx_self {x : Receiver} {s : State} (h : s.link.rx = x) : setRx x s = s := by
  subst h
  rfl

theorem exec_of_recordOf {c : Instr} {r : LinkRecord} (h : recordOf c = some r) (s : State) : exec c s = recordEvent r s := by
  cases c <;> cases h <;> rfl

/-! ### Frames read byte by byte (R187) -/

theorem feed_cons (b : Byte) (bs : Text) (s : State) : feed (b :: bs) s = feed bs (feedByte s b) := rfl

theorem feed_append (as bs : Text) (s : State) : feed (as ++ bs) s = feed bs (feed as s) := List.foldl_append

theorem feedByte_hunting {s : State} (h : s.link.rx = .hunting) (b : Byte) :
    feedByte s b = if b = 0xA5#8 then setRx (.inFrame []) s else s := by
  unfold feedByte
  rw [h]

theorem feedByte_long {s : State} {got : Text} (h : s.link.rx = .inFrame got) {b : Byte} (hl : tooLong (got ++ [b]) = true) :
    feedByte s b = setRx .hunting s := by
  simp [feedByte, h, hl]

theorem feedByte_part {s : State} {got : Text} (h : s.link.rx = .inFrame got) {b : Byte} (hl : tooLong (got ++ [b]) = false)
    (hf : frameOf (got ++ [b]) = none) : feedByte s b = setRx (.inFrame (got ++ [b])) s := by
  simp [feedByte, h, hl, hf]

theorem feedByte_whole {s : State} {got : Text} (h : s.link.rx = .inFrame got) {b : Byte} {r : LinkRecord}
    (hl : tooLong (got ++ [b]) = false) (hf : frameOf (got ++ [b]) = some r) : feedByte s b = receive r (setRx .hunting s) := by
  simp [feedByte, h, hl, hf]

/-- The payload and check of a frame, byte by byte. -/
theorem feed_payload (kind len : Byte) (rest : Text) : ∀ (got : Text) (s : State), s.link.rx = .inFrame (kind :: len :: got) →
    got.length + rest.length = len.toNat + 1 → rest ≠ [] → feed rest s =
      receive (frameRecord kind ((got ++ rest).take len.toNat) (((got ++ rest).drop len.toNat).headD 0#8)) (setRx .hunting s) := by
  induction rest with
  | nil => exact fun _ _ _ _ h => absurd rfl h
  | cons b bs ih =>
    intro got s hrx hlen _
    rw [List.length_cons] at hlen
    have hlong : tooLong ((kind :: len :: got) ++ [b]) = false := by
      cases got <;> rfl
    have hof : frameOf ((kind :: len :: got) ++ [b]) = if (got ++ [b]).length = len.toNat + 1 then
        some (frameRecord kind ((got ++ [b]).take len.toNat) (((got ++ [b]).drop len.toNat).headD 0#8)) else none := rfl
    rw [List.length_append, List.length_singleton] at hof
    by_cases hend : bs = []
    · subst hend
      rw [if_pos (by simpa using hlen)] at hof
      rw [feed_cons, feedByte_whole hrx hlong hof]
      rfl
    · have hne : ¬ got.length + 1 = len.toNat + 1 := by
        have := List.length_pos_of_ne_nil hend
        omega
      rw [if_neg hne] at hof
      rw [feed_cons, feedByte_part hrx hlong hof]
      have hstep := ih (got ++ [b]) (setRx (.inFrame (kind :: len :: (got ++ [b]))) s) rfl (by simp; omega) hend
      simpa using hstep

/-- The bytes of a frame that arrive at a hunting receiver are the frame's record (R187). -/
theorem feed_frame {s : State} (h : s.link.rx = .hunting) (kind check : Byte) {payload : Text} (hlen : payload.length ≤ 250) :
    feed ([0xA5#8, kind, BitVec.ofNat 8 payload.length] ++ payload ++ [check]) s =
      receive (frameRecord kind payload check) s := by
  have hnat : (BitVec.ofNat 8 payload.length).toNat = payload.length := by
    rw [BitVec.toNat_ofNat]
    omega
  have hhead : feed [0xA5#8, kind, BitVec.ofNat 8 payload.length] s =
      setRx (.inFrame [kind, BitVec.ofNat 8 payload.length]) s := by
    have hlong : tooLong ([kind] ++ [BitVec.ofNat 8 payload.length]) = false := by
      simp only [tooLong, List.cons_append, List.nil_append, decide_eq_false_iff_not, hnat, Config.framePayload]
      omega
    rw [feed_cons, feedByte_hunting h, if_pos rfl, feed_cons, feedByte_part (got := []) rfl rfl rfl, feed_cons,
      feedByte_part (got := [kind]) rfl hlong rfl]
    rfl
  rw [List.append_assoc, feed_append, hhead,
    feed_payload kind _ (payload ++ [check]) [] _ rfl (by simp [hnat]) (by simp), hnat, setRx_setRx, setRx_self h]
  simp

theorem splitWords_cons_space (bs : Text) : splitWords (0x20#8 :: bs) = [] :: splitWords bs := by
  rw [splitWords, if_pos rfl]

theorem splitWords_append {w : Text} (hw : wordOk w = true) (rest : Text) (v : Text) (vs : List Text)
    (h : splitWords rest = v :: vs) : splitWords (w ++ rest) = (w ++ v) :: vs := by
  induction w with
  | nil => exact h
  | cons b w ih =>
    simp only [wordOk, List.all_cons, Bool.and_eq_true, bne_iff_ne] at hw
    rw [List.cons_append, splitWords, if_neg hw.1, ih hw.2]
    rfl

/-- The words of a payload are read back from it. -/
theorem splitWords_fields {w : Text} (hw : wordOk w = true) {ps : List Text} (hps : ∀ p ∈ ps, wordOk p = true) :
    splitWords (w ++ fields ps) = w :: ps := by
  induction ps generalizing w with
  | nil => simpa [fields] using splitWords_append hw [] [] [] rfl
  | cons p ps ih =>
    have hfields : fields (p :: ps) = 0x20#8 :: (p ++ fields ps) := rfl
    have htail := ih (hps p (List.mem_cons_self)) fun q hq => hps q (List.mem_cons_of_mem _ hq)
    rw [hfields]
    simpa using splitWords_append hw _ [] (p :: ps) (by rw [splitWords_cons_space, htail])

theorem keyword_wordOk (k : Keyword) : wordOk k.text = true := by cases k <;> decide

theorem ofText_text (k : Keyword) : Keyword.ofText k.text = some k := by cases k <;> decide

theorem parseCommand_text (k : Keyword) {ps : List Text} (hps : ∀ p ∈ ps, wordOk p = true) :
    parseCommand (k.text ++ fields ps) = .command k ps := by
  unfold parseCommand
  rw [splitWords_fields (keyword_wordOk k) hps]
  simp only [commandRecord, ofText_text]

/-- A frame's check brings the sum of its bytes to 0 (11.1). -/
theorem frameSum_checkOf (kind : Byte) (payload : Text) : frameSum kind payload (checkOf kind payload) = 0#8 := by
  unfold frameSum checkOf frameSum
  simp

/-- Settles O8: a frame's bytes are gathered up to the length it gives, and its words are read back. -/
theorem framesAreReadBackFromTheirBytes : Obligations.FramesAreReadBackFromTheirBytes := by
  unfold Obligations.FramesAreReadBackFromTheirBytes
  refine ⟨fun k params s hps hlen hrx => ?_, fun payload s hlen hrx => ?_⟩
  · rw [frameBytes, feed_frame hrx _ _ hlen, frameRecord, frameSum_checkOf, if_neg (by decide), if_pos rfl,
      parseCommand_text k hps]
  · rw [frameBytes, feed_frame hrx _ _ hlen, frameRecord, frameSum_checkOf, if_neg (by decide), if_neg (by decide), if_pos rfl]

/-! ### Bytes that complete no frame (R187) -/

/-- The receiver stands where `completesNoFrame` has it: hunting, or inside a frame of which `got` bytes have come. -/
def Receiver.At : Receiver → Option (Nat × Nat) → Prop
  | .hunting, none => True
  | .inFrame got, some (k, need) =>
    got.length = k ∧ (2 ≤ k → k < need ∧ ∃ kind len rest, got = kind :: len :: rest ∧ need = len.toNat + 3)
  | _, _ => False

/-- Bytes that complete no frame change the receiver alone, and leave no frame behind. -/
theorem feed_of_completesNoFrame (bs : Text) : ∀ (at_ : Option (Nat × Nat)) (s : State), s.link.rx.At at_ →
    completesNoFrame at_ bs = true → ∃ x, x.holdsFrame = false ∧ feed bs s = setRx x s := by
  induction bs with
  | nil =>
    intro at_ s hat _
    refine ⟨s.link.rx, ?_, (setRx_self rfl).symm⟩
    cases hx : s.link.rx with
    | waiting r => simp [hx, Receiver.At] at hat
    | _ => rfl
  | cons b bs ih =>
    have next (at_ : Option (Nat × Nat)) (s : State) (x : Receiver) (hb : feedByte s b = setRx x s) (hat : x.At at_)
        (hc : completesNoFrame at_ bs = true) : ∃ x, x.holdsFrame = false ∧ feed (b :: bs) s = setRx x s := by
      obtain ⟨y, hy, e⟩ := ih at_ (setRx x s) hat hc
      exact ⟨y, hy, by rw [feed_cons, hb, e, setRx_setRx]⟩
    intro at_ s hat hc
    cases hx : s.link.rx with
    | waiting r => simp [hx, Receiver.At] at hat
    | hunting =>
      rw [hx] at hat
      cases at_ with
      | some _ => exact hat.elim
      | none =>
        by_cases hb : b = 0xA5#8
        · rw [completesNoFrame, if_pos hb] at hc
          exact next (some (0, 0)) s (.inFrame []) (by rw [feedByte_hunting hx, if_pos hb]) ⟨rfl, by simp⟩ hc
        · rw [completesNoFrame, if_neg hb] at hc
          exact next none s .hunting (by rw [feedByte_hunting hx, if_neg hb, setRx_self hx]) trivial hc
    | inFrame got =>
      rw [hx] at hat
      cases at_ with
      | none => exact hat.elim
      | some kn =>
        obtain ⟨k, need⟩ := kn
        obtain ⟨hk, hneed⟩ := hat
        match k, got, hk with
        | 0, [], _ =>
          exact next (some (1, 0)) s (.inFrame [b]) (feedByte_part hx rfl rfl) ⟨rfl, by simp⟩ hc
        | 1, [kind], _ =>
          rw [completesNoFrame] at hc
          by_cases hlong : b.toNat > Config.framePayload
          · rw [if_pos hlong] at hc
            exact next none s .hunting (feedByte_long hx (decide_eq_true hlong)) trivial hc
          · rw [if_neg hlong] at hc
            exact next (some (2, b.toNat + 3)) s (.inFrame [kind, b]) (feedByte_part hx (decide_eq_false hlong) rfl)
              ⟨rfl, fun _ => ⟨by omega, kind, b, [], rfl, rfl⟩⟩ hc
        | k + 2, got, hk =>
          obtain ⟨hlt, kind, len, rest, rfl, rfl⟩ := hneed (by omega)
          simp only [List.length_cons, Nat.add_right_cancel_iff] at hk
          have hstep : completesNoFrame (some (k + 2, len.toNat + 3)) (b :: bs) =
              if k + 2 + 1 = len.toNat + 3 then false else completesNoFrame (some (k + 2 + 1, len.toNat + 3)) bs := by
            rw [completesNoFrame] <;> omega
          rw [hstep] at hc
          split at hc
          · cases hc
          · rename_i hne
            have hlong : tooLong ((kind :: len :: rest) ++ [b]) = false := by
              cases rest <;> rfl
            have hof : frameOf ((kind :: len :: rest) ++ [b]) = none := by
              show (if (rest ++ [b]).length = len.toNat + 1 then _ else none) = _
              rw [if_neg]
              simp
              omega
            exact next (some (k + 2 + 1, len.toNat + 3)) s _ (feedByte_part hx hlong hof)
              ⟨by simp [hk], fun _ => ⟨by omega, kind, len, rest ++ [b], rfl, rfl⟩⟩ hc

theorem gapExpires_setRx {x : Receiver} (hx : x.holdsFrame = false) {s : State} (hs : s.link.rx = .hunting) :
    gapExpires (setRx x s) = s := by
  unfold gapExpires
  cases x with
  | waiting r => cases hx
  | hunting => exact setRx_self hs
  | inFrame got => exact setRx_self hs

theorem feed_waiting {s : State} {r : LinkRecord} (h : s.link.rx = .waiting r) (bs : Text) : feed bs s = s := by
  induction bs with
  | nil => rfl
  | cons b bs ih =>
    have hb : feedByte s b = s := by
      unfold feedByte
      rw [h]
    rw [feed_cons, hb, ih]

/-- An unfinished frame is discarded by the gap timer (R187). -/
theorem gapExpires_feed {received : Text} {s : State} (hs : s.link.rx.midFrame = false)
    (hc : completesNoFrame none received = true) : gapExpires (feed received s) = s := by
  cases hx : s.link.rx with
  | inFrame got => simp [hx, Receiver.midFrame] at hs
  | waiting r =>
    rw [feed_waiting hx]
    unfold gapExpires
    rw [hx]
  | hunting =>
    obtain ⟨x, hhold, e⟩ := feed_of_completesNoFrame received none s (by rw [hx]; trivial) hc
    rw [e, gapExpires_setRx hhold hx]

/-- A frame whose length byte is above 250 is discarded at that byte (R187). -/
theorem feed_tooLong {kind length : Byte} {s : State} (hs : s.link.rx.midFrame = false) (hl : 250 < length.toNat) :
    feed [0xA5#8, kind, length] s = s := by
  cases hx : s.link.rx with
  | inFrame got => simp [hx, Receiver.midFrame] at hs
  | waiting r => exact feed_waiting hx _
  | hunting =>
    rw [feed_cons, feedByte_hunting hx, if_pos rfl, feed_cons, feedByte_part (got := []) rfl rfl rfl, feed_cons,
      feedByte_long (got := [kind]) rfl (decide_eq_true hl)]
    exact setRx_self hx

/-! ### The receiver through a step (R187) -/

theorem takeRecord_rx (r : LinkRecord) (s : State) : (takeRecord r s).link.rx = s.link.rx :=
  (record_recorded (recordBody_effect r s)).rx

theorem receive_midFrame (r : LinkRecord) {s : State} (h : s.link.rx.midFrame = false) :
    (receive r s).link.rx.midFrame = false := by
  rcases receive_cases r s with ⟨_, e⟩ | ⟨_, _, e⟩ | ⟨_, e⟩ | ⟨_, _, _, e⟩ <;> rw [e]
  · rfl
  · exact h
  · rw [takeRecord_rx]
    rfl
  · rfl

theorem finish_rx (s u : State) : (finish s u).link.rx = u.link.rx := (finish_followsUp s u).link.rx

theorem printerBytes_rx (bs : Text) (s : State) : (printerBytes bs s).link.rx = s.link.rx := by
  induction bs generalizing s with
  | nil => rfl
  | cons b bs ih =>
    rw [printerBytes_cons, ih]
    unfold byteRead
    split
    · rw [finish_rx, (printerByte_reported s b).rx]
    · exact (printerByte_reported s b).rx

theorem takeWaiting_midFrame {s : State} (h : s.link.rx.midFrame = false) : (takeWaiting s).link.rx.midFrame = false := by
  unfold takeWaiting
  split
  · split
    · split
      · rfl
      · rw [takeRecord_rx]
        rfl
    · exact h
  · exact h

theorem frameEnds_midFrame {s : State} (h : s.link.rx.midFrame = false) : (frameEnds s).link.rx.midFrame = false := by
  unfold frameEnds
  split
  · exact h
  · split
    · rfl
    · rw [finish_rx]
      refine takeWaiting_midFrame ?_
      rw [(pumpTx_followsUp _).link.rx]
      exact h

/-- No well-formed command leaves the receiver inside a frame (R187). -/
theorem exec_midFrame {c : Instr} {s t : State} (hw : c.wf = true) (h : s.link.rx.midFrame = false) (e : exec c s = .next t) :
    t.link.rx.midFrame = false := by
  rcases exec_event_cases c s with ⟨r, _, hc⟩ | ⟨u, hu, hc⟩ | ⟨bs, rfl, hc⟩ | ⟨k, l, rfl, hc⟩ | ⟨bs, hc⟩ | ⟨_, hc⟩ |
    ⟨b, a, _, hc⟩ <;> rw [hc] at e <;> obtain rfl := (Host.Outcome.next.inj e).symm
  · rw [finish_rx]
    exact receive_midFrame r h
  · rw [finish_rx, (effect_reported hu).rx]
    exact h
  · rw [gapExpires_feed h hw, finish_rx]
    exact h
  · rw [feed_tooLong h (of_decide_eq_true hw), finish_rx]
    exact h
  · rw [printerBytes_rx]
    exact h
  · exact frameEnds_midFrame h
  · rfl

/-! ### Malformed records (R187, R189) -/

theorem badFrame_record {kind check : Byte} {payload : Text} (h : (Instr.badFrame kind payload check).wf = true) :
    frameRecord kind payload check = .bad := by
  simp only [Instr.wf, Bool.and_eq_true, Bool.or_eq_true, bne_iff_ne, ne_eq] at h
  unfold frameRecord
  rcases h.2 with hsum | ⟨hc, ht⟩
  · rw [if_pos (by simpa using hsum)]
  · rw [if_neg hc, if_neg ht, ite_self]

/-- Settles O9: what `frameRecord` and `commandRecord` make of malformed bytes, and what bytes short of a frame leave. -/
theorem malformedFramesLeaveNoTrace : Obligations.MalformedFramesLeaveNoTrace := by
  unfold Obligations.MalformedFramesLeaveNoTrace
  refine ⟨⟨fun kind check payload s hr hw => ?_, fun word params s hr hw => ?_, fun c k params s hr hc hd => ?_⟩,
    fun received s h hw => ?_, fun kind length s h hl => ?_, fun c s t hw h e => exec_midFrame hw h e⟩
  · rw [exec_of_recordOf rfl, badFrame_record hw, ← no_badFrame]
    exact recordEvent_of_ready hr rfl hr.1
  · have hk : Keyword.ofText word = none := by
      simp only [Instr.wf, Bool.and_eq_true, Bool.not_eq_true'] at hw
      exact Laws.ofText_eq_none hw.1.2
    have hrec : commandRecord word params = .unknown word params := by simp only [commandRecord, hk]
    rw [exec_of_recordOf rfl, hrec, ← no_unknown, ← no_badSyntax]
    by_cases hclean : (word :: params).all cleanWord = true
    · rw [if_pos hclean]
      exact recordEvent_of_ready hr (by rw [recordBody, cleanWords, if_pos hclean]; rfl) hr.1
    · rw [if_neg hclean]
      exact recordEvent_of_ready hr (by rw [recordBody, cleanWords, if_neg hclean]; rfl) hr.1
  · rw [exec_of_recordOf hc]
    obtain ⟨w, hw, hd⟩ := hd
    refine commandEvent_badSyntax hr fun hall => ?_
    rw [List.all_eq_true] at hall
    simp [hall w hw] at hd
  · show Host.Outcome.next (finish s (gapExpires (feed received s))) = _
    rw [gapExpires_feed h hw]
  · show Host.Outcome.next (finish s (feed [0xA5#8, kind, length] s)) = _
    rw [feed_tooLong h hl]

/-! ### Reply room, frame ends, the reset -/

/-- Settles O10: the four ways of a complete frame. -/
theorem framesWaitForReplyRoom : Obligations.FramesWaitForReplyRoom := by
  unfold Obligations.FramesWaitForReplyRoom
  intro c r s hc
  rw [exec_of_recordOf hc]
  unfold recordEvent
  refine ⟨fun h => by rw [receive_of_ready h], fun h hrx hfull => ?_, fun h hrx => ?_, fun h => ?_⟩ <;>
    rcases receive_cases r s with ⟨h1, e⟩ | ⟨_, h1, e⟩ | ⟨h1, e⟩ | ⟨_, h1, _, e⟩
  · simp [h] at h1
  · simp [hrx] at h1
  · exact absurd h1.2.2 (Nat.not_lt.mpr hfull)
  · rw [e]
    rfl
  · simp [h] at h1
  · rw [e]
  · simp [hrx, LinkReady] at h1
  · simp [hrx] at h1
  · rw [e]
  all_goals simp_all [LinkReady]

theorem takeWaiting_of_not_waiting {s : State} (h : ∀ r, s.link.rx ≠ .waiting r) : takeWaiting s = s := by
  unfold takeWaiting
  split
  · exact absurd ‹_› (h _)
  · rfl

theorem takeWaiting_of_room {s : State} {r : LinkRecord} (hrx : s.link.rx = .waiting r)
    (hroom : s.link.replies.length < Config.replyQueue) (ht : s.link.resetTaken = false) :
    takeWaiting s = takeRecord r (heard s) := by
  unfold takeWaiting
  simp only [hrx, if_pos hroom, ht]
  rfl

theorem takeWaiting_of_full {s : State} {r : LinkRecord} (hrx : s.link.rx = .waiting r)
    (hfull : Config.replyQueue ≤ s.link.replies.length) : takeWaiting s = s := by
  unfold takeWaiting
  simp only [hrx, if_neg (Nat.not_lt.mpr hfull)]

theorem exec_frameEnd (s : State) : exec .transmitFrameEnd s = .next (frameEnds s) := rfl

/-- The end of a frame that does not answer a RESET (R188). -/
theorem frameEnds_of_other {f : TxFrame} {s : State} (h : s.link.tx = some f) (hr : f.ofReset = false) :
    frameEnds s = finish s (takeWaiting (s.withLink ({ s.link with tx := none } : Link).pump)) := by
  unfold frameEnds
  simp only [h, hr]
  rfl

theorem frameEnds_of_free {s : State} (h : s.link.tx = none) : frameEnds s = s := by
  unfold frameEnds
  rw [h]

/-- Settles O7: the frame waiting is taken behind the transmitter's choice, and the choice by what waits. -/
theorem frameEndFreesTheTransmitter : Obligations.FrameEndFreesTheTransmitter := by
  unfold Obligations.FrameEndFreesTheTransmitter
  refine ⟨⟨fun f s h hr => ?_, fun s h => by rw [exec_frameEnd, frameEnds_of_free h]⟩, fun l h => ?_⟩
  · intro v
    have hexec : exec .transmitFrameEnd s = .next (finish s (takeWaiting v)) := by
      rw [exec_frameEnd, frameEnds_of_other h hr]
    have hv := pump_followsUp { s.link with tx := none }
    have hrx : v.link.rx = s.link.rx := hv.rx
    have ht : v.link.resetTaken = s.link.resetTaken := hv.resetTaken
    rw [hexec]
    exact ⟨fun hw => by rw [takeWaiting_of_not_waiting (by rw [hrx]; exact hw)],
      fun r hw hroom hs => by rw [takeWaiting_of_room (hrx.trans hw) hroom (ht.trans hs)],
      fun r hw hfull => by rw [takeWaiting_of_full (hrx.trans hw) hfull]⟩
  · unfold Link.pump
    rw [h]
    refine ⟨fun r rs hr hw => ?_, fun text ht hw => ?_, fun hf hp hw => ?_, fun hr hf hp => ?_⟩
    · have hbegin : (l.noticeWaits && l.lastSent == .reply) = false := by
        rcases hw with hw | hw <;> simp [hw]
      simp [hr, hbegin, Link.beginReply]
    · have hwaits : l.noticeWaits = true := by simp [Link.noticeWaits, ht]
      rcases hw with hw | hw <;> simp [hw, hwaits, Link.beginNotice, ht]
    · have hwaits : l.noticeWaits = true := by simp [Link.noticeWaits, hp]
      rcases hw with hw | hw <;> simp [hw, hwaits, Link.beginNotice, hf, hp]
    · simp [hr, hf, hp, Link.beginNotice]

/-- Settles O6: the OK that is marked as the reset's, and the end of its frame. -/
theorem resetActsWhenItsReplyIsSent : Obligations.ResetActsWhenItsReplyIsSent := by
  unfold Obligations.ResetActsWhenItsReplyIsSent
  refine ⟨fun s h => ?_, fun w ws s h => ?_, fun reply s h => ?_⟩
  · have hmark : s.link.resetTaken = false := h.1
    rw [exec_of_recordOf rfl, recordEvent, receive_of_ready h]
    simp [takeRecord, addReply, recordBody, cleanWords, commandBody, resetBody, hmark, ok]
  · exact commandEvent_badSyntax h fun _ => rfl
  · rw [exec_frameEnd, frameEnds, h]
    rfl

end Sys2Proof.Machine
end

section
/-! PROOF. The queue of waiting commands, and the referenced mounts and lens positions (R104). -/

namespace Sys2Proof.Machine

-- One declaration at a time: it keeps the threads, and with them the memory, of the compile small.
set_option Elab.async false

/-! ### The queue of waiting commands -/

theorem effect_pending {c : Instr} {s u : State} (h : EventEffect s c u) : u.pending = s.pending := by
  have hcounts := counts_keep (P := fun t => t.pending = s.pending) (s := s) (fun _ _ => id) (fun _ _ _ _ => id)
    (fun t ht => by simpa using ht) rfl
  cases h with
  | portFree => rfl
  | countArrives => exact hcounts.1
  | remainingCounts => exact hcounts.2
  | photocell => exact (photocell_works (b := true) s).pending
  | windowEnds => exact (windowEnds_works s).pending
  | charged => exact (charged_works (b := true) s).pending
  | spinUpExpires => unfold spinUpExpires; split <;> simp
  | monitorExpires => unfold monitorExpires; split <;> simp
  | restExpires => unfold restExpires; split <;> simp
  | _ => simp

theorem record_pending {s u : State} (h : RecordEffect s u) : u.pending = s.pending := by
  cases h with
  | same => rfl
  | cassette n => simp [loadCassette]
  | abort form => exact (startAbort_frame form s).1
  | clearFault b => exact (clearFault_frame b s).1
  | tune ps => exact (tuneAll_frame ps s).1
  | survey => unfold takeSurvey; split <;> simp
  | stop form => exact (takeStop_works (b := true) form s).pending
  | resume => exact (resume_works (b := true) s).pending
  | _ => simp

theorem finish_pending (s u : State) : (finish s u).pending = u.pending := (finish_followsUp s u).pending

theorem takeRecord_pending (r : LinkRecord) (s : State) : (takeRecord r s).pending = s.pending :=
  show (recordBody r s).1.pending = _ from record_pending (recordBody_effect r s)

theorem receive_pending (r : LinkRecord) (s : State) : (receive r s).pending = s.pending := by
  rcases receive_cases r s with ⟨_, e⟩ | ⟨_, _, e⟩ | ⟨_, e⟩ | ⟨_, _, _, e⟩ <;> rw [e]
  · rfl
  · exact takeRecord_pending r _
  · rfl

theorem feed_pending (bs : Text) (s : State) : (feed bs s).pending = s.pending := by
  have hbyte (s : State) (b : Byte) : (feedByte s b).pending = s.pending := by
    unfold feedByte
    (repeat' split) <;> first | rfl | exact receive_pending _ _ | skip
    dsimp only
    (repeat' split) <;> first | rfl | exact receive_pending _ _
  unfold feed
  induction bs generalizing s with
  | nil => rfl
  | cons b bs ih => exact (ih _).trans (hbyte s b)

theorem printerBytes_pending (bs : Text) (s : State) : (printerBytes bs s).pending = s.pending := by
  induction bs generalizing s with
  | nil => rfl
  | cons b bs ih =>
    rw [printerBytes_cons, ih]
    unfold byteRead
    split <;> simp [finish_pending]

theorem frameEnds_pending (s : State) : (frameEnds s).pending = s.pending := by
  have hwaiting (s : State) : (takeWaiting s).pending = s.pending := by
    unfold takeWaiting
    (repeat' split) <;> first | rfl | exact takeRecord_pending _ _
  unfold frameEnds
  split
  · rfl
  · split
    · rfl
    · rw [finish_pending, hwaiting]
      exact (pumpTx_followsUp _).pending

/-- Settles O2: a command is one of the seven kinds of event, and none of them touches the queue. -/
theorem everyCommandCompletesAndKeepsTheQueue : Obligations.EveryCommandCompletesAndKeepsTheQueue := by
  unfold Obligations.EveryCommandCompletesAndKeepsTheQueue
  intro c s
  rcases exec_event_cases c s with ⟨r, _, hc⟩ | ⟨u, hu, hc⟩ | ⟨bs, _, hc⟩ | ⟨k, l, _, hc⟩ | ⟨bs, hc⟩ | ⟨_, hc⟩ |
    ⟨b, a, _, hc⟩ <;> refine ⟨_, hc, ?_⟩
  · rw [finish_pending, receive_pending]
  · rw [finish_pending, effect_pending hu]
  · rw [finish_pending]
    unfold gapExpires
    split <;> exact feed_pending bs s
  · rw [finish_pending, feed_pending]
  · exact printerBytes_pending bs s
  · exact frameEnds_pending s
  · rfl

/-! ### Definitions of mounts and lens positions (R103, R109) -/

/-- The lens positions stand, and the mounts but for their observed codes. -/
def Optics.SameDefs (o o' : Optics) : Prop :=
  (∀ m, o'.mount m = { o.mount m with observed := (o'.mount m).observed }) ∧ ∀ p, o'.lensSize p = o.lensSize p

theorem Optics.SameDefs.refl (o : Optics) : o.SameDefs o := ⟨fun _ => rfl, fun _ => rfl⟩

theorem Optics.SameDefs.trans {o o' o'' : Optics} (h : o.SameDefs o') (h' : o'.SameDefs o'') : o.SameDefs o'' :=
  ⟨fun m => by rw [h'.1 m, h.1 m], fun p => (h'.2 p).trans (h.2 p)⟩

theorem sameDefs_of_eq {o o' : Optics} (hm : o'.mounts = o.mounts) (hl : o'.lenses = o.lenses) : o.SameDefs o' := by
  unfold Optics.SameDefs Optics.mount Optics.lensSize
  rw [hm, hl]
  exact ⟨fun _ => rfl, fun _ => rfl⟩

theorem Works.sameDefs {b : Bool} {s t : State} (h : Works b s t) : s.opc.SameDefs t.opc := by
  rw [h.opc]
  exact sameDefs_of_eq rfl rfl

theorem surveyCut_sameDefs (o : Optics) : o.SameDefs (surveyCut o) := by
  cases h : o.survey with
  | none =>
    rw [surveyCut_none o h]
    exact .refl o
  | some v =>
    refine ⟨fun m => ?_, fun p => ?_⟩
    · rw [surveyCut_mounts o v h]
      split <;> rfl
    · rw [surveyCut_eq]
      rfl

theorem stopDrum_sameDefs (s : State) : s.opc.SameDefs (stopDrum s).opc := by
  have h := surveyCut_sameDefs (cancelCountdown .held s).opc
  rw [(cancelCountdown_frame .held s).2.2.2.2.2.2.2.2.1] at h
  unfold stopDrum
  simp only [cancelCountdown_frame, State.withOpc_opc]
  exact h.trans (sameDefs_of_eq rfl rfl)

theorem requestMech_sameDefs (k : Mechanism) (by_ : Requester) (t : Nat) (s : State) :
    s.opc.SameDefs (requestMech k by_ t s).opc := (requestMech_works (b := true) k by_ t s).sameDefs

theorem surveyShift_sameDefs (p : Fin 4) (s : State) : s.opc.SameDefs (surveyShift p s).opc :=
  (sameDefs_of_eq rfl rfl).trans (requestMech_sameDefs .strip .survey p.val _)

theorem beginSurvey_sameDefs (s : State) : s.opc.SameDefs (beginSurvey s).opc := by
  refine .trans (sameDefs_of_eq ?_ ?_) (surveyShift_sameDefs 0 _) <;> simp

theorem setMount_mount (o : Optics) (m n : Fin 8) (x : Mount) :
    (o.setMount m x).mount n = if n = m then x else o.mount n := by
  unfold Optics.setMount Optics.mount
  simp only [Vector.get_eq_getElem, Vector.getElem_set, Fin.ext_iff, eq_comm]

theorem setMount_sameDefs (o : Optics) (m : Fin 8) (c : Option Nat) :
    o.SameDefs (o.setMount m { o.mount m with observed := c }) := by
  refine ⟨fun n => ?_, fun _ => rfl⟩
  rw [setMount_mount]
  split
  · rename_i h
    rw [h]
  · rfl

theorem surveyIndex_sameDefs (upper lower : Byte) (s : State) : s.opc.SameDefs (surveyIndex upper lower s).opc := by
  have hcomplete (t : State) : t.opc.SameDefs (surveyComplete t).opc := by
    dsimp only [surveyComplete]
    (repeat' split) <;> exact sameDefs_of_eq rfl rfl
  unfold surveyIndex
  split
  · rename_i p _
    have h : s.opc.SameDefs (surveyRead p upper lower s.opc) := (setMount_sameDefs _ _ _).trans (setMount_sameDefs _ _ _)
    dsimp only
    split
    · exact h.trans (surveyShift_sameDefs _ _)
    · exact h.trans (hcomplete _)
  · exact .refl _

theorem indexArrives_sameDefs (interval : Nat) (upper lower : Byte) (s : State) :
    s.opc.SameDefs (indexArrives interval upper lower s).opc := by
  have hqualified (t : State) : t.opc.SameDefs (qualified t).opc := by
    dsimp only [qualified]
    split
    · exact .trans (sameDefs_of_eq rfl rfl) (beginSurvey_sameDefs _)
    · exact sameDefs_of_eq rfl rfl
  have hspin (t : State) : t.opc.SameDefs (spinIndex interval t).opc := by
    unfold spinIndex
    split
    · exact sameDefs_of_eq rfl rfl
    · dsimp only
      generalize (if 98 ≤ interval ∧ interval ≤ 102 then t.opc.intervals + 1 else 0) = n
      split
      · exact hqualified t
      · exact sameDefs_of_eq rfl rfl
  unfold indexArrives
  dsimp only
  split
  · exact .refl _
  · exact hspin (s.withPins _)
  · exact surveyIndex_sameDefs upper lower (s.withPins _)
  · exact .refl _

theorem doorTake_sameDefs (s : State) : s.opc.SameDefs (doorTake s).opc := by
  have hopened (t : State) : t.opc.SameDefs (doorOpened t).opc := by
    refine (stopDrum_sameDefs t).trans ⟨fun m => ?_, fun _ => rfl⟩
    simp [doorOpened, Optics.mount]
  unfold doorTake
  split
  · exact .refl _
  · dsimp only
    split
    · exact sameDefs_of_eq rfl rfl
    · split
      · exact sameDefs_of_eq rfl rfl
      · exact .trans (sameDefs_of_eq rfl rfl) (hopened _)

theorem setMech_sameDefs (o : Optics) (k : Mechanism) (m : MechState) : o.SameDefs (o.setMech k m) := by
  cases k <;> exact sameDefs_of_eq rfl rfl

theorem mechTimeout_sameDefs (k : Mechanism) (s : State) : s.opc.SameDefs (mechTimeout k s).opc := by
  have hfailed (f : Flight) (t : State) : t.opc.SameDefs (mechFailed k f t).opc := by
    dsimp only [mechFailed]
    split
    · exact (lineFault_works _ _ t).sameDefs
    · split
      · exact sameDefs_of_eq (by simp) (by simp)
      · exact sameDefs_of_eq (by simp) (by simp)
  unfold mechTimeout
  split
  · exact .refl _
  · exact (setMech_sameDefs s.opc k _).trans ((hfailed _ _).trans (setMech_sameDefs _ k _))

theorem drumStall_sameDefs (s : State) : s.opc.SameDefs (drumStall s).opc := by
  refine (stopDrum_sameDefs s).trans (sameDefs_of_eq ?_ ?_) <;> simp [drumStall]

theorem restDrum_sameDefs (s : State) : s.opc.SameDefs (restDrum s).opc := by
  refine (stopDrum_sameDefs s).trans (sameDefs_of_eq ?_ ?_) <;> simp [restDrum]

/-- No event but a record or a reset changes a definition. -/
theorem effect_sameDefs {c : Instr} {s u : State} (h : EventEffect s c u) : s.opc.SameDefs u.opc := by
  have hcounts := counts_keep (P := fun t => s.opc.SameDefs t.opc) (s := s) (fun _ _ => id) (fun _ _ _ _ => id)
    (fun t ht => by
      rcases slotArrives_works t with hw | ⟨a, _, _, e⟩
      · exact ht.trans hw.sameDefs
      · rw [e]
        exact ht) (.refl _)
  cases h with
  | countArrives => exact hcounts.1
  | remainingCounts => exact hcounts.2
  | photocell => exact (photocell_works (b := true) s).sameDefs
  | windowEnds => exact (windowEnds_works s).sameDefs
  | charged => exact (charged_works (b := true) s).sameDefs
  | mechComplete k => exact (mechComplete_works (b := true) k s).sameDefs
  | mechTimeout k => exact mechTimeout_sameDefs k s
  | escComplete => exact (escComplete_works (b := true) s).sameDefs
  | escTimeout => exact (escTimeout_works s).sameDefs
  | doorLevel level => unfold doorLevel; split <;> exact sameDefs_of_eq rfl rfl
  | doorTake => exact doorTake_sameDefs s
  | indexArrives interval upper lower => exact indexArrives_sameDefs interval upper lower s
  | spinUpExpires =>
    unfold spinUpExpires
    split
    · exact drumStall_sameDefs s
    · exact .refl _
  | monitorExpires =>
    unfold monitorExpires
    split
    · exact drumStall_sameDefs s
    · exact .refl _
  | restExpires =>
    unfold restExpires
    split
    · exact restDrum_sameDefs s
    · exact .refl _
  | stepperDone => exact (stepperDone_works (b := true) s).sameDefs
  | moveJams => exact (moveJams_works s).sameDefs
  | cutterFails => exact (cutterFails_works s).sameDefs
  | portFree => exact .refl _
  | cassetteTake =>
    have hremoval (t : State) : t.opc.SameDefs (exposureRemoval t).opc := (exposureRemoval_works (b := true) t).sameDefs
    unfold cassetteTake
    split
    · exact .refl _
    · dsimp only
      split
      · exact hremoval (raise .cassette _)
      · exact .refl _
  | _ => exact sameDefs_of_eq (by simp) (by simp)

theorem finish_sameDefs (s u : State) : u.opc.SameDefs (finish s u).opc := by
  obtain ⟨hm, hl, _⟩ := (finish_followsUp s u).opc
  exact sameDefs_of_eq hm hl

/-! ### Records (R104 to R109) -/

/-- The definitions that boxes reference stand. -/
def ReferencedStand (s t : State) : Prop :=
  (∀ m, mountReferenced m s = true → t.opc.mount m = { s.opc.mount m with observed := (t.opc.mount m).observed }) ∧
    ∀ p, lensReferenced p s = true → t.opc.lensSize p = s.opc.lensSize p

theorem Optics.SameDefs.stand {s t : State} (h : s.opc.SameDefs t.opc) : ReferencedStand s t :=
  ⟨fun m _ => h.1 m, fun p _ => h.2 p⟩

theorem ReferencedStand.after {s t u : State} (h : ReferencedStand s t) (h' : t.opc.SameDefs u.opc) : ReferencedStand s u :=
  ⟨fun m hm => by rw [h'.1 m, h.1 m hm], fun p hp => (h'.2 p).trans (h.2 p hp)⟩

theorem ReferencedStand.of_withLink {s t : State} {l : Link} (h : ReferencedStand (s.withLink l) t) : ReferencedStand s t := h

theorem setMount_stand {s : State} {m : Fin 8} (x : Mount) (h : mountReferenced m s = false) :
    ReferencedStand s (s.withOpc (s.opc.setMount m x)) := by
  refine ⟨fun n hn => ?_, fun _ _ => rfl⟩
  have hne : n ≠ m := fun e => by simp [e, h] at hn
  rw [State.withOpc_opc, setMount_mount, if_neg hne]

theorem setLens_size (o : Optics) (p q : Fin 8) (size : Nat) :
    (o.setLens p size).lensSize q = if q = p then size else o.lensSize q := by
  unfold Optics.setLens Optics.lensSize
  simp only [Vector.get_eq_getElem, Vector.getElem_set, Fin.ext_iff, eq_comm]

theorem setLens_stand {s : State} {p : Fin 8} (size : Nat) (h : lensReferenced p s = false) :
    ReferencedStand s (s.withOpc (s.opc.setLens p size)) := by
  refine ⟨fun _ _ => rfl, fun q hq => ?_⟩
  have hne : q ≠ p := fun e => by simp [e, h] at hq
  rw [State.withOpc_opc, setLens_size, if_neg hne]

theorem tune_sameDefs (s : State) (p : TuneKey × TuneValue) : s.opc.SameDefs (tune s p).opc := by
  unfold tune
  split <;> exact sameDefs_of_eq (by simp [Optics.setRest]) (by simp [Optics.setRest])

theorem clearFault_sameDefs (b : FaultBlock) (s : State) : s.opc.SameDefs (clearFault b s).opc := by
  have hsurvey (t : State) : t.opc.SameDefs (surveyRetry t).opc := by
    unfold surveyRetry
    split
    · exact surveyShift_sameDefs _ t
    · exact .refl _
  cases b with
  | exposure =>
    have hretry (t : State) : t.opc.SameDefs (exposureRetry t).opc := (exposureRetry_works (b := true) t).sameDefs
    have hclear : s.opc.SameDefs { s.opc with stallHold := false } := sameDefs_of_eq rfl rfl
    exact hclear.trans ((hretry ((s.withLink { s.link with exposure := .empty }).withOpc _)).trans (hsurvey _))
  | film => exact (retryFilm_works (b := true) (s.withLink { s.link with film := .empty })).sameDefs
  | proof => exact sameDefs_of_eq (by simp [clearFault]) (by simp [clearFault])

/-- A record leaves the definitions that boxes reference (R104). -/
theorem record_stand {s u : State} (h : RecordEffect s u) : ReferencedStand s u := by
  cases h with
  | face m x hm => exact (setMount_stand x hm).after (sameDefs_of_eq (by simp) (by simp))
  | mount m x hm => exact setMount_stand x hm
  | lens p size hp => exact (setLens_stand size hp).after (sameDefs_of_eq (by simp) (by simp))
  | survey =>
    refine Optics.SameDefs.stand ?_
    unfold takeSurvey
    split
    · exact (beginSurvey_sameDefs s).trans (sameDefs_of_eq rfl rfl)
    all_goals exact sameDefs_of_eq rfl rfl
  | stop form => exact (takeStop_works (b := true) form s).sameDefs.stand
  | resume => exact (resume_works (b := true) s).sameDefs.stand
  | rest => exact (restDrum_sameDefs s).stand
  | tune ps => exact (tuneAll_induct (P := fun t => s.opc.SameDefs t.opc) (fun t p h => h.trans (tune_sameDefs t p)) ps (.refl _)).stand
  | clearFault b => exact (clearFault_sameDefs b s).stand
  | same => exact (Optics.SameDefs.refl _).stand
  | abort form => exact (sameDefs_of_eq (by simp [startAbort]) (by simp [startAbort])).stand
  | cassette n => exact (sameDefs_of_eq (by simp [loadCassette]) (by simp [loadCassette])).stand
  | wake => exact (sameDefs_of_eq rfl rfl).stand
  | textWake => exact (sameDefs_of_eq rfl rfl).stand
  | _ => exact (sameDefs_of_eq (by simp) (by simp)).stand

theorem takeRecord_stand (r : LinkRecord) (s : State) : ReferencedStand s (takeRecord r s) :=
  show ReferencedStand s ((recordBody r s).1.withLink _) from (record_stand (recordBody_effect r s)).after (.refl _)

theorem receive_stand (r : LinkRecord) (s : State) : ReferencedStand s (receive r s) := by
  have hself (t : State) : ReferencedStand t t := (Optics.SameDefs.refl t.opc).stand
  rcases receive_cases r s with ⟨_, e⟩ | ⟨_, _, e⟩ | ⟨_, e⟩ | ⟨_, _, _, e⟩ <;> rw [e]
  · exact hself s
  · exact hself s
  · exact takeRecord_stand r (heard s)
  · exact hself s

theorem takeWaiting_stand (s : State) : ReferencedStand s (takeWaiting s) := by
  have hself (t : State) : ReferencedStand t t := (Optics.SameDefs.refl t.opc).stand
  unfold takeWaiting
  split
  · split
    · split
      · exact hself s
      · exact takeRecord_stand _ (setRx .hunting s)
    · exact hself s
  · exact hself s

theorem printerBytes_sameDefs (bs : Text) (s : State) : s.opc.SameDefs (printerBytes bs s).opc := by
  induction bs generalizing s with
  | nil => exact .refl _
  | cons b bs ih =>
    rw [printerBytes_cons]
    refine .trans ?_ (ih _)
    have hbyte : s.opc.SameDefs (printerByte s b).opc := sameDefs_of_eq (by simp) (by simp)
    unfold byteRead
    split
    · exact hbyte.trans (finish_sameDefs _ _)
    · exact hbyte

/-- Settles O40: no event's effect changes a definition, and FACE, WIDTHS, UNMOUNT and LENS test the references first. -/
theorem referencedTablesStand : Obligations.ReferencedTablesStand := by
  unfold Obligations.ReferencedTablesStand
  intro c s t hw hrx hpower hreset e
  show ReferencedStand s t
  rcases exec_event_cases c s with ⟨r, _, hc⟩ | ⟨u, hu, hc⟩ | ⟨bs, rfl, hc⟩ | ⟨k, l, rfl, hc⟩ | ⟨bs, hc⟩ | ⟨rfl, hc⟩ |
    ⟨b, a, rfl, _⟩
  · rw [hc] at e
    exact Host.Outcome.next.inj e ▸ (receive_stand r s).after (finish_sameDefs s _)
  · rw [hc] at e
    exact Host.Outcome.next.inj e ▸ ((effect_sameDefs hu).trans (finish_sameDefs s u)).stand
  · rw [hc, gapExpires_feed hrx hw] at e
    exact Host.Outcome.next.inj e ▸ (finish_sameDefs s s).stand
  · rw [hc, feed_tooLong hrx (of_decide_eq_true hw)] at e
    exact Host.Outcome.next.inj e ▸ (finish_sameDefs s s).stand
  · rw [hc] at e
    exact Host.Outcome.next.inj e ▸ (printerBytes_sameDefs bs s).stand
  · rw [hc] at e
    obtain rfl := Host.Outcome.next.inj e
    cases htx : s.link.tx with
    | none =>
      rw [frameEnds_of_free htx]
      exact (Optics.SameDefs.refl s.opc).stand
    | some f =>
      rw [frameEnds_of_other htx (hreset rfl f htx)]
      exact ((takeWaiting_stand _).of_withLink).after (finish_sameDefs s _)
  · exact absurd rfl (hpower b a)

end Sys2Proof.Machine
end

section
/-! PROOF. What follows an event keeps (O3): a settled state stays settled when what no reaction and no service reads has
changed. -/

namespace Sys2Proof.Machine

-- One declaration at a time: it keeps the threads, and with them the memory, of the compile small.
set_option Elab.async false

/-- New values for what no reaction and no service reads. -/
structure Unread where
  link : Link
  pend : PendingJob
  pairs : Vector (Vector Nat 26) 26
  dict : List DictEntry
  t1 : Int
  t2 : Int
  t3 : Int
  intensity : Vector (Vector Nat 8) 4
  reads : Nat

/-- The state with those values. -/
def Unread.on (x : Unread) (s : State) : State :=
  ((((s.withLink x.link).withCmp { s.cmp with pend := x.pend }).withHyu
    { s.hyu with pairs := x.pairs, dict := x.dict }).withExc
      { s.exc with t1 := x.t1, t2 := x.t2, t3 := x.t3, intensity := x.intensity }).withReads x.reads

/-! ### The reactions -/

theorem react_eq_none {s : State} : react s = none ↔ ∀ f ∈ reactions, f s = none := by
  unfold react
  rw [List.findSome?_eq_none_iff]

/-- A choice that makes nothing makes nothing under the same condition. -/
theorem ite_eq_none_of {α : Type} {c c' : Prop} [Decidable c] [Decidable c'] {a a' b b' : Option α} (hc : c ↔ c')
    (ha : a = none → a' = none) (hb : b = none → b' = none) (h : (if c then a else b) = none) :
    (if c' then a' else b') = none := by
  by_cases hs : c
  · rw [if_pos hs] at h
    rw [if_pos (hc.mp hs), ha h]
  · rw [if_neg hs] at h
    rw [if_neg (mt hc.mpr hs), hb h]

theorem none_of_some {α : Type} {a a' : α} (h : some a = none) : some a' = none := nomatch h

theorem exposureReact_unread (x : Unread) {s : State} : exposureReact s = none → exposureReact (x.on s) = none := by
  have last {c c' : Prop} [Decidable c] [Decidable c'] {a a' : State} (h : c ↔ c') :
      (if c then some a else none) = none → (if c' then some a' else none) = none := ite_eq_none_of h none_of_some id
  unfold exposureReact
  exact ite_eq_none_of .rfl none_of_some <| ite_eq_none_of .rfl (last .rfl) <| ite_eq_none_of .rfl none_of_some <|
    ite_eq_none_of .rfl none_of_some <| ite_eq_none_of .rfl none_of_some (last .rfl)

theorem surveyReact_unread (x : Unread) {s : State} (h : surveyReact s = none) : surveyReact (x.on s) = none := by
  unfold surveyReact at h ⊢
  have hopc : (x.on s).opc = s.opc := rfl
  rw [hopc]
  split at h
  · exact ite_eq_none_of .rfl none_of_some id h
  · rfl

theorem releaseOldest_unread (x : Unread) {s : State} (h : releaseOldest s = none) : releaseOldest (x.on s) = none := by
  unfold releaseOldest at h ⊢
  have hsls : (x.on s).sls = s.sls := rfl
  rw [hsls]
  split at h
  · exact ite_eq_none_of .rfl none_of_some id h
  · rfl

theorem map_eq_none_of {α : Type} {o : Option α} {f g : α → State} (h : o.map f = none) : o.map g = none := by
  rw [Option.map_eq_none_iff] at h ⊢
  exact h

theorem skipReact_unread (x : Unread) {s : State} : skipReact s = none → skipReact (x.on s) = none :=
  ite_eq_none_of .rfl map_eq_none_of id

theorem exposureTake_unread (x : Unread) {s : State} : exposureTake s = none → exposureTake (x.on s) = none :=
  ite_eq_none_of .rfl map_eq_none_of id

theorem abortReact_unread (x : Unread) {s : State} : abortReact s = none → abortReact (x.on s) = none :=
  ite_eq_none_of .rfl none_of_some id

theorem roomFor_unread (x : Unread) (t : Task) (s : State) : roomFor t (x.on s) = roomFor t s := rfl

theorem composerStep_unread (x : Unread) {s : State} (h : composerStep s = none) : composerStep (x.on s) = none := by
  unfold composerStep at h ⊢
  have hst : (x.on s).cmp.st = s.cmp.st := rfl
  have htask : (x.on s).cmp.task = s.cmp.task := rfl
  rw [hst, htask]
  split at h
  · rfl
  · cases h
  · rw [roomFor_unread]
    exact ite_eq_none_of .rfl none_of_some id h
  · rfl

theorem composerRest_unread (x : Unread) {s : State} (h : composerRest s = none) : composerRest (x.on s) = none := by
  unfold composerRest at h ⊢
  have hst : (x.on s).cmp.st = s.cmp.st := rfl
  rw [hst]
  split at h
  · exact ite_eq_none_of .rfl none_of_some id h
  · exact ite_eq_none_of .rfl id none_of_some h
  · exact ite_eq_none_of .rfl id none_of_some h
  · rfl

theorem react_unread (x : Unread) {s : State} (h : react s = none) : react (x.on s) = none := by
  rw [react_eq_none] at h ⊢
  simp only [reactions, List.forall_mem_cons, List.not_mem_nil, false_imp_iff, implies_true, and_true] at h ⊢
  obtain ⟨h1, h2, h3, h4, h5, h6, h7, h8⟩ := h
  exact ⟨exposureReact_unread x h1, surveyReact_unread x h2, releaseOldest_unread x h3, skipReact_unread x h4,
    composerStep_unread x h5, exposureTake_unread x h6, composerRest_unread x h7, abortReact_unread x h8⟩

/-! ### The services -/

/-- A choice between two operations that commute with `f` commutes with it under the same condition. -/
theorem ite_commutes {f : State → State} {c c' : Prop} [Decidable c] [Decidable c'] {a a' b b' : State} (hc : c ↔ c')
    (ha : a' = f a) (hb : b' = f b) : (if c' then a' else b') = f (if c then a else b) := by
  by_cases hs : c
  · rw [if_pos hs, if_pos (hc.mp hs), ha]
  · rw [if_neg hs, if_neg (mt hc.mpr hs), hb]

theorem spinUp_unread (x : Unread) (s : State) : spinUp (x.on s) = x.on (spinUp s) := ite_commutes .rfl rfl rfl

theorem restService_unread (x : Unread) (s : State) : restService (x.on s) = x.on (restService s) := by
  refine ite_commutes .rfl ?_ rfl
  have hopc : (x.on s).opc = s.opc := rfl
  rw [hopc]
  cases s.opc.restTimer <;> rfl

theorem sendReady_unread (x : Unread) (s : State) : sendReady (x.on s) = x.on (sendReady s) := by
  have hrow (r : LineRecord) (j : Nat) : sendRow r j (x.on s) = x.on (sendRow r j s) := ite_commutes .rfl rfl rfl
  unfold sendReady
  have hprc : (x.on s).prc = s.prc := rfl
  have hsls : (x.on s).sls = s.sls := rfl
  rw [hprc, hsls]
  split
  · split
    · exact hrow _ _
    · rfl
  · split
    · exact ite_commutes .rfl rfl (hrow _ _)
    · rfl

theorem proofAct_unread (x : Unread) (s : State) : proofAct (x.on s) = x.on (proofAct s) :=
  ite_commutes .rfl rfl <| ite_commutes .rfl rfl <| ite_commutes .rfl rfl <| ite_commutes .rfl (sendReady_unread x s) <|
    ite_commutes .rfl rfl rfl

theorem timerService_unread (x : Unread) (s : State) : timerService (x.on s) = x.on (timerService s) := by
  refine ite_commutes .rfl ?_ rfl
  have hprc : (x.on s).prc = s.prc := rfl
  rw [hprc]
  cases s.prc.timer <;> rfl

theorem proofService_unread (x : Unread) (s : State) : proofService (x.on s) = x.on (proofService s) := by
  have hfirst : (if (x.on s).prc.silent then x.on s else (x.on s).withPrc { (x.on s).prc with st := (x.on s).prc.decided (rowReady (x.on s)) }) =
      x.on (if s.prc.silent then s else s.withPrc { s.prc with st := s.prc.decided (rowReady s) }) := ite_commutes .rfl rfl rfl
  unfold proofService
  dsimp only
  rw [hfirst, proofAct_unread, timerService_unread]

theorem settled_unread (x : Unread) {s : State} (h : Settled s) : Settled (x.on s) := by
  obtain ⟨hreact, hspin, hrest, hproof⟩ := h
  exact ⟨react_unread x hreact, by rw [spinUp_unread, hspin], by rw [restService_unread, hrest],
    by rw [proofService_unread, hproof]⟩

/-- Nothing but the transmitter's choice follows from a settled state in which the IDLE conditions stand as before. -/
theorem finish_of_settled {s u : State} (h : Settled u) (hidle : idleHolds s = idleHolds u) :
    finish s u = u.withLink u.link.pump := by
  obtain ⟨hreact, hspin, hrest, hproof⟩ := h
  have hserved : served u = u := by rw [served, settle_of_none hreact, hspin, hrest, hproof]
  rw [finish_eq_served, hserved, hidle, idleService, if_neg (by simp)]
  rfl

/-- Settles O3: the follow-up relation, and the settled state commuting with what nothing reads. -/
theorem followUpsKeepTablesAndSettings : Obligations.FollowUpsKeepTablesAndSettings := by
  unfold Obligations.FollowUpsKeepTablesAndSettings
  refine ⟨fun s u => ?_, fun s l p pairs dict a b c table k h => ?_⟩
  · have h := finish_followsUp s u
    exact ⟨h.pending, h.pins, h.txq, ⟨h.link.rate, h.link.rx, h.link.resetTaken, h.link.faults⟩, h.hyu, h.opc, h.exc, h.ftc, h.prc⟩
  · have hu := settled_unread ⟨l, p, pairs, dict, a, b, c, table, k⟩ h
    exact ⟨hu, finish_of_settled hu rfl⟩

end Sys2Proof.Machine
end

section
/-! PROOF. The step, the resets and the reset values (R186), the width formula (R4), and the reports (R99, R122, R162, R179,
R193, R195, R196). -/

namespace Sys2Proof.Machine

-- One declaration at a time: it keeps the threads, and with them the memory, of the compile small.
set_option Elab.async false

/-! ### The step and the resets -/

/-- Settles O1: both cases of `step` are definitional. -/
theorem stepTakesTheFrontCommand : Obligations.StepTakesTheFrontCommand := by
  unfold Obligations.StepTakesTheFrontCommand
  exact fun _ _ _ => ⟨rfl, rfl⟩

/-- Settles O4: the straps' rate by cases, and the two notices' bytes. -/
theorem powerOnResetsEveryBlock : Obligations.PowerOnResetsEveryBlock := by
  unfold Obligations.PowerOnResetsEveryBlock
  refine ⟨fun strapB strapA s => ?_, fun r => ?_, fun r => ?_⟩
  · cases strapB <;> cases strapA <;> rfl
  · show some _ = some _
    rw [Option.some.injEq]
    decide
  · show some _ = some _
    rw [Option.some.injEq]
    decide

/-- Settles O5: the reset values evaluate to those of the manual. -/
theorem resetLeavesTheStatedValues : Obligations.ResetLeavesTheStatedValues := by
  unfold Obligations.ResetLeavesTheStatedValues
  intro r
  refine ⟨by decide, by decide, by decide, by decide, ⟨by decide, rfl, rfl, rfl, rfl⟩, by decide,
    ⟨by decide, by decide, fun k => ?_, by decide⟩, by decide, by decide, by decide, by decide⟩
  cases k <;> exact ⟨rfl, rfl⟩

theorem lineSetsInRange_reset {s : State} (h : s.cmp = .reset) : LineSetsInRange s := by
  refine ⟨?_, fun l hl => ?_⟩
  · rw [h]
    exact ⟨by decide, by decide, by decide, by decide, by decide⟩
  · simp [h, Composer.reset] at hl

theorem glueInOrder_reset {s : State} (h : s.cmp = .reset) : GlueInOrder s := by
  unfold GlueInOrder
  rw [h]
  decide

theorem ladderKept_reset {s : State} (h : s.cmp = .reset) : LadderKept s := by
  refine ⟨?_, ?_, fun t ht => ?_⟩
  · simp [h, Composer.reset]
  · simp [h, Composer.reset]
  · simp [h, Composer.reset] at ht

/-- Settles O60: each invariant's proof begins at the resets. -/
theorem resetIsSafe : Obligations.ResetIsSafe := by
  unfold Obligations.ResetIsSafe
  have hall (c : Cause) (s : State) : Safe (resetAll c s) := by
    obtain ⟨hrecords, hused⟩ := pool_keeps.reset c s
    obtain ⟨hout, hroom⟩ := rows_keep.reset c s
    exact ⟨film_keeps.reset c s,
      ⟨text_keeps.reset c s, replies_keep.reset c s, hrecords, hused, hout, hroom⟩, flashSafe_keeps.reset c s,
      lineSetsInRange_reset rfl, glueInOrder_reset rfl, ladderKept_reset rfl, dictionary_keeps.reset c s, names_keep.reset c s⟩
  have hreset : State.reset = resetAll .power State.reset := rfl
  exact ⟨hreset ▸ hall .power State.reset, hall⟩

/-! ### Widths (R4) -/

/-- Settles O21: the formula is a rounded division by 24. -/
theorem widthsRoundToTheNearestSetStep : Obligations.WidthsRoundToTheNearestSetStep := by
  unfold Obligations.WidthsRoundToTheNearestSetStep
  have hmono {w w' : Nat} (h : w ≤ w') (size : Nat) : width w size ≤ width w' size :=
    Nat.div_le_div_right (Nat.add_le_add_right (Nat.mul_le_mul_right 5 (Nat.mul_le_mul_right size h)) 12)
  refine ⟨fun _ _ => rfl, fun w size => ?_, fun w size hw hs => ?_, by decide, fun size => ?_, fun size => ?_, fun size => ?_,
    fun j size => ⟨rfl, fun h1 h2 => ⟨hmono h1 size, hmono h2 size⟩⟩⟩
  · unfold width
    omega
  · have h := Nat.mul_le_mul hw hs
    unfold width
    omega
  all_goals
    unfold width
    omega

/-! ### The reports -/

theorem statusReport_eq (s : State) : statusReport s =
    ascii "OK C=" ++ s.cmp.st.name ++ ascii " LO=" ++ decimal s.sls.lastOpened ++ ascii " LE=" ++
      decimal s.sls.lastExposed ++ ascii " LP=" ++ decimal s.sls.lastProofed ++ ascii " ST=" ++
      decimal s.sls.records.length ++ ascii " PL=" ++ decimal (freePool s) ++ ascii " RM=" ++
      decimal (4096 - s.txq.bytes.length) ++ ascii " X=" ++ s.exc.st.name ++ ascii " F=" ++ s.ftc.st.name ++ ascii " PR=" ++
      s.prc.st.name ++ ascii " D=" ++ s.opc.drum.name ++ ascii " RS=" ++ yesNo s.opc.resting ++ ascii " P=" ++
      depthNat s.ftc.p ++ ascii " G=" ++ depthNat s.ftc.g ++ ascii " DM=" ++ depthNat s.ftc.dmax ++ ascii " FR=" ++
      depthNat s.ftc.remaining ++ ascii " GF=" ++ decimal s.ftc.galley ++ ascii " GP=" ++ decimal s.prc.galley ++
      ascii " RF=" ++ yesNo s.hyu.referral.isSome ++ ascii " FL=" ++ flagLetters s.link.flags := by
  simp [statusReport, okWith, ok, fields, field, ascii, TextQueue.room, Config.textQueue]

theorem faultsReport_eq (l : Link) : l.faultsReport =
    ascii "OK EXPOSURE=" ++ l.exposure.report ExposureKind.name ++ ascii " FILM=" ++ l.film.report FilmKind.name ++
      ascii " PROOF=" ++ l.proof.report ProofKind.name := by
  simp [Link.faultsReport, okWith, ok, fields, field, ascii]

theorem opticsReport_eq (o : Optics) : o.report =
    ascii "OK DOOR=" ++ o.door.name ++ ascii " DRUM=" ++ o.drum.name ++ ascii " STRIP=" ++ heldText o.strip.held ++
      ascii " PRISM=" ++ heldText o.prism.held ++ ascii " TURRET=" ++ heldText o.turret.held ++ ascii " SURVEY=" ++
      yesNo o.surveyRequest ++ fields (lensPositions.map fun m => (o.mount m).text m.val) ++ ascii " L=" ++
      joinText (ascii ",") (o.lenses.toList.map decimal) := by
  simp [Optics.report, okWith, ok, fields, field, ascii]

theorem filmReport_eq (f : Film) : f.report =
    ascii "OK STATE=" ++ f.st.name ++ ascii " SENSOR=" ++ f.sensor.name ++ ascii " CAP=" ++ depthNat f.cap ++ ascii " P=" ++
      depthNat f.p ++ ascii " G=" ++ depthNat f.g ++ ascii " DMAX=" ++ depthNat f.dmax ++ ascii " REM=" ++
      depthNat f.remaining ++ ascii " MARKS=" ++
      joinText (ascii ",") (f.marks.toList.map fun m => orElse dash (m.map depthNat)) ++ ascii " FEED=" ++
      signedDecimal f.feed ++ ascii " E=" ++ signedDecimal f.e ++ ascii " OUT=" ++ yesNo f.filmOut ++ ascii " LOW=" ++
      (if f.lowMatched then ascii "MATCHED" else ascii "ARMED") ++ ascii " GALLEY=" ++ decimal f.galley := by
  simp [Film.report, okWith, ok, fields, field, ascii]

theorem proofReport_eq (p : Proof) : p.report =
    ascii "OK STATE=" ++ p.st.name ++ ascii " MODE=" ++ p.mode.name ++ ascii " GRANT=" ++ decimal p.grant ++ ascii " ROOM=" ++
      decimal p.room ++ ascii " OUT=" ++ decimal p.out.length ++ ascii " ASK=" ++ yesNo p.ask ++ ascii " HEADER=" ++
      yesNo p.headerDue ++ ascii " WAIT=" ++ orElse dash (p.galleyWait.map decimal) ++ ascii " GALLEY=" ++
      decimal p.galley ++ ascii " CODE=" ++ orElse dash (p.lastCode.map fun c => decimal c.toNat) := by
  simp [Proof.report, okWith, ok, fields, field, ascii]

/-- A command without parameters that leaves the state and gives a report. -/
theorem report_event {k : Keyword} {c : Instr} {s : State} {reply : Text} (hc : recordOf c = some (.command k []))
    (h : LinkReady s) (hb : commandBody k [] (heard s) = (heard s, reply)) :
    exec c s = .next (finish s (answered reply (heard s))) := by
  rw [exec_of_recordOf hc]
  exact commandEvent_of_ready h rfl hb h.1

theorem yesNo_eq (b : Bool) : yesNo b = if b = true then ascii "Y" else ascii "N" := by cases b <;> rfl

theorem signedDecimal_eq (v : Int) : signedDecimal v = if v < 0 then ascii "-" ++ decimal v.natAbs else decimal v.natAbs := rfl

theorem faultRecord_report_eq {κ : Type} (name : κ → Text) (r : FaultRecord κ) :
    r.report name = (r.first.map name).getD (ascii "-") ++ ascii "/" ++
      (if r.also.map name = [] then ascii "-" else joinText (ascii "+") (r.also.map name)) ++ ascii "/" ++ decimal r.line := by
  have hfirst : orElse dash (r.first.map name) = (r.first.map name).getD (ascii "-") := by cases r.first <;> rfl
  have halso : (if r.also.isEmpty then dash else joinText [0x2B#8] (r.also.map name)) =
      if r.also.map name = [] then ascii "-" else joinText (ascii "+") (r.also.map name) := by cases r.also <;> rfl
  rw [FaultRecord.report, hfirst, halso]
  rfl

theorem flagLetters_eq (fs : List Flag) : flagLetters fs = if fs = [] then ascii "-" else fs.map Flag.letter := by
  cases fs <;> rfl

/-- The letter of a mount's state, by its codes (R103). -/
theorem stateLetter_eq (m : Mount) : m.state.letter =
    if m.expected = 0 then ascii "E" else if m.observed = none then ascii "U"
    else if m.observed = some m.expected then ascii "R" else ascii "X" := by
  unfold Mount.state
  by_cases h0 : m.expected = 0
  · simp only [if_pos h0]
    rfl
  · simp only [if_neg h0]
    cases m.observed with
    | none => rfl
    | some o =>
      by_cases h : o = m.expected
      · simp only [h]
        rfl
      · simp [h]
        rfl

/-- A mount's field of OPTICS (R122). -/
theorem mountField_eq (i : Nat) (m : Mount) : 0x20#8 :: m.text i =
    ascii " M" ++ decimal i ++ ascii "=" ++ decimal m.expected ++ ascii "/" ++ heldText m.observed ++ ascii "/" ++
      m.state.letter := by
  simp [Mount.text, joinText, ascii]

theorem marks_toList (v : Vector (Option Nat) 4) : v.toList = ([0, 1, 2, 3] : List (Fin 4)).map v.get := by
  refine List.ext_getElem (by simp) fun i hi _ => ?_
  have h4 : i < 4 := by simpa using hi
  interval_cases i <;> rfl

/-- Settles O15: each report's fields in their order. -/
theorem reportsChangeNothing : Obligations.ReportsChangeNothing := by
  unfold Obligations.ReportsChangeNothing
  intro yn held signed record
  have hheld : heldText = held := by
    funext v
    cases v <;> rfl
  have hmark (m : Option Nat) : orElse dash (m.map depthNat) = match m with
      | some v => depthNat v
      | none => ascii "-" := by cases m <;> rfl
  have hwait (m : Option Nat) : orElse dash (m.map decimal) = match m with
      | some n => decimal n
      | none => ascii "-" := by cases m <;> rfl
  have hcode (m : Option Byte) : orElse dash (m.map fun c => decimal c.toNat) = match m with
      | some c => decimal c.toNat
      | none => ascii "-" := by cases m <;> rfl
  refine ⟨⟨fun v => rfl, ?_⟩, fun s h => ⟨?_, ?_, ?_, ?_, ?_, ?_⟩, fun s h w ws c hc => ?_⟩
  · decide
  · refine report_event rfl h ?_
    show (heard s, statusReport (heard s)) = _
    rw [statusReport_eq, flagLetters_eq]
    simp only [yesNo_eq]
    rfl
  · refine report_event rfl h ?_
    show (heard s, (heard s).link.faultsReport) = _
    rw [faultsReport_eq]
    simp only [faultRecord_report_eq]
    rfl
  · refine report_event rfl h ?_
    have hcaps : capsReport = ascii ("OK PART=410 REV=A TEXTQ=4096 LINES=24 ELEMENTS=2048 " ++
        "LINEELEM=200 WORDCODES=48 DICT=256/3072 MOUNTS=8 LENSES=8 SLOTS=95 MEASURE=17280") := by
      simp [capsReport, ascii]
    show (heard s, capsReport) = _
    rw [hcaps]
  · refine report_event rfl h ?_
    show (heard s, (heard s).opc.report) = _
    rw [opticsReport_eq]
    simp only [fields, List.map_map, Function.comp_def, mountField_eq, stateLetter_eq, hheld, yesNo_eq]
    rfl
  · refine report_event rfl h ?_
    show (heard s, (heard s).ftc.report) = _
    rw [filmReport_eq, marks_toList]
    simp only [List.map_map, Function.comp_def, hmark, yesNo_eq, signedDecimal_eq]
    rfl
  · refine report_event rfl h ?_
    show (heard s, (heard s).prc.report) = _
    rw [proofReport_eq]
    simp only [hwait, hcode, yesNo_eq]
    rfl
  · rcases hc with rfl | rfl | rfl | rfl | rfl | rfl <;> exact commandEvent_badSyntax h fun _ => rfl

end Sys2Proof.Machine
end

section
/-! PROOF. Replies and refusals (R189), CLEAR (R192), fault records (R193), TEXT records and the codes read from the queue (R11
to R13). -/

namespace Sys2Proof.Machine

-- One declaration at a time: it keeps the threads, and with them the memory, of the compile small.
set_option Elab.async false

/-! ### Replies and refusals -/

/-- Answered with a reply that begins with OK, or refused with the state as it was. -/
def Answers (s : State) (p : Taken) : Prop := p.2.take 2 = ascii "OK" ∨ (p.2.take 2 = ascii "NO" ∧ p.1 = s)

theorem ok_take : ok.take 2 = ascii "OK" := by decide

theorem answers_ok (s u : State) : Answers s (u, ok) := .inl ok_take

theorem answers_okWith (s u : State) (fs : List Text) : Answers s (u, okWith fs) := .inl (okWith_take fs)

theorem answers_refuse (r : Reason) (s : State) : Answers s (refuse r s) := .inr ⟨no_take r, rfl⟩

theorem caps_take : capsReport.take 2 = ascii "OK" := by
  simp [capsReport, ascii]

theorem longestListing_take (i : Nat) (h : Hyphenation) (m : Nat) : (h.longestListing i m).take 2 = ascii "OK" := by
  induction m with
  | zero => exact okWith_take _
  | succ m ih =>
    unfold Hyphenation.longestListing
    split
    · exact okWith_take _
    · exact ih

theorem commandBody_answers (k : Keyword) (params : List Text) (s : State) : Answers s (commandBody k params s) := by
  cases k with
  | job =>
    rcases jobBody_cases params s with ⟨r, e⟩ | ⟨ps, _, _, _, e⟩ <;> simp only [commandBody, e]
    · exact answers_refuse r s
    · exact answers_ok s _
  | dictList =>
    simp only [commandBody, dictListBody]
    (repeat' split) <;> first | exact answers_refuse _ s | exact .inl (longestListing_take _ _ _)
  | caps =>
    simp only [commandBody, capsBody]
    split
    · exact .inl caps_take
    · exact answers_refuse _ s
  | _ =>
    simp only [commandBody, pairsBody, dictAddBody, dictDelBody, dictClearBody, dictGetBody, decideBody, lineBody, abortBody,
      faceBody, widthsBody, unmountBody, lensBody, surveyBody, opticsBody, stopBody, resumeBody, tempsBody, intensityBody,
      cassetteBody, feedCutBody, transportBody, printerBody, restBody, wakeBody, resetBody, tuneBody, clearBody, statusBody,
      faultsBody, clearFaultBody]
    (repeat' split) <;> first | exact answers_refuse _ s | exact answers_okWith s _ _ | exact answers_ok s _

/-- Settles O11: a command's body ends in a refusal or in a reply that begins with OK. -/
theorem refusedCommandsChangeNothing : Obligations.RefusedCommandsChangeNothing := by
  unfold Obligations.RefusedCommandsChangeNothing
  intro k params s
  rcases commandBody_answers k params s with hok | ⟨hno, hsame⟩
  · exact ⟨.inl hok, fun hno => absurd (hok.symm.trans hno) (by decide)⟩
  · exact ⟨.inr hno, fun _ => hsame⟩

/-! ### CLEAR (R192) -/

theorem clearAll_eq (fs : List Flag) (l : Link) : l.clearAll fs =
    { l with
      flags := l.flags.filter fun f => !fs.contains f
      pendingNames := l.pendingNames.filter fun f => !fs.contains f } := by
  unfold Link.clearAll
  induction fs generalizing l with
  | nil => simp
  | cons g fs ih =>
    rw [List.foldl_cons, ih]
    have hfilter (gs : List Flag) :
        (removeFrom g gs).filter (fun f => !fs.contains f) = gs.filter fun f => !(g :: fs).contains f := by
      rw [removeFrom, List.filter_filter]
      refine List.filter_congr fun f _ => ?_
      rw [List.contains_cons, Bool.not_or, Bool.and_comm]
      rfl
    simp only [Link.clearFlag, hfilter]

theorem twice_eq_false_iff (ts : List Text) : twice ts = false ↔ ts.Nodup := by
  induction ts with
  | nil => simp [twice]
  | cons t ts ih => simp [twice, ih]

theorem flag_ofText_name (f : Flag) : Flag.ofText f.name = some f := by cases f <;> decide

theorem flag_name_ne_all (f : Flag) : f.name ≠ ascii "ALL" := by cases f <;> decide

theorem flag_name_injective : Function.Injective Flag.name := fun f g h => by
  have hf := flag_ofText_name f
  rw [h, flag_ofText_name] at hf
  exact (Option.some.inj hf).symm

theorem mapM_ofText_names (fs : List Flag) : (fs.map Flag.name).mapM Flag.ofText = some fs := by
  induction fs with
  | nil => rfl
  | cons f fs ih => simp [List.mapM_cons, flag_ofText_name, ih]

theorem mapM_eq_none_of_mem {α β : Type} {f : α → Option β} {ws : List α} {w : α} (hw : w ∈ ws) (h : f w = none) :
    ws.mapM f = none := by
  induction ws with
  | nil => cases hw
  | cons v ws ih =>
    rw [List.mapM_cons]
    rcases List.mem_cons.mp hw with rfl | hw
    · rw [h]
      rfl
    · rw [ih hw]
      cases f v <;> rfl

theorem ofText_flag_eq_none {w : Text} (h : ∀ f : Flag, w ≠ f.name) : Flag.ofText w = none := by
  unfold Flag.ofText
  rw [List.find?_eq_none]
  intro f _ hf
  exact h f (beq_iff_eq.mp hf).symm

theorem parseClear_names {fs : List Flag} (hne : fs ≠ []) (hd : fs.Nodup) : parseClear (fs.map Flag.name) = some fs := by
  have hall : ¬ (fs.map Flag.name == [ascii "ALL"]) = true := by
    intro h
    have hmem : ascii "ALL" ∈ fs.map Flag.name := by
      rw [beq_iff_eq.mp h]
      exact List.mem_singleton_self _
    obtain ⟨f, _, hf⟩ := List.mem_map.mp hmem
    exact flag_name_ne_all f hf
  have htwice : twice (fs.map Flag.name) = false := (twice_eq_false_iff _).mpr (hd.map flag_name_injective)
  have hempty : (fs.map Flag.name).isEmpty = false := by simpa using hne
  rw [parseClear, if_neg hall, htwice, hempty, if_neg (by decide), mapM_ofText_names]

theorem parseClear_eq_none {params : List Text}
    (h : params = [] ∨ ¬ params.Nodup ∨ (params ≠ [ascii "ALL"] ∧ ∃ w ∈ params, ∀ f : Flag, w ≠ f.name)) :
    parseClear params = none := by
  unfold parseClear
  rcases h with rfl | hd | ⟨hall, w, hw, hf⟩
  · rfl
  · have htwice : twice params = true := by
      rw [← Bool.not_eq_false, twice_eq_false_iff]
      exact hd
    have hall : ¬ (params == [ascii "ALL"]) = true := fun e => hd (by simp [beq_iff_eq.mp e])
    rw [if_neg hall, htwice, Bool.or_true, if_pos rfl]
  · rw [if_neg (by simpa using hall), mapM_eq_none_of_mem hw (ofText_flag_eq_none hf), ite_self]

/-- A CLEAR that names flags (R192). -/
theorem clear_event {params : List Text} {fs : List Flag} {s : State} (h : LinkReady s) (hc : params.all cleanWord = true)
    (hp : parseClear params = some fs) :
    exec (.clear params) s = .next (finish s (answered (okWith [field "FLAGS" (flagLetters (s.link.clearAll fs).flags)])
      ((heard s).withLink ((heard s).link.clearAll fs)))) := by
  rw [exec_of_recordOf rfl]
  refine commandEvent_of_ready h hc ?_ ?_
  · simp only [commandBody, clearBody, hp]
    simp [clearAll_eq]
  · rw [clearAll_eq]
    exact h.1

theorem flagName_clean (f : Flag) : cleanWord f.name = true := by cases f <;> decide

/-- Settles O13: the words of a CLEAR as flags, and the two sets without them. -/
theorem clearTakesFlagsDown : Obligations.ClearTakesFlagsDown := by
  unfold Obligations.ClearTakesFlagsDown
  refine ⟨fun fs s h hne hd => ?_, fun s h => ?_, fun params s h hp => ?_⟩
  · have hclean : (fs.map Flag.name).all cleanWord = true := by simp [flagName_clean]
    rw [clear_event h hclean (parseClear_names hne hd)]
    simp only [clearAll_eq]
    rfl
  · have hnone (gs : List Flag) : (gs.filter fun f => !Flag.all.contains f) = [] := by
      simp [flag_mem_all]
    rw [clear_event (fs := Flag.all) h (by decide) rfl]
    simp only [clearAll_eq, hnone]
    rfl
  · exact commandEvent_badSyntax h fun _ => by simp only [commandBody, clearBody, parseClear_eq_none hp]

/-! ### Fault records (R193) -/

theorem mem_insertIn_of_all {κ : Type} [BEq κ] [LawfulBEq κ] {all set : List κ} (hall : ∀ k, k ∈ all) {x y : κ} :
    y ∈ insertIn all x set ↔ y ∈ set ∨ y = x := by
  rw [mem_insertIn, or_comm]
  exact and_iff_right (hall y)

/-- What a recording makes of a fault record (R193). -/
theorem record_spec {κ : Type} [BEq κ] [LawfulBEq κ] {all : List κ} (hall : ∀ k, k ∈ all) (k : κ) (line : Nat)
    (r : FaultRecord κ) :
    (r.first = none → r.record all k line = { first := some k, also := [], line := line }) ∧
      ∀ k0, r.first = some k0 →
        (r.record all k line).first = some k0 ∧ (r.record all k line).line = r.line ∧
          (∀ j, j ∈ (r.record all k line).also ↔ j ∈ r.also ∨ (j = k ∧ k ≠ k0)) ∧
          (r.also.Sublist all → (r.record all k line).also.Sublist all) := by
  rcases record_cases all k line r with ⟨hnone, e⟩ | ⟨k1, hk, e⟩ <;> rw [e]
  · exact ⟨fun _ => rfl, fun k0 h => by simp [hnone] at h⟩
  · refine ⟨fun h => by simp [hk] at h, fun k0 h0 => ?_⟩
    obtain rfl : k1 = k0 := Option.some.inj (hk.symm.trans h0)
    refine ⟨h0, rfl, fun j => ?_, fun hsub => ?_⟩ <;> by_cases hkk : k1 = k
    · simp only [beq_iff_eq, hkk, if_true]
      simp
    · rw [if_neg (by simpa using hkk), mem_insertIn_of_all hall]
      simp [Ne.symm hkk]
    · simpa [hkk] using hsub
    · rw [if_neg (by simpa using hkk)]
      exact List.filter_sublist

theorem mem_raise_flags (f : Flag) (l : Link) : f ∈ (l.raise f).flags := by
  rcases link_raise_cases f l with ⟨h, e⟩ | ⟨_, e⟩ <;> rw [e]
  · exact h
  · exact mem_insertIn.mpr ⟨flag_mem_all f, .inl rfl⟩

/-- Settles O16: one law of `FaultRecord.record` for the three records, each of which then raises its flag. -/
theorem faultRecordsKeepTheFirstKind : Obligations.FaultRecordsKeepTheFirstKind := by
  unfold Obligations.FaultRecordsKeepTheFirstKind
  refine ⟨fun k s => ?_, fun k n s => ?_, fun k n s => ?_⟩
  · obtain ⟨hnone, hsome⟩ := record_spec (all := ExposureKind.all) (fun k => by cases k <;> decide) k (s.exc.ptr.getD 0) s.link.exposure
    have hrec : (exposureFault k s).link.exposure = s.link.exposure.record ExposureKind.all k (s.exc.ptr.getD 0) :=
      (link_raise_sameFaults .xfault _).1
    rw [hrec]
    exact ⟨hnone, hsome, mem_raise_flags _ _⟩
  · obtain ⟨hnone, hsome⟩ := record_spec (all := FilmKind.all) (fun k => by cases k <;> decide) k n s.link.film
    have hrec : (filmFault k n s).link.film = s.link.film.record FilmKind.all k n := (link_raise_sameFaults .ffault _).2.1
    rw [hrec]
    exact ⟨hnone, hsome, mem_raise_flags _ _⟩
  · obtain ⟨hnone, hsome⟩ := record_spec (all := ProofKind.all) (fun k => by cases k <;> decide) k n s.link.proof
    have hrec : (proofFault k n s).link.proof = s.link.proof.record ProofKind.all k n := (link_raise_sameFaults .pfault _).2.2
    rw [hrec]
    exact ⟨hnone, hsome, mem_raise_flags _ _⟩

/-! ### TEXT records (R12) -/

theorem room_eq (q : TextQueue) : roomField q = ascii "room=" ++ decimal (4096 - q.bytes.length) := rfl

/-- Settles O19: the three cases of R12. -/
theorem textIsTakenWholeOrRefused : Obligations.TextIsTakenWholeOrRefused := by
  unfold Obligations.TextIsTakenWholeOrRefused
  intro payload s h room
  rw [exec_of_recordOf rfl]
  have hevent {u : State} {reply : Text} (hb : textBody payload (heard s) = (u, reply)) (hr : u.link.resetTaken = false) :
      recordEvent (.text payload) s = .next (finish s (answered reply u)) := recordEvent_of_ready h hb hr
  have hfield (a : String) (q : TextQueue) : ascii a ++ fields [roomField q] =
      ascii (a ++ " room=") ++ decimal (4096 - q.bytes.length) := by
    rw [room_eq]
    simp [fields, ascii]
  have haborting : aborting (heard s) = decide (s.cmp.st = .aborting) := beq_eq_decide _ _
  have hroom : (heard s).txq.room = room := rfl
  refine ⟨fun hst => ?_, fun hst hlen => ?_, fun hst hlen => ?_⟩ <;> refine hevent ?_ ?_
  · rw [textBody, haborting, decide_eq_true hst, if_pos rfl, no_state, hfield]
    rfl
  · exact h.1
  · have happend : 4096 - ((heard s).txq.append payload).bytes.length = room - payload.length := by
      rw [TextQueue.append, List.length_append]
      exact Nat.sub_add_eq _ _ _
    rw [textBody, haborting, decide_eq_false hst, if_neg (by decide), if_pos (hroom ▸ hlen)]
    dsimp only
    rw [okWith, ok, hfield, happend]
    cases payload with
    | nil =>
      simp [TextQueue.append, ascii]
      rfl
    | cons b bs => rfl
  · split <;> exact h.1
  · rw [textBody, haborting, decide_eq_false hst, if_neg (by decide), if_neg (by rw [hroom]; omega), no_full, hfield]
    rfl
  · exact h.1

/-! ### Codes read from the queue (R11, R13) -/

theorem exec_codeRead (s : State) : exec .textCodeRead s = .next (finish s (codeRead s)) := rfl

theorem codeRead_of_reading {s : State} (hst : s.cmp.st = .reading) (ht : s.cmp.task = none) : codeRead s = takeCode s :=
  if_pos ⟨hst, ht⟩

/-- A code taken whole, or as much of it as has come. -/
theorem gather_eq (s : State) (c : Byte) (got bytes : Text) {n : Nat} (hn : got.length + n = paramCount c) :
    (n ≤ bytes.length → takeCode.gather s c got bytes = (drainTo (bytes.drop n) s).withCmp
      { s.cmp with partCode := none, task := some (.code c (got ++ bytes.take n)) }) ∧
      (bytes.length < n → takeCode.gather s c got bytes = (drainTo [] s).withCmp
        { s.cmp with partCode := some (c, got ++ bytes) }) := by
  have hwant : paramCount c - got.length = n := by omega
  have hcmp (bs : Text) : (drainTo bs s).cmp = s.cmp := by simp
  refine ⟨fun hle => ?_, fun hlt => ?_⟩ <;> simp only [takeCode.gather, hwant, List.length_append, List.length_take, hcmp]
  · rw [if_neg (by omega)]
  · rw [if_pos (by omega), List.take_of_length_le hlt.le, List.drop_of_length_le hlt.le]

/-- Settles O20: the code and its parameters as one gathering, begun or gone on with. -/
theorem codesAreReadWithTheirParameters : Obligations.CodesAreReadWithTheirParameters := by
  unfold Obligations.CodesAreReadWithTheirParameters
  refine ⟨fun b bs s hst ht hp hq => ?_, fun c got n s hst ht hp hq hn => ?_, fun s h => ?_, fun bytes s => ⟨fun hw hlen => ?_, fun h => ?_⟩⟩
  · have hread : codeRead s = takeCode.gather s b [] bs := by
      rw [codeRead_of_reading hst ht, takeCode, hp, hq]
    obtain ⟨hwhole, hpart⟩ := gather_eq s b [] bs (Nat.zero_add _)
    rw [exec_codeRead, hread]
    refine ⟨fun hle => ?_, fun hlt => ?_⟩
    · rw [hwhole hle, ← hp]
      rfl
    · rw [hpart hlt]
      rfl
  · have hread : codeRead s = takeCode.gather s c got s.txq.bytes := by
      rw [codeRead_of_reading hst ht, takeCode, hp]
      cases hb : s.txq.bytes with
      | nil => exact absurd hb hq
      | cons b bs => rfl
    obtain ⟨hwhole, hpart⟩ := gather_eq s c got s.txq.bytes hn
    rw [exec_codeRead, hread]
    exact ⟨fun hle => by rw [hwhole hle], fun hlt => by rw [hpart hlt]⟩
  · have hread : codeRead s = s := by
      unfold codeRead
      split
      · rename_i hr
        obtain hq : s.txq.bytes = [] := by simpa [hr.1, hr.2] using h
        rw [takeCode, hq]
      · rfl
    rw [exec_codeRead, hread]
  · rw [drainTo]
    exact if_pos ⟨hw, by simp [TextQueue.room, Config.textQueue, Config.roomWatch]; omega⟩
  · rw [drainTo]
    refine if_neg fun hc => ?_
    rcases h with h | h
    · simp [h] at hc
    · have := hc.2
      simp only [TextQueue.room, Config.textQueue, Config.roomWatch] at this
      omega

end Sys2Proof.Machine
end

section
/-! PROOF. JOB (R29, R30), PAIRS (R62), the dictionary's commands (R64 to R66), LINE (R95), and the end of a referral (R77 to
R80). -/

namespace Sys2Proof.Machine

-- One declaration at a time: it keeps the threads, and with them the memory, of the compile small.
set_option Elab.async false

/-! ### A command at a ready link -/

section
variable {c : Instr} {k : Keyword} {ps : List Text} {s u : State} {reply : Text} {r : Reason}

/-- A command of clean words that is carried out. -/
theorem command_done (hc : recordOf c = some (.command k ps)) (h : LinkReady s) (hclean : ps.all cleanWord = true)
    (hr : u.link.resetTaken = false) (hb : commandBody k ps (heard s) = (u, reply)) :
    exec c s = .next (finish s (answered reply u)) := by
  rw [exec_of_recordOf hc]
  exact commandEvent_of_ready h hclean hb hr

/-- A command of clean words that is refused. -/
theorem command_refused (hc : recordOf c = some (.command k ps)) (h : LinkReady s) (hclean : ps.all cleanWord = true)
    (hb : commandBody k ps (heard s) = refuse r (heard s)) : exec c s = .next (finish s (answered (no r) (heard s))) :=
  command_done hc h hclean h.1 hb

/-- A command refused for its form, whatever its words. -/
theorem command_syntax (hc : recordOf c = some (.command k ps)) (h : LinkReady s)
    (hb : commandBody k ps (heard s) = refuse .badSyntax (heard s)) :
    exec c s = .next (finish s (answered (ascii "NO SYNTAX") (heard s))) := by
  rw [exec_of_recordOf hc]
  exact commandEvent_badSyntax h fun _ => hb

end

theorem length_of_mapM {α β : Type} {f : α → Option β} {as : List α} {bs : List β} (h : as.mapM f = some bs) :
    bs.length = as.length := by
  induction as generalizing bs with
  | nil =>
    cases h
    rfl
  | cons a as ih =>
    rw [List.mapM_cons] at h
    obtain ⟨b, _, h⟩ := Option.bind_eq_some_iff.mp h
    obtain ⟨cs, hcs, h⟩ := Option.bind_eq_some_iff.mp h
    cases h
    simp [ih hcs]

theorem clean_singleton {w : Text} (h : cleanWord w = true) : ([w] : List Text).all cleanWord = true := by simp [h]

/-! ### JOB (R29, R30) -/

/-- Settles O26: the body's three endings, and the line open as it is written. -/
theorem jobWaitsForTheNextLine : Obligations.JobWaitsForTheNextLine := by
  unfold Obligations.JobWaitsForTheNextLine
  refine ⟨fun params s h hp => ?_, fun params ps s h hc hp => ⟨fun hr => ?_, fun hr hg => ?_⟩, fun s => ?_⟩
  · exact command_syntax rfl h (by simp only [commandBody, jobBody, hp])
  · rw [← no_range]
    exact command_refused rfl h hc (by simp [commandBody, jobBody, hp, hr])
  · have hglue : glueTest ps (heard s).cmp = true := by
      unfold glueTest
      cases hany : ps.any fun p => p.1.isGlue
      · rfl
      · exact hg hany
    exact command_done rfl h hc h.1 (by simp only [commandBody, jobBody, hp, hr, hglue]; rfl)
  · refine ⟨rfl, rfl, rfl, rfl, rfl, _, rfl, rfl, rfl, rfl, rfl, rfl, rfl, rfl, ?_, ?_⟩ <;>
      cases hm : (s.cmp.job.apply s.cmp.pend).mode <;> simp [Composer.newLine, hm, Mode.exp, Mode.proofState]

/-! ### PAIRS (R62) -/

theorem letter_clean {b : Byte} {c : Fin 26} (h : letterClass b = some c) : cleanWord [b] = true := by
  have hb : 0x21 ≤ b.toNat ∧ b.toNat ≤ 0x7E := by
    unfold letterClass at h
    split at h
    · omega
    · split at h
      · omega
      · cases h
  simpa [cleanWord] using hb

theorem getD_map_toNat (vs : List Int) (i : Nat) : (vs.map Int.toNat).getD i 0 = (vs.getD i 0).toNat := by
  rw [List.getD_eq_getElem?_getD, List.getD_eq_getElem?_getD, List.getElem?_map]
  cases vs[i]? <;> rfl

theorem setRow_quality (h : Hyphenation) (c x y : Fin 26) (vs : List Nat) :
    (h.setRow c vs).quality x y = if x = c then vs.getD y.val 0 else h.quality x y := by
  unfold Hyphenation.quality Hyphenation.setRow
  simp only [Vector.get_eq_getElem, Vector.getElem_set, Fin.ext_iff, eq_comm]
  split <;> simp

/-- Settles O29: the row written is the only one that changes. -/
theorem pairsLoadsOneRow : Obligations.PairsLoadsOneRow := by
  unfold Obligations.PairsLoadsOneRow
  refine ⟨fun b c ws vs s h hclean hb hv hlen => ?_, fun params s h hp => ?_⟩
  · have hvs : vs.length = 26 := (length_of_mapM hv).trans hlen
    have hall : ([b] :: ws).all cleanWord = true := by simp [letter_clean hb, hclean]
    have hbody : commandBody .pairs ([b] :: ws) (heard s) =
        if vs.all (inRange 0 3) then ((heard s).withHyu (s.hyu.setRow c (vs.map Int.toNat)), ok) else refuse .range (heard s) := by
      simp [commandBody, pairsBody, parseLetter, hb, hv, hvs]
    refine ⟨fun hin => ⟨s.hyu.setRow c (vs.map Int.toNat), ?_, rfl, fun x y => ?_⟩, fun hout => ?_⟩
    · refine command_done rfl h hall h.1 (hbody.trans (if_pos ?_))
      simpa [inRange] using hin
    · rw [setRow_quality, getD_map_toNat]
    · rw [← no_range]
      refine command_refused rfl h hall (hbody.trans (if_neg fun hin => ?_))
      obtain ⟨v, hv, hr⟩ := hout
      have := (inRange_iff 0 3 v).mp (List.all_eq_true.mp hin v hv)
      omega
  · refine command_syntax rfl h ?_
    cases params with
    | nil => rfl
    | cons l ws =>
      simp only [commandBody, pairsBody]
      split
      · rename_i c vs hl hv
        rw [if_pos]
        obtain ⟨b, rfl⟩ : ∃ b, l = [b] := by
          unfold parseLetter at hl
          split at hl
          · exact ⟨_, rfl⟩
          · cases hl
        rcases hp with hp | hp | ⟨w, hw, hn⟩
        · rw [length_of_mapM hv]
          simpa using hp
        · rw [parseLetter, hp b ws rfl] at hl
          cases hl
        · cases hv.symm.trans (mapM_eq_none_of_mem hw hn)
      · rfl

/-! ### The dictionary's commands (R64 to R66) -/

theorem counts_text (h : Hyphenation) : okWith h.counts =
    ascii "OK entries=" ++ decimal h.dict.length ++ ascii " letters=" ++ decimal h.lettersUsed := by
  simp [Hyphenation.counts, okWith, ok, fields, field, ascii]

theorem lookup_eq_none (h : Hyphenation) (w : List (Fin 26)) : (h.lookup w).isSome = false ↔ ∀ e ∈ h.dict, e.word ≠ w := by
  simp [Hyphenation.lookup]

/-- What a DICTADD of the right form comes to (R64). -/
theorem dictAdd_body {w : Text} {ws : List Text} {word : List (Fin 26)} {ps : List Int} (hw : parseWord w = some word)
    (hp : parseNumbers ws = some ps) (s : State) : commandBody .dictAdd (w :: ws) s =
      if word.length < 2 ∨ word.length > 24 ∨ ascending 0 word.length ps = false then refuse .range s
      else if (s.hyu.lookup word).isSome || s.hyu.roomFor word.length then
        (s.withHyu (s.hyu.put { word := word, positions := ps.map Int.toNat }),
          okWith (s.hyu.put { word := word, positions := ps.map Int.toNat }).counts)
      else refuse .full s := by
  simp only [commandBody, dictAddBody, hw, hp]

theorem oneWord_eq {w : Text} {word : List (Fin 26)} (hw : parseWord w = some word) :
    oneWord [w] = if word.length < 2 ∨ word.length > 24 then .error .range else .ok word := by
  simp only [oneWord, hw]

theorem oneWord_of_badSyntax {params : List Text} (h : ∀ w, params = [w] → parseWord w = none) :
    oneWord params = .error .badSyntax := by
  unfold oneWord
  split
  · rw [h _ rfl]
  · rfl

/-- Settles O30: DICTADD's tests by what they say of the entry, and the law of `dictInsert`. -/
theorem dictionaryCommandsWriteOneEntry : Obligations.DictionaryCommandsWriteOneEntry := by
  unfold Obligations.DictionaryCommandsWriteOneEntry
  refine ⟨fun w ws word ps s h hclean hw hp => ?_, fun e d hd => ⟨mem_dictInsert hd, ordered_dictInsert hd, words_dictInsert hd⟩,
    fun params s h => ⟨fun hp => ?_, fun hp => ?_⟩, fun w word s h hclean hw hlen => ?_, fun w word s h hclean hw h2 h24 => ?_,
    fun s h => ?_, fun w ws s h => command_syntax rfl h rfl⟩
  · intro good known
    have hgood : good ↔ ¬ (word.length < 2 ∨ word.length > 24 ∨ ascending 0 word.length ps = false) := by
      simp only [good, not_or, Bool.not_eq_false, ascending_iff, not_lt, gt_iff_lt]
      exact and_congr_right' (and_congr_right' (and_congr_right' (forall₂_congr fun p _ => Iff.rfl)))
    have hknown : known ↔ (s.hyu.lookup word).isSome = true := (lookup_isSome s.hyu word).symm
    have hbody := dictAdd_body hw hp (heard s)
    refine ⟨fun hg => ?_, fun hg hk hroom => ?_, fun hg hk => ?_⟩
    · rw [← no_range]
      exact command_refused rfl h hclean (hbody.trans (if_pos (by_contra fun hn => hg (hgood.mpr hn))))
    · rw [← no_full]
      refine command_refused rfl h hclean (hbody.trans ((if_neg (hgood.mp hg)).trans (if_neg ?_)))
      rw [Bool.or_eq_true, not_or, roomFor_iff]
      exact ⟨fun hs => hk (hknown.mpr hs), fun hr => by simp only [heard_hyu] at hr; omega⟩
    · intro d
      rw [← counts_text]
      refine command_done rfl h hclean h.1 (hbody.trans ((if_neg (hgood.mp hg)).trans (if_pos ?_)))
      rw [Bool.or_eq_true, roomFor_iff]
      exact hk.imp hknown.mp id
  · refine command_syntax rfl h ?_
    cases params with
    | nil => rfl
    | cons w ws =>
      simp only [commandBody, dictAddBody]
      split
      · rename_i word ns hw hn
        rcases hp w ws rfl with hp | hp
        · cases hw.symm.trans hp
        · cases hn.symm.trans hp
      · rfl
  · exact command_syntax rfl h (by simp only [commandBody, dictDelBody, oneWord_of_badSyntax hp])
  · rw [← no_range]
    refine command_refused rfl h (clean_singleton hclean) ?_
    simp only [commandBody, dictDelBody, oneWord_eq hw, if_pos (show word.length < 2 ∨ word.length > 24 from hlen)]
  · have hone : oneWord [w] = .ok word := (oneWord_eq hw).trans (if_neg (by omega))
    refine ⟨fun hk => ?_, fun hk => ?_⟩
    · intro d
      rw [← counts_text]
      refine command_done rfl h (clean_singleton hclean) h.1 ?_
      simp only [commandBody, dictDelBody, hone, heard_hyu, (lookup_isSome s.hyu word).mpr hk, if_true]
      rfl
    · rw [← no_notFound]
      refine command_refused rfl h (clean_singleton hclean) ?_
      simp only [commandBody, dictDelBody, hone, heard_hyu, (lookup_eq_none s.hyu word).mpr hk, Bool.false_eq_true, if_false]
  · refine command_done rfl h rfl h.1 ?_
    simp only [commandBody, dictClearBody, counts_text]
    rfl

theorem entry_text (e : DictEntry) : okWith [e.text] =
    ascii "OK " ++ e.word.map upperLetter ++ ascii ":" ++ joinText (ascii ",") (e.positions.map decimal) := by
  simp [DictEntry.text, okWith, ok, fields, ascii]

/-- The longest listing of at most `n` entries: it fits the payload, and one entry more does not (R66). -/
theorem longestListing_spec (i : Nat) (h : Hyphenation) (n : Nat) : ∃ m ≤ n, h.longestListing i n = h.listing i m ∧
    (m = 0 ∨ (h.listing i m).length ≤ 250) ∧ (m = n ∨ 250 < (h.listing i (m + 1)).length) := by
  induction n with
  | zero => exact ⟨0, le_rfl, rfl, .inl rfl, .inl rfl⟩
  | succ n ih =>
    unfold Hyphenation.longestListing
    split
    · rename_i hfit
      exact ⟨n + 1, le_rfl, rfl, .inr hfit, .inl rfl⟩
    · rename_i hlong
      rw [not_le] at hlong
      obtain ⟨m, hm, e, hfit, hmax⟩ := ih
      refine ⟨m, by omega, e, hfit, .inr ?_⟩
      rcases hmax with rfl | hmax
      · exact hlong
      · exact hmax

/-- The reply to LINE, field by field (R95). -/
theorem summary_eq (r : LineRecord) : r.summary =
    ascii "OK LINE=" ++ decimal r.number ++ ascii " QUAD=" ++ r.quad.name ++ ascii " MEAS=" ++ depthNat r.measure ++
      ascii " IND=" ++ depthNat r.left ++ ascii "," ++ depthNat r.right ++ ascii " MOVE=" ++ r.move.text ++
      ascii " MARKS=" ++ (if r.marks = [] then ascii "-" else (r.marks.map fun k => decimal k.val).flatten) ++
      ascii " CUT=" ++ yesNo r.cutAfter ++ ascii " BREAK=" ++ r.brk.name ++
      ascii " GLUE=" ++ decimal r.glue.n ++ ascii "," ++ depthNat r.glue.base ++ ascii "," ++ decimal r.glue.r ++
      ascii "," ++ depthNat r.glue.ls ++ ascii " FLAGS=" ++
      (if r.flags = [] then ascii "-" else r.flags.map LineFlag.letter) ++ ascii " ELEM=" ++ decimal r.elems.length ++
      ascii " EXP=" ++ r.exp.text r.exposed ++ ascii " PROOF=" ++ r.proof.text ++ ascii " MISS=" ++ decimal r.misses ++
      ascii " BAND=" ++ orElse dash (r.band.map fun b => decimal b.val) ++ ascii " GALLEY=" ++
      orElse dash (r.galley.map decimal) := by
  simp [LineRecord.summary, okWith, ok, fields, field, ascii, joinText, dash]

theorem find_eq_none {st : Store} {n : Int} (h : ∀ r ∈ st.records, (r.number : Int) ≠ n) (hn : 0 ≤ n) :
    st.find n.toNat = none := by
  unfold Store.find
  rw [List.find?_eq_none]
  intro r hr hb
  exact h r hr (by rw [beq_iff_eq.mp hb, Int.toNat_of_nonneg hn])

/-- Settles O31: the entry read, the longest listing that fits, and the record's fields. -/
theorem entryAndLineReadsChangeNothing : Obligations.EntryAndLineReadsChangeNothing := by
  unfold Obligations.EntryAndLineReadsChangeNothing
  refine ⟨⟨fun w word e s h hclean hw h2 h24 => ?_, fun w i s h hclean hw => ⟨fun hi => ?_, fun hi => ?_⟩,
      fun w word s h hclean hw hlen => ?_, fun params s h => ⟨fun hp => ?_, fun hp => ?_⟩⟩, ?_,
    fun w n s h hclean hw => ⟨fun r h1 h2 hf => ?_, fun h1 h2 hf => ?_, fun hn => ?_⟩, fun params s h hp => ?_⟩
  · have hone : oneWord [w] = .ok word := (oneWord_eq hw).trans (if_neg (by omega))
    refine ⟨fun hf => ?_, fun hf => ?_⟩
    · rw [← entry_text]
      exact command_done rfl h (clean_singleton hclean) h.1 (by simp only [commandBody, dictGetBody, hone, heard_hyu, hf])
    · rw [← no_notFound]
      exact command_refused rfl h (clean_singleton hclean) (by simp only [commandBody, dictGetBody, hone, heard_hyu, hf])
  · obtain ⟨m, hm, e, hfit, hmax⟩ := longestListing_spec i s.hyu (min 8 (s.hyu.dict.length - i))
    refine ⟨m, by omega, ?_, by omega, hfit, ?_⟩
    · rw [← e]
      refine command_done rfl h (clean_singleton hclean) h.1 ?_
      have hin : inRange 0 255 (i : Int) = true := (inRange_iff 0 255 i).mpr (by omega)
      simp only [commandBody, dictListBody, hw, hin, if_true]
      rfl
    · rcases hmax with hmax | hmax
      · omega
      · exact .inr (.inr hmax)
  · rw [← no_range]
    refine command_refused rfl h (clean_singleton hclean) ?_
    have hin : inRange 0 255 (i : Int) = false := by
      rw [← Bool.not_eq_true, inRange_iff]
      omega
    simp only [commandBody, dictListBody, hw, hin, Bool.false_eq_true, if_false]
  · rw [← no_range]
    refine command_refused rfl h (clean_singleton hclean) ?_
    simp only [commandBody, dictGetBody, oneWord_eq hw, if_pos (show word.length < 2 ∨ word.length > 24 from hlen)]
  · exact command_syntax rfl h (by simp only [commandBody, dictGetBody, oneWord_of_badSyntax hp])
  · refine command_syntax rfl h ?_
    simp only [commandBody, dictListBody]
    split
    · rw [hp _ rfl]
    · rfl
  · intro depthText
    refine ⟨fun r => ?_, by decide, by decide, by decide⟩
    have hmove (m : Move) : m.text = match m with
        | .lead l => ascii "LEAD:" ++ depthText l
        | .toMark k l => ascii "MARK:" ++ decimal k.val ++ ascii "/" ++ depthText l := by cases m <;> rfl
    have hexp (e : ExpState) : e.text r.exposed = match e with
        | .pending => ascii "PENDING"
        | .inProgress => ascii "IN_PROGRESS:" ++ decimal r.exposed
        | .done => ascii "DONE"
        | .part => ascii "PARTIAL:" ++ decimal r.exposed
        | .notRequired => ascii "NOT_REQUIRED" := by cases e <;> rfl
    have hproof (p : ProofState) : p.text = match p with
        | .pending => ascii "PENDING"
        | .inProgress => ascii "IN_PROGRESS"
        | .done => ascii "DONE"
        | .skipped => ascii "SKIPPED"
        | .notRequired => ascii "NOT_REQUIRED" := by cases p <;> rfl
    have hband (b : Option (Fin 4)) : orElse dash (b.map fun b => decimal b.val) = match b with
        | some b => decimal b.val
        | none => ascii "-" := by cases b <;> rfl
    have hgalley (g : Option Nat) : orElse dash (g.map decimal) = match g with
        | some n => decimal n
        | none => ascii "-" := by cases g <;> rfl
    rw [summary_eq, hmove, hexp, hproof, hband, hgalley, yesNo_eq] <;> rfl
  · refine command_done rfl h (clean_singleton hclean) h.1 ?_
    have hin : inRange 1 65535 n = true := (inRange_iff 1 65535 n).mpr ⟨h1, h2⟩
    simp only [commandBody, lineBody, hw, hin, if_true, heard_sls, hf]
  · rw [← no_notFound]
    refine command_refused rfl h (clean_singleton hclean) ?_
    have hin : inRange 1 65535 n = true := (inRange_iff 1 65535 n).mpr ⟨h1, h2⟩
    simp only [commandBody, lineBody, hw, hin, if_true, heard_sls, find_eq_none hf (by omega)]
  · rw [← no_range]
    refine command_refused rfl h (clean_singleton hclean) ?_
    have hin : inRange 1 65535 n = false := by
      rw [← Bool.not_eq_true, inRange_iff]
      omega
    simp only [commandBody, lineBody, hw, hin, Bool.false_eq_true, if_false]
  · refine command_syntax rfl h ?_
    simp only [commandBody, lineBody]
    split
    · rw [hp _ rfl]
    · rfl

/-! ### The end of a referral (R77 to R80) -/

/-- A decision held by the composer is handed over with the outcome (R77, R80). -/
theorem endReferral_held {s : State} {opp : BreakOpp} (h : s.cmp.task = some (.decision opp)) (how : LastEnd)
    (p : Option Position) (flags : List LineFlag) : endReferral how p flags s =
      ((s.withHyu { s.hyu with referral := none, timer := none, lastEnd := how }).withLink { s.link with refer := none }).withCmp
        { s.cmp with st := .reading, task := some (outcome p flags opp) } := by
  simp [endReferral, h]

/-- Settles O33: DECIDE's cases, and the lapse as the same end with the own choice. -/
theorem decideOrLapseEndsTheReferral : Obligations.DecideOrLapseEndsTheReferral := by
  unfold Obligations.DecideOrLapseEndsTheReferral
  refine ⟨⟨fun w k r opp s h hclean hw hr ht => ?_, fun w k s h hclean hw hr => ?_, fun params s h hp => ?_⟩,
    fun n r opp s hn hr ht => ?_, fun s h => ?_⟩
  · intro ended
    have hbody : commandBody .decideBreak [w] (heard s) =
        if k = 0 then (ended (.noBreak [.referred] opp), ok)
        else if k < 0 then refuse .range (heard s)
        else match r.breakAt k.toNat with
          | some p => if p.fits then (ended (.brk p.brk [.referred] opp), ok) else refuse .range (heard s)
          | none => refuse .range (heard s) := by
      have hend := endReferral_held (s := heard s) ht .decided
      simp only [commandBody, decideBody, hw, heard_hyu, hr, hend]
      rfl
    refine ⟨fun hk => ?_, fun p hk hb hf => ?_, fun hk => ?_⟩
    · exact command_done rfl h (clean_singleton hclean) h.1 (hbody.trans (if_pos hk))
    · refine command_done rfl h (clean_singleton hclean) h.1 (hbody.trans ?_)
      rw [if_neg (by omega), if_neg (by omega), hb]
      exact if_pos hf
    · rw [← no_range]
      refine command_refused rfl h (clean_singleton hclean) (hbody.trans ?_)
      rcases hk with hk | ⟨hk, hf⟩
      · rw [if_neg (by omega), if_pos hk]
      · rw [if_neg (by omega), if_neg (by omega)]
        cases hb : r.breakAt k.toNat with
        | none => rfl
        | some p => exact if_neg (by rw [hf p hb]; decide)
  · have hbody : commandBody .decideBreak [w] (heard s) =
        if s.hyu.lastEnd = .lapsed then refuse .late (heard s) else refuse .noRefer (heard s) := by
      simp only [commandBody, decideBody, hw, heard_hyu, hr]
      rfl
    rw [← no_late, ← no_noRefer]
    split
    · exact command_refused rfl h (clean_singleton hclean) (hbody.trans (if_pos (by assumption)))
    · exact command_refused rfl h (clean_singleton hclean) (hbody.trans (if_neg (by assumption)))
  · refine command_syntax rfl h ?_
    simp only [commandBody, decideBody]
    split
    · rw [hp _ rfl]
    · rfl
  · show Host.Outcome.next (finish s (referralExpires s)) = _
    simp only [referralExpires, hn, hr, endReferral_held ht]
    cases r.breakAt r.own <;> rfl
  · show Host.Outcome.next (finish s (referralExpires s)) = _
    have hsame : referralExpires s = s := by
      unfold referralExpires
      split
      · rename_i hn hr
        rcases h with h | h
        · cases h.symm.trans hn
        · cases h.symm.trans hr
      · rfl
    rw [hsame]

end Sys2Proof.Machine
end

section
/-! PROOF. The font and lens tables (R105 to R107, R109) and the lens a size resolves to (R110). -/

namespace Sys2Proof.Machine

-- One declaration at a time: it keeps the threads, and with them the memory, of the compile small.
set_option Elab.async false

/-! ### Numbers as indices -/

theorem asFin_val {n : Nat} (i : Fin n) : asFin n (i.val : Int) = some i := by
  unfold asFin
  rw [dif_pos ⟨Int.natCast_nonneg _, i.isLt⟩]
  rfl

theorem inRange_eq_false {low high v : Int} (h : v < low ∨ high < v) : inRange low high v = false := by
  rw [← Bool.not_eq_true, inRange_iff]
  omega

theorem inRange_eq_true {low high v : Int} (h1 : low ≤ v) (h2 : v ≤ high) : inRange low high v = true :=
  (inRange_iff low high v).mpr ⟨h1, h2⟩

/-! ### The width table (R106) -/

theorem writeWidths_get (ws : List Nat) : ∀ (i : Nat) (v : Vector Nat 95) (k : Fin 95),
    (writeWidths i ws v).get k = if i ≤ k.val ∧ k.val < i + ws.length then ws.getD (k.val - i) 0 else v.get k := by
  induction ws with
  | nil =>
    intro i v k
    rw [writeWidths, if_neg]
    simp
  | cons w ws ih =>
    intro i v k
    rw [writeWidths, ih, List.length_cons]
    have hset : (v.setIfInBounds i w).get k = if i = k.val then w else v.get k := by
      simp [Vector.get_eq_getElem, Vector.getElem_setIfInBounds]
    rw [hset]
    by_cases hik : i = k.val
    · rw [if_neg (by omega), if_pos hik, if_pos (by omega), hik, Nat.sub_self]
      rfl
    · by_cases hin : i + 1 ≤ k.val ∧ k.val < i + 1 + ws.length
      · rw [if_pos hin, if_pos (by omega), show k.val - i = (k.val - (i + 1)) + 1 by omega]
        rfl
      · rw [if_neg hin, if_neg hik, if_neg (by omega)]

/-- Settles O37: the tests of the three bodies in their order, and the table with one mount written. -/
theorem fontCommandsWriteOneMount : Obligations.FontCommandsWriteOneMount := by
  unfold Obligations.FontCommandsWriteOneMount
  refine ⟨fun wm wc ws wp m code style phase s h hclean hm hc hs hp => ?_, fun w m s h hclean hw => ⟨fun hr => ?_, fun hr => ?_⟩,
    fun ws m first vs s h hclean hn h1 h40 hf hlast hv => ?_, fun m n x o => ⟨setMount_mount o m n x, rfl⟩⟩
  · intro x u
    have hbody : commandBody .face [wm, wc, ws, wp] (heard s) =
        if !(inRange 1 255 code && inRange (-16) 15 phase) then refuse .range (heard s)
        else if mountReferenced m s then refuse .inUse (heard s)
        else (retrySetup u, okWith [field "MOUNT" (decimal m.val), field "STATE" x.state.name]) := by
      simp only [commandBody, faceBody, hm, hc, hs, hp, asFin_val]
      rfl
    refine ⟨fun c1 c2 p1 p2 hr => ?_, fun c1 c2 p1 p2 hr => ?_, fun hout => ?_⟩
    · have htext : okWith [field "MOUNT" (decimal m.val), field "STATE" x.state.name] =
          ascii "OK MOUNT=" ++ decimal m.val ++ ascii " STATE=" ++ x.state.name := by
        simp [okWith, ok, fields, field, ascii]
      rw [← htext]
      refine command_done rfl h hclean (by split <;> exact h.1) (hbody.trans ?_)
      rw [inRange_eq_true c1 c2, inRange_eq_true p1 p2, hr]
      rfl
    · rw [← no_inUse]
      refine command_refused rfl h hclean (hbody.trans ?_)
      rw [inRange_eq_true c1 c2, inRange_eq_true p1 p2, hr]
      rfl
    · rw [← no_range]
      refine command_refused rfl h hclean (hbody.trans (if_pos ?_))
      rcases hout with hout | hout | hout | hout
      · rw [inRange_eq_false (.inl hout)]; rfl
      · rw [inRange_eq_false (.inr hout)]; rfl
      · rw [inRange_eq_false (low := -16) (.inl hout), Bool.and_false]; rfl
      · rw [inRange_eq_false (low := -16) (.inr hout), Bool.and_false]; rfl
  · have htext : okWith [field "MOUNT" (decimal m.val), field "STATE" (ascii "EMPTY")] =
        ascii "OK MOUNT=" ++ decimal m.val ++ ascii " STATE=EMPTY" := by
      simp [okWith, ok, fields, field, ascii]
    rw [← htext]
    refine command_done rfl h (clean_singleton hclean) h.1 ?_
    have hr : mountReferenced m (heard s) = false := hr
    simp only [commandBody, unmountBody, hw, asFin_val, hr]
    rfl
  · rw [← no_inUse]
    refine command_refused rfl h (clean_singleton hclean) ?_
    have hr : mountReferenced m (heard s) = true := hr
    simp only [commandBody, unmountBody, hw, asFin_val, hr, if_true]
  · have hlen : vs.length + 2 = ws.length := length_of_mapM hn
    have hrange : (inRange 1 95 first && decide (first + vs.length - 1 ≤ 95) && vs.all (inRange 0 96)) = true := by
      rw [Bool.and_eq_true, Bool.and_eq_true, decide_eq_true_eq, List.all_eq_true]
      exact ⟨⟨inRange_eq_true hf (by omega), by omega⟩, fun v hm => inRange_eq_true (hv v hm).1 (hv v hm).2⟩
    let x : Mount := { s.opc.mount m with widths := writeWidths (first.toNat - 1) (vs.map Int.toNat) (s.opc.mount m).widths }
    have hbody : commandBody .widths ws (heard s) =
        if (s.opc.mount m).state = .empty then refuse .state (heard s)
        else if mountReferenced m s then refuse .inUse (heard s)
        else ((heard s).withOpc (s.opc.setMount m x), okWith [field "MOUNT" (decimal m.val), field "DEFINED" (decimal x.defined)]) := by
      simp only [commandBody, widthsBody, if_neg (show ¬ (ws.length < 3 ∨ ws.length > 42) by omega), hn, asFin_val, hrange]
      rfl
    refine ⟨fun hst => ?_, fun hst hr => ?_, fun hst hr => ⟨x, ?_, rfl, fun i => ?_⟩⟩
    · rw [← no_state]
      exact command_refused rfl h hclean (hbody.trans (if_pos hst))
    · rw [← no_inUse]
      exact command_refused rfl h hclean (hbody.trans ((if_neg hst).trans (if_pos hr)))
    · have htext : okWith [field "MOUNT" (decimal m.val), field "DEFINED" (decimal x.defined)] =
          ascii "OK MOUNT=" ++ decimal m.val ++ ascii " DEFINED=" ++ decimal x.defined := by
        simp [okWith, ok, fields, field, ascii]
      rw [← htext]
      exact command_done rfl h hclean h.1 (hbody.trans ((if_neg hst).trans (if_neg (by rw [hr]; decide))))
    · show (writeWidths (first.toNat - 1) (vs.map Int.toNat) (s.opc.mount m).widths).get i = _
      rw [writeWidths_get, getD_map_toNat, List.length_map, show i.val - (first.toNat - 1) = i.val + 1 - first.toNat by omega]
      by_cases hin : first.toNat ≤ i.val + 1 ∧ i.val + 1 < first.toNat + vs.length
      · rw [if_pos hin, if_pos (by omega)]
      · rw [if_neg hin, if_neg (by omega)]

/-! ### The turret's table (R109) -/

/-- Settles O38: the tests of LENS in their order, and the table with one position written. -/
theorem lensWritesOnePosition : Obligations.LensWritesOnePosition := by
  unfold Obligations.LensWritesOnePosition
  intro wp ws p size s h hclean hp hs
  have hbody : commandBody .lens [wp, ws] (heard s) =
      if !(size == 0 || inRange 10 144 size) then refuse .range (heard s)
      else if lensReferenced p s then refuse .inUse (heard s)
      else (retrySetup ((heard s).withOpc (s.opc.setLens p size.toNat)),
        okWith [field "LENS" (decimal p.val), field "SIZE" (decimal size.toNat)]) := by
    simp only [commandBody, lensBody, hp, hs, asFin_val]
    rfl
  have hgood (hsize : size = 0 ∨ (10 ≤ size ∧ size ≤ 144)) : ¬ (!(size == 0 || inRange 10 144 size)) = true := by
    rcases hsize with rfl | ⟨h1, h2⟩
    · decide
    · rw [inRange_eq_true h1 h2, Bool.or_true]
      decide
  refine ⟨fun hsize hr => ⟨s.opc.setLens p size.toNat, ?_, rfl, fun q => setLens_size _ p q _⟩, fun hsize hr => ?_, fun h0 hsize => ?_⟩
  · have htext : okWith [field "LENS" (decimal p.val), field "SIZE" (decimal size.toNat)] =
        ascii "OK LENS=" ++ decimal p.val ++ ascii " SIZE=" ++ decimal size.toNat := by
      simp [okWith, ok, fields, field, ascii]
    rw [← htext]
    exact command_done rfl h hclean (by split <;> exact h.1)
      (hbody.trans ((if_neg (hgood hsize)).trans (if_neg (by rw [hr]; decide))))
  · rw [← no_inUse]
    exact command_refused rfl h hclean (hbody.trans ((if_neg (hgood hsize)).trans (if_pos hr)))
  · rw [← no_range]
    refine command_refused rfl h hclean (hbody.trans (if_pos ?_))
    rw [inRange_eq_false hsize, Bool.or_false]
    simpa using h0

/-! ### The lens of a size (R110) -/

/-- Size `a` is nearer to the requested one than `b`, or as near and no larger. -/
def NoWorse (req a b : Nat) : Prop :=
  sizeDistance req a < sizeDistance req b ∨ (sizeDistance req a = sizeDistance req b ∧ a ≤ b)

theorem sizeDistance_eq (req a : Nat) : sizeDistance req a = ((a : Int) - req).natAbs := by
  unfold sizeDistance
  split <;> omega

theorem NoWorse.refl (req a : Nat) : NoWorse req a a := .inr ⟨rfl, le_rfl⟩

theorem NoWorse.trans {req a b c : Nat} (h : NoWorse req a b) (h' : NoWorse req b c) : NoWorse req a c := by
  unfold NoWorse at *
  omega

/-- One size more considered: the better of the two (R110). -/
theorem nearer_cases (req : Nat) (best : Option Nat) (size : Nat) :
    (size = 0 ∧ nearer req best size = best) ∨
      (size ≠ 0 ∧ nearer req best size = some size ∧ ∀ b, best = some b → NoWorse req size b) ∨
      ∃ b, size ≠ 0 ∧ best = some b ∧ nearer req best size = some b ∧ NoWorse req b size := by
  unfold nearer
  by_cases h0 : size = 0
  · exact .inl ⟨h0, if_pos h0⟩
  · rw [if_neg h0]
    cases best with
    | none => exact .inr (.inl ⟨h0, rfl, fun _ h => nomatch h⟩)
    | some b =>
      dsimp only
      split
      · rename_i hlt
        refine .inr (.inl ⟨h0, rfl, fun c hc => ?_⟩)
        cases hc
        unfold NoWorse
        omega
      · rename_i hge
        refine .inr (.inr ⟨b, h0, rfl, rfl, ?_⟩)
        unfold NoWorse
        omega

/-- The best of a list of positions: a size that one of them holds, or the best before them, and none is better. -/
theorem foldl_nearer (o : Optics) (req : Nat) (ps : List (Fin 8)) : ∀ best : Option Nat, (∀ b, best = some b → b ≠ 0) →
    (ps.foldl (fun best p => nearer req best (o.lensSize p)) best = none ↔ best = none ∧ ∀ p ∈ ps, o.lensSize p = 0) ∧
      ∀ size, ps.foldl (fun best p => nearer req best (o.lensSize p)) best = some size →
        size ≠ 0 ∧ (best = some size ∨ ∃ p ∈ ps, o.lensSize p = size) ∧ (∀ b, best = some b → NoWorse req size b) ∧
          ∀ p ∈ ps, o.lensSize p ≠ 0 → NoWorse req size (o.lensSize p) := by
  induction ps with
  | nil =>
    intro best hbest
    refine ⟨by simp, fun size h => ⟨hbest size h, .inl h, fun b hb => ?_, by simp⟩⟩
    obtain rfl : size = b := Option.some.inj (h.symm.trans hb)
    exact .refl req size
  | cons p ps ih =>
    intro best hbest
    rw [List.foldl_cons]
    rcases nearer_cases req best (o.lensSize p) with ⟨h0, e⟩ | ⟨h0, e, hbetter⟩ | ⟨b, h0, hb, e, hbetter⟩ <;> rw [e]
    · obtain ⟨hnone, hsome⟩ := ih best hbest
      refine ⟨by rw [hnone]; simp [h0], fun size h => ?_⟩
      obtain ⟨hs, hfrom, hbst, hall⟩ := hsome size h
      refine ⟨hs, hfrom.imp_right fun ⟨q, hq, hqs⟩ => ⟨q, List.mem_cons_of_mem p hq, hqs⟩, hbst, ?_⟩
      exact List.forall_mem_cons.mpr ⟨fun hne => absurd h0 hne, hall⟩
    · obtain ⟨hnone, hsome⟩ := ih (some (o.lensSize p)) fun b hb => Option.some.inj hb ▸ h0
      refine ⟨by rw [hnone]; simp [h0], fun size h => ?_⟩
      obtain ⟨hs, hfrom, hbst, hall⟩ := hsome size h
      have hp := hbst _ rfl
      refine ⟨hs, .inr ?_, fun b hb => hp.trans (hbetter b hb), List.forall_mem_cons.mpr ⟨fun _ => hp, hall⟩⟩
      rcases hfrom with hfrom | ⟨q, hq, hqs⟩
      · exact ⟨p, List.mem_cons_self, Option.some.inj hfrom⟩
      · exact ⟨q, List.mem_cons_of_mem p hq, hqs⟩
    · obtain ⟨hnone, hsome⟩ := ih (some b) fun c hc => hbest c (hb.trans hc)
      refine ⟨by rw [hnone]; simp [hb], fun size h => ?_⟩
      obtain ⟨hs, hfrom, hbst, hall⟩ := hsome size h
      refine ⟨hs, ?_, fun c hc => hbst c (hb.symm.trans hc), List.forall_mem_cons.mpr ⟨fun _ => (hbst b rfl).trans hbetter, hall⟩⟩
      exact (hfrom.imp_left hb.trans).imp_right fun ⟨q, hq, hqs⟩ => ⟨q, List.mem_cons_of_mem p hq, hqs⟩

theorem mem_lensPositions (p : Fin 8) : p ∈ lensPositions := by revert p; decide

/-- The first position of a size is the lowest one. -/
theorem find_lensPositions {o : Optics} {size : Nat} {p : Fin 8}
    (h : (lensPositions.find? fun p => o.lensSize p == size) = some p) :
    o.lensSize p = size ∧ ∀ q, o.lensSize q = size → p ≤ q := by
  obtain ⟨hp, as, bs, hsplit, has⟩ := List.find?_eq_some_iff_append.mp h
  refine ⟨beq_iff_eq.mp hp, fun q hq => ?_⟩
  have hsorted : lensPositions.Pairwise (· ≤ ·) := by decide
  rw [hsplit, List.pairwise_append, List.pairwise_cons] at hsorted
  have hmem : q ∈ as ++ p :: bs := hsplit ▸ mem_lensPositions q
  rcases List.mem_append.mp hmem with hq' | hq'
  · have := has q hq'
    simp [hq] at this
  · rcases List.mem_cons.mp hq' with rfl | hq'
    · exact le_rfl
    · exact hsorted.2.1.1 q hq'

/-- Settles O39: the fold's best size, and its lowest position. -/
theorem sizesResolveToTheNearestLens : Obligations.SizesResolveToTheNearestLens := by
  unfold Obligations.SizesResolveToTheNearestLens
  intro o req hreq
  obtain ⟨hnone, hsome⟩ := foldl_nearer o req lensPositions none (by simp)
  unfold Optics.resolve
  cases hbest : lensPositions.foldl (fun best p => nearer req best (o.lensSize p)) none with
  | none =>
    obtain ⟨_, hall⟩ := hnone.mp hbest
    exact ⟨by simpa using fun p => hall p (mem_lensPositions p), fun l subst h => nomatch h⟩
  | some size =>
    obtain ⟨hs, hfrom, _, hall⟩ := hsome size hbest
    obtain ⟨p, _, hp⟩ := hfrom.resolve_left (by simp)
    refine ⟨?_, fun l subst h => ?_⟩
    · refine iff_of_false (fun h => ?_) fun h => hs (hp ▸ h p)
      rw [Option.map_eq_none_iff, List.find?_eq_none] at h
      exact h p (mem_lensPositions p) (beq_iff_eq.mpr hp)
    · obtain ⟨q, hq, e⟩ := Option.map_eq_some_iff.mp h
      cases e
      obtain ⟨hsize, hlow⟩ := find_lensPositions hq
      have hnear (r : Fin 8) (hr : o.lensSize r ≠ 0) : NoWorse req size (o.lensSize r) := hall r (mem_lensPositions r) hr
      have hexact : (size != req) = false ↔ size = req := by simp
      refine ⟨hs, hsize, hlow, ?_, hexact.mp, fun r hr => ?_⟩
      · rw [hexact]
        refine ⟨fun e => ⟨q, hsize.trans e⟩, fun ⟨r, hr⟩ => ?_⟩
        have := hnear r (by omega)
        simp only [NoWorse, hr, sizeDistance_eq] at this
        omega
      · have := hnear r hr
        simpa only [NoWorse, sizeDistance_eq] using this

end Sys2Proof.Machine
end

section
/-! PROOF. The drum: SURVEY, REST, WAKE and the rest timer (R117 to R121, R183 to R185), the drum index (R118, R181), drum stalls
(R181, R182), and the sensors' levels (R114 to R116, R148, R150). -/

namespace Sys2Proof.Machine

-- One declaration at a time: it keeps the threads, and with them the memory, of the compile small.
set_option Elab.async false

/-! ### Survey, rest and wake -/

theorem cancelCountdown_of_ne {s : State} (st : ExcState) (h : s.exc.st ≠ .armed) : cancelCountdown st s = s := if_neg h

theorem mech_request_rest {m : MechState} (k : Mechanism) (b : Requester) (t : Nat) (h : m.flight = none) :
    m.request k b t = startOrRest k m.held b t m.waiting := by
  simp only [MechState.request, h]

theorem esc_request_rest {e : Escapement} (x : Nat) (why : EscMove) (h : e.flight = none) :
    e.request x why = if e.held = some x then e else { e with held := none, flight := some (x, why) } := by
  simp only [Escapement.request, h]

/-- A rested drum, with the survey it cuts short (R184). -/
theorem restDrum_eq {s : State} (ha : s.exc.st ≠ .armed) (hf : s.exc.esc.flight = none) : restDrum s =
    ((s.withOpc { surveyCut s.opc with
      drum := .stopped, spinTimer := false, intervals := 0, indexSeen := false, stallMonitor := false, survey := none
      resting := true, restTimer := none }).withExc
        { s.exc with
          lamp := .off
          esc := if s.exc.esc.held = some 0 then s.exc.esc
            else { s.exc.esc with held := none, flight := some (0, .park) } }).withLink (s.link.raise .rest) := by
  rw [← esc_request_rest 0 .park hf]
  unfold restDrum stopDrum
  rw [cancelCountdown_of_ne .held ha]
  rfl

theorem restConditions_iff (s : State) : restConditions s = true ↔
    s.cmp.st = .idle ∧ s.hyu.referral = none ∧ (∀ r ∈ s.sls.records, r.exp ≠ .pending ∧ r.exp ≠ .inProgress) ∧
      (s.ftc.st = .ready ∨ s.ftc.st = .noCassette) := by
  simp [restConditions, and_assoc]

/-- The rest timer runs where the conditions hold of a drum that is not resting and has an interval (R183). -/
theorem restService_runs {s : State} (hc : restConditions s = true) (hr : s.opc.resting = false)
    (hi : s.opc.restInterval ≠ 0) :
    (s.opc.restTimer = none → restService s = s.withOpc { s.opc with restTimer := some s.opc.restInterval }) ∧
      (s.opc.restTimer ≠ none → restService s = s) := by
  have hcond : (restConditions s && !s.opc.resting && s.opc.restInterval != 0) = true := by simp [hc, hr, hi]
  unfold restService
  rw [if_pos hcond]
  cases s.opc.restTimer with
  | none => exact ⟨fun _ => rfl, fun h => absurd rfl h⟩
  | some n => exact ⟨fun h => (nomatch h), fun _ => rfl⟩

theorem restService_stops {s : State} (h : restConditions s = false ∨ s.opc.resting = true ∨ s.opc.restInterval = 0) :
    restService s = s.withOpc { s.opc with restTimer := none } :=
  if_neg (by rcases h with h | h | h <;> simp [h])

theorem takeSurvey_beforeSpeed {s : State} (hd : s.opc.drum = .stopped ∨ s.opc.drum = .spinningUp) :
    takeSurvey s = s.withOpc { s.opc with surveyRequest := true, resting := false } := by
  unfold takeSurvey
  rcases hd with hd | hd <;> rw [hd] <;> rfl

theorem takeSurvey_surveying {s : State} (hd : s.opc.drum = .surveying) :
    takeSurvey s = s.withOpc { s.opc with resting := false } := by
  unfold takeSurvey
  rw [hd]
  rfl

/-- A survey begun with no countdown armed (R117). -/
theorem beginSurvey_eq {s : State} (ha : s.exc.st ≠ .armed) : beginSurvey s = s.withOpc
    { s.opc with
      drum := .surveying, stallMonitor := true, survey := some { pos := 0, stage := .shifting }
      strip := s.opc.strip.request .strip .survey 0 } := by
  unfold beginSurvey
  rw [cancelCountdown_of_ne .held ha]
  rfl

/-- A SURVEY at speed begins at once (R117, R119). -/
theorem takeSurvey_atSpeed {s : State} (hd : s.opc.drum = .atSpeed) (ha : s.exc.st ≠ .armed) :
    takeSurvey s = s.withOpc
      { s.opc with
        drum := .surveying, stallMonitor := true, resting := false, survey := some { pos := 0, stage := .shifting }
        strip := s.opc.strip.request .strip .survey 0 } := by
  have htake : takeSurvey s = wake (beginSurvey s) := by
    unfold takeSurvey
    rw [hd]
  rw [htake, beginSurvey_eq ha]
  rfl

/-- A SURVEY with no line in progress (R119). -/
theorem survey_event {s : State} (h : LinkReady s) (hp : s.exc.ptr = none)
    (hr : (takeSurvey (heard s)).link.resetTaken = false) :
    exec (.survey []) s = .next (finish s (answered (ascii "OK") (takeSurvey (heard s)))) :=
  command_done rfl h rfl hr (if_neg (by simp [hp]))

theorem restDrum_resetTaken (s : State) : (restDrum s).link.resetTaken = s.link.resetTaken := by
  have hstop : (stopDrum s).link = s.link := by simp
  exact (link_raise_reported .rest (stopDrum s).link).resetTaken.trans (congrArg Link.resetTaken hstop)

/-- Settles O41: the bodies of SURVEY, REST and WAKE by the drum's state, and the rest timer by its conditions. -/
theorem surveyRestAndWakeMoveTheDrum : Obligations.SurveyRestAndWakeMoveTheDrum := by
  unfold Obligations.SurveyRestAndWakeMoveTheDrum
  refine ⟨fun s h => ⟨fun hp => ?_, fun hp hd => ?_, fun hp hd => ?_, fun hp hd ha => ?_, ?_⟩,
    fun s h => ⟨fun hc => ?_, fun hc hr => ?_, fun hc hr => ?_⟩, fun s => ⟨restConditions_iff s, fun hc hr hi => ?_, fun hc => ?_⟩,
    fun s => ⟨fun ht => ?_, fun ht => ?_⟩, fun s ha hf => ?_, fun w ws c s h hc => ?_⟩
  · rw [← no_busy]
    exact command_refused rfl h rfl (if_pos (Option.isSome_iff_ne_none.mpr hp))
  · have htake := takeSurvey_beforeSpeed (s := heard s) hd
    rw [survey_event h hp (by rw [htake]; exact h.1), htake]
    rfl
  · have htake := takeSurvey_surveying (s := heard s) hd
    rw [survey_event h hp (by rw [htake]; exact h.1), htake]
    rfl
  · have htake := takeSurvey_atSpeed (s := heard s) hd ha
    rw [survey_event h hp (by rw [htake]; exact h.1), htake]
    rfl
  · exact command_done rfl h rfl h.1 rfl
  · rw [← no_busy]
    exact command_refused rfl h rfl (if_neg (by rw [show restConditions (heard s) = false from hc]; decide))
  · refine command_done rfl h rfl h.1 ((if_pos hc).trans ?_)
    rw [if_pos (show (heard s).opc.resting = true from hr)]
    rfl
  · refine command_done rfl h rfl ?_ ((if_pos hc).trans ?_)
    · rw [restDrum_resetTaken]
      exact h.1
    · rw [if_neg (by rw [show (heard s).opc.resting = false from hr]; decide)]
      rfl
  · exact restService_runs ((restConditions_iff s).mpr hc) hr hi
  · refine restService_stops (hc.imp_left fun hc => ?_)
    rw [← Bool.not_eq_true, restConditions_iff]
    exact hc
  · show Host.Outcome.next (finish s (restExpires s)) = _
    rw [restExpires, if_pos (Option.isSome_iff_ne_none.mpr ht)]
  · show Host.Outcome.next (finish s (restExpires s)) = _
    rw [restExpires, if_neg (by simp [ht])]
  · rw [restDrum_eq ha hf]
    unfold surveyCut
    cases s.opc.survey <;> rfl
  · rcases hc with rfl | rfl | rfl <;> exact command_syntax rfl h rfl

/-! ### The ends of mechanism operations -/

/-- An event of the machine's own, by what it leaves. -/
theorem exec_event {c : Instr} {s u v : State} (h : exec c s = event s u) (e : u = v) : exec c s = .next (finish s v) := by
  rw [h, e]
  rfl

theorem withdraw_eq_self {m : MechState} (h : m.waiting = []) : m.withdraw = m := by
  unfold MechState.withdraw
  rw [h, List.filter_nil, ← h]

theorem esc_withdraw_eq_self {e : Escapement} (h : e.waiting = []) : e.withdraw = e := by
  unfold Escapement.withdraw
  rw [h, List.filter_nil, ← h]

/-- A fault of the line in progress (R141). -/
theorem lineFault_eq {s : State} {n : Nat} (hp : s.exc.ptr = some n) (kind : ExposureKind) (stage : Stage) :
    lineFault kind stage s = withdrawRequests (((exposureFault kind s).withExc
      { s.exc with st := .faulted, stage := stage, armed := none, flash := none })) := by
  have hptr : ¬ (exposureFault kind s).exc.ptr.isNone = true := by
    rw [show (exposureFault kind s).exc = s.exc from rfl, hp]
    exact Bool.false_ne_true
  exact if_neg hptr

/-- With no request waiting at a mechanism, only the escapement's are withdrawn. -/
theorem withdrawRequests_eq {s : State} (h1 : s.opc.strip.waiting = []) (h2 : s.opc.prism.waiting = [])
    (h3 : s.opc.turret.waiting = []) : withdrawRequests s = s.withExc { s.exc with esc := s.exc.esc.withdraw } := by
  simp only [withdrawRequests, withdraw_eq_self h1, withdraw_eq_self h2, withdraw_eq_self h3]
  rfl

theorem mechComplete_eq {k : Mechanism} {f : Flight} {s : State} (hf : (s.opc.mech k).flight = some f)
    (hw : (s.opc.mech k).waiting = []) :
    mechComplete k s = s.withOpc (s.opc.setMech k { held := some f.target, flight := none, waiting := [] }) := by
  simp only [mechComplete, hf, hw, serveWaiting]

/-- A mechanism's timeout with no request waiting at it (R113). -/
theorem mechTimeout_eq {k : Mechanism} {f : Flight} {s : State} (hf : (s.opc.mech k).flight = some f)
    (hw : (s.opc.mech k).waiting = []) :
    mechTimeout k s =
      let s1 := mechFailed k f (s.withOpc (s.opc.setMech k { held := none, flight := none, waiting := [] }))
      s1.withOpc (s1.opc.setMech k (serveWaiting k none (s1.opc.mech k).waiting)) := by
  simp only [mechTimeout, hf, hw]

/-- A timeout of the survey's operation leaves the survey waiting (R120). -/
theorem mechTimeout_survey {k : Mechanism} {f : Flight} {s : State} {v : Survey} (hf : (s.opc.mech k).flight = some f)
    (hw : (s.opc.mech k).waiting = []) (hb : f.by_ = .survey) (hv : s.opc.survey = some v) :
    mechTimeout k s = (s.withOpc { s.opc.setMech k { held := none, flight := none, waiting := [] } with
      survey := some { v with stage := .failed } }).withLink
        (({ s.link with exposure := s.link.exposure.record ExposureKind.all (mechKind k) (s.exc.ptr.getD 0) } : Link).raise
          .xfault) := by
  rw [mechTimeout_eq hf hw]
  cases k <;> simp only [mechFailed, hb, exposureFault_frame, State.withOpc_opc, Optics.setMech, hv] <;> rfl

/-- A timeout of the Exposure Controller's operation is a fault of its line (R141). -/
theorem mechTimeout_exposure {k : Mechanism} {f : Flight} {s : State} {n : Nat} (hf : (s.opc.mech k).flight = some f)
    (hb : f.by_ = .exposure) (hn : s.exc.ptr = some n) (h1 : s.opc.strip.waiting = []) (h2 : s.opc.prism.waiting = [])
    (h3 : s.opc.turret.waiting = []) (h4 : s.exc.esc.waiting = []) :
    mechTimeout k s = ((s.withOpc (s.opc.setMech k { held := none, flight := none, waiting := [] })).withExc
      { s.exc with st := .faulted, stage := .prepare, armed := none, flash := none }).withLink
        (({ s.link with exposure := s.link.exposure.record ExposureKind.all (mechKind k) n } : Link).raise .xfault) := by
  have hw : (s.opc.mech k).waiting = [] := by cases k <;> assumption
  rw [mechTimeout_eq hf hw]
  set s0 := s.withOpc (s.opc.setMech k { held := none, flight := none, waiting := [] })
  have hfault : mechFailed k f s0 = (exposureFault (mechKind k) s0).withExc
      { s.exc with st := .faulted, stage := .prepare, armed := none, flash := none } := by
    simp only [mechFailed, hb]
    rw [lineFault_eq (s := s0) hn, withdrawRequests_eq]
    · show State.withExc _ { s.exc with st := .faulted, stage := .prepare, armed := none, flash := none, esc := s.exc.esc.withdraw } = _
      rw [esc_withdraw_eq_self h4]
      rfl
    all_goals cases k <;> first | rfl | assumption
  rw [hfault]
  cases k <;> simp [s0, exposureFault, raise, hn] <;> rfl

/-- A timeout of the park's move is recorded and leaves the Exposure Controller's state (R129). -/
theorem escTimeout_park {s : State} {x : Nat} (hf : s.exc.esc.flight = some (x, .park)) : escTimeout s =
    (s.withExc { s.exc with esc := s.exc.esc.ended none }).withLink
      (({ s.link with exposure := s.link.exposure.record ExposureKind.all .escape (s.exc.ptr.getD 0) } : Link).raise
        .xfault) := by
  simp only [escTimeout, hf]
  rfl

/-- A timeout of an element's move is a fault of its line (R129, R141). -/
theorem escTimeout_element {s : State} {x n : Nat} (hf : s.exc.esc.flight = some (x, .element)) (hn : s.exc.ptr = some n)
    (h1 : s.opc.strip.waiting = []) (h2 : s.opc.prism.waiting = []) (h3 : s.opc.turret.waiting = []) : escTimeout s =
    (s.withExc { s.exc with
      st := .faulted, stage := .prepare, armed := none, flash := none, esc := s.exc.esc.withdraw.ended none }).withLink
        (({ s.link with exposure := s.link.exposure.record ExposureKind.all .escape n } : Link).raise .xfault) := by
  simp only [escTimeout, hf]
  set s0 := s.withExc { s.exc with esc := { s.exc.esc with held := none, flight := none } }
  have hfault : lineFault .escape .prepare s0 = (exposureFault .escape s0).withExc
      { s.exc with
        st := .faulted, stage := .prepare, armed := none, flash := none
        esc := { s.exc.esc.withdraw with held := none, flight := none } } := by
    rw [lineFault_eq (s := s0) hn, withdrawRequests_eq (by exact h1) (by exact h2) (by exact h3)]
    rfl
  rw [hfault]
  simp [s0, exposureFault, raise, hn]
  rfl

theorem escComplete_eq {s : State} {x : Nat} {why : EscMove} (hf : s.exc.esc.flight = some (x, why)) :
    escComplete s = s.withExc { s.exc with esc := s.exc.esc.ended (some x) } := by
  simp only [escComplete, hf]

/-- The turret's way between two positions (R112). -/
theorem driveFor_turret (c t : Fin 8) : driveFor .turret (some c.val) t.val =
    if (t.val + 8 - c.val) % 8 ≤ 4 then .forward ((t.val + 8 - c.val) % 8)
    else .backward (8 - (t.val + 8 - c.val) % 8) := by
  simp only [driveFor, Nat.mod_eq_of_lt c.isLt]

/-- Settles O42: each mechanism's end by its requester, the escapement's by what its move was for. -/
theorem mechanismsEndAtTheirTarget : Obligations.MechanismsEndAtTheirTarget := by
  unfold Obligations.MechanismsEndAtTheirTarget
  refine ⟨⟨fun k f s hf hw => ⟨?_, fun hb v hv => ?_, fun hb n hn h1 h2 h3 h4 => ?_⟩, fun k s hf => ⟨?_, ?_⟩,
      ⟨rfl, rfl, rfl⟩, fun k b t m => ⟨fun hf => ?_, fun hf ht => ?_, fun hf ht => ?_⟩, fun c t => ⟨driveFor_turret c t, rfl⟩⟩,
    fun x why s hf => ⟨?_, fun hy => ?_, fun hy n hn h1 h2 h3 => ?_⟩, fun held e => ⟨fun hw => ?_, fun x why ws hw => ?_⟩,
    fun s hf => ⟨?_, ?_⟩, fun x why e => ⟨fun hf => ?_, fun hf => esc_request_rest x why hf⟩⟩
  · exact exec_event rfl (mechComplete_eq hf hw)
  · exact exec_event rfl (mechTimeout_survey hf hw hb hv)
  · exact exec_event rfl (mechTimeout_exposure hf hb hn h1 h2 h3 h4)
  · exact exec_event (u := mechComplete k s) rfl (by simp only [mechComplete, hf])
  · exact exec_event (u := mechTimeout k s) rfl (by simp only [mechTimeout, hf])
  · obtain ⟨f, hf⟩ := Option.ne_none_iff_exists'.mp hf
    simp only [MechState.request, hf]
  · rw [mech_request_rest k b t hf, startOrRest, if_pos ht, ← hf]
  · rw [mech_request_rest k b t hf, startOrRest, if_neg ht]
  · exact exec_event rfl (escComplete_eq hf)
  · subst hy
    exact exec_event rfl (escTimeout_park hf)
  · subst hy
    exact exec_event rfl (escTimeout_element hf hn h1 h2 h3)
  · rw [Escapement.ended, hw, serveEscapement]
  · simp only [Escapement.ended, hw, serveEscapement]
  · exact exec_event (u := escComplete s) rfl (by simp only [escComplete, hf])
  · exact exec_event (u := escTimeout s) rfl (by simp only [escTimeout, hf])
  · obtain ⟨f, hf⟩ := Option.ne_none_iff_exists'.mp hf
    simp only [Escapement.request, hf]

/-! ### The sensors' levels -/

/-- A survey cut short and a door opened leave every mount UNVERIFIED, as a door opened alone does (R115, R120). -/
theorem surveyCut_unverified (o : Optics) : ((surveyCut o).mounts.map fun m => { m with observed := none }) =
    o.mounts.map fun m => { m with observed := none } := by
  unfold surveyCut
  split
  · rfl
  · apply Vector.ext
    intro i hi
    simp only [Vector.getElem_map, Vector.getElem_mapIdx]
    split <;> rfl

/-- A countdown armed is given up for a hold (R139). -/
theorem cancelCountdown_held (s : State) : cancelCountdown .held s = s.withExc
    (if s.exc.st = .armed then { s.exc with st := .held, stage := .arm, armed := none, flash := none } else s.exc) := by
  rcases cancelCountdown_cases .held s with ⟨h, e⟩ | ⟨h, e⟩ <;> rw [e]
  · rw [if_pos h]
  · rw [if_neg h, State.withExc_self]

/-- A drum braked (R139, R180). -/
theorem stopDrum_eq (s : State) : stopDrum s =
    (s.withOpc { s.opc with
      mounts := (surveyCut s.opc).mounts, drum := .stopped, spinTimer := false, intervals := 0, indexSeen := false
      stallMonitor := false, survey := none }).withExc
        (if s.exc.st = .armed then { s.exc with st := .held, stage := .arm, armed := none, flash := none } else s.exc) := by
  have hcut : (cancelCountdown .held s).opc = s.opc := by simp
  unfold stopDrum
  dsimp only
  rw [hcut, surveyCut_eq, cancelCountdown_held]
  rfl

theorem doorOpened_eq (s : State) : doorOpened s =
    (s.withOpc { s.opc with
      door := .opened, drum := .stopped, spinTimer := false, intervals := 0, indexSeen := false
      stallMonitor := false, survey := none
      mounts := s.opc.mounts.map fun m => { m with observed := none } }).withExc
        (if s.exc.st = .armed then { s.exc with st := .held, stage := .arm, armed := none, flash := none } else s.exc) := by
  unfold doorOpened
  rw [stopDrum_eq, ← surveyCut_unverified s.opc]
  rfl

/-- The levels the door's debounce interval may take (R114 to R116). -/
theorem doorTake_eq {s : State} {n : Nat} (h : s.opc.doorTimer = some n) :
    (s.pins.door = .closed → doorTake s = doorClosed (s.withOpc { s.opc with doorTimer := none })) ∧
      (s.pins.door = .open → s.opc.door = .unknown →
        doorTake s = s.withOpc { s.opc with doorTimer := none, door := .opened }) ∧
      (s.pins.door = .open → s.opc.door ≠ .unknown →
        doorTake s = doorOpened (s.withOpc { s.opc with doorTimer := none })) := by
  simp only [doorTake, h, State.withOpc_pins]
  refine ⟨fun hp => by rw [hp], fun hp hd => ?_, fun hp hd => ?_⟩ <;> rw [hp]
  · exact if_pos hd
  · exact if_neg hd

/-- The levels the cassette's debounce interval may take (R148, R150). -/
theorem cassetteTake_eq {s : State} {n : Nat} (h : s.ftc.sensorTimer = some n) :
    (s.pins.cassette = .present → cassetteTake s = s.withFtc { s.ftc with sensorTimer := none, sensor := .present }) ∧
      (s.pins.cassette = .absent → s.ftc.st = .noCassette →
        cassetteTake s = s.withFtc { s.ftc with sensorTimer := none, sensor := .absent }) ∧
      (s.pins.cassette = .absent → s.ftc.st ≠ .noCassette →
        cassetteTake s = exposureRemoval ((s.withFtc { s.ftc with
          sensorTimer := none, sensor := .absent, st := .noCassette, op := none, failed := none, cut := none }).withLink
            (s.link.raise .cassette))) := by
  simp only [cassetteTake, h]
  refine ⟨fun hp => ?_, fun hp hst => ?_, fun hp hst => ?_⟩ <;> rw [hp]
  · exact if_neg fun hc => nomatch hc.1
  · exact if_neg fun hc => hc.2 hst
  · exact if_pos ⟨rfl, hst⟩

/-- A removal with no line in progress ends a cut wait (R137, R145). -/
theorem exposureRemoval_noLine {s : State} (hp : s.exc.ptr = none) : exposureRemoval s = s.withExc
    (if s.exc.cutWait then
      { s.exc with
        st := .idle, armed := none, flash := none, cutWait := false
        stopReq := if s.cmp.st = .aborting then none else s.exc.stopReq }
     else s.exc) := by
  have hptr : (endCutWait s).exc.ptr = none := by
    rcases endCutWait_cases s with ⟨_, e⟩ | ⟨_, e⟩ <;> rw [e] <;> exact hp
  have hremoval : exposureRemoval s = endCutWait s := if_neg (by rw [hptr]; exact Bool.false_ne_true)
  have haborting : aborting s = decide (s.cmp.st = .aborting) := beq_eq_decide _ _
  rw [hremoval]
  rcases endCutWait_cases s with ⟨h, e⟩ | ⟨h, e⟩ <;> rw [e, h]
  · rw [if_pos rfl, freeExposure, haborting]
    simp only [decide_eq_true_eq]
    rfl
  · rfl

/-- A removal that finds a line whose move has not been requested lets it wait on; a line under way is to end PARTIAL
(R145). -/
theorem exposureRemoval_line {s : State} (hp : s.exc.ptr ≠ none) (hw : s.exc.cutWait = false) :
    (s.exc.moveOut = false → s.exc.stage = .move → exposureRemoval s = s) ∧
      (s.exc.moveOut = true ∨ s.exc.stage ≠ .move →
        exposureRemoval s = beginEnding .removal (s.withExc { s.exc with moveOut := false })) := by
  have hwait : endCutWait s = s := if_neg (by simp [hw])
  simp only [exposureRemoval, hwait]
  refine ⟨fun hm hs => if_neg ?_, fun h => if_pos ?_⟩
  · simp [hm, hs]
  · simpa [Option.isSome_iff_ne_none, hp] using h

/-- The line in progress is to end PARTIAL, its countdown given up and its waiting requests withdrawn (R145, R146). -/
theorem beginEnding_eq (why : Ending) (s : State) : beginEnding why s =
    (s.withOpc { s.opc with
      strip := s.opc.strip.withdraw, prism := s.opc.prism.withdraw, turret := s.opc.turret.withdraw }).withExc
        { (if s.exc.st = .armed then { s.exc with st := .preparing, stage := .arm, armed := none, flash := none }
           else s.exc) with
          ending := some why, esc := s.exc.esc.withdraw } := by
  unfold beginEnding
  rcases cancelCountdown_cases .preparing s with ⟨h, e⟩ | ⟨h, e⟩ <;> rw [e]
  · rw [if_pos h]
    rfl
  · rw [if_neg h]
    rfl

/-- Settles O43: each sensor's change, and each level its interval's end takes. -/
theorem sensorLevelsAreTakenAfterTheDebounce : Obligations.SensorLevelsAreTakenAfterTheDebounce := by
  unfold Obligations.SensorLevelsAreTakenAfterTheDebounce
  refine ⟨⟨fun v s => ⟨fun h => ?_, fun h => ?_⟩, fun v s => ⟨fun h => ?_, fun h => ?_⟩⟩,
    fun n s ht => ?_, fun s ht => ?_, fun n s ht => ?_, fun s ht => ?_⟩
  · exact exec_event (u := doorLevel v s) rfl (if_pos h)
  · refine exec_event (u := doorLevel v s) rfl ((if_neg h).trans ?_)
    cases v <;> rfl
  · exact exec_event (u := cassetteLevel v s) rfl (if_pos h)
  · refine exec_event (u := cassetteLevel v s) rfl ((if_neg h).trans ?_)
    cases v <;> rfl
  · obtain ⟨hclosed, hfirst, hopened⟩ := doorTake_eq ht
    refine ⟨fun hp => exec_event rfl (hclosed hp), fun hp hd => exec_event rfl (hfirst hp hd), fun hp hd => ?_⟩
    refine exec_event rfl ((hopened hp hd).trans ?_)
    rw [doorOpened_eq]
    rfl
  · exact exec_event (u := doorTake s) rfl (by simp only [doorTake, ht])
  · obtain ⟨hpresent, hnone, hremoved⟩ := cassetteTake_eq ht
    refine ⟨fun hp => exec_event rfl (hpresent hp), fun hp hst => exec_event rfl (hnone hp hst), fun hp hst hn => ?_,
      fun hp hst hn hw => ?_⟩
    · exact exec_event rfl ((hremoved hp hst).trans (exposureRemoval_noLine (by exact hn)))
    · intro s1
      have hline := exposureRemoval_line (s := s1) hn hw
      refine ⟨fun hm hs => exec_event rfl ((hremoved hp hst).trans (hline.1 hm hs)), fun h => ?_⟩
      refine exec_event rfl ((hremoved hp hst).trans ((hline.2 h).trans ?_))
      rw [beginEnding_eq]
      by_cases ha : s.exc.st = .armed
      · rw [if_pos (by exact ha), if_pos ha]
        rfl
      · rw [if_neg (by exact ha), if_neg ha]
        rfl
  · exact exec_event (u := cassetteTake s) rfl (by simp only [cassetteTake, ht])

/-! ### The drum index -/

theorem anyUnverified_iff (o : Optics) : anyUnverified o = true ↔ ∃ m, (o.mount m).observed = none := by
  unfold anyUnverified Optics.mount
  simp only [List.any_eq_true, Option.isNone_iff_eq_none, Vector.mem_toList_iff, Vector.mem_iff_getElem]
  exact ⟨fun ⟨m, ⟨i, hi, e⟩, h⟩ => ⟨⟨i, hi⟩, by rw [← h, ← e]; rfl⟩, fun ⟨m, h⟩ => ⟨_, ⟨m.val, m.isLt, rfl⟩, h⟩⟩

/-- An index in SPINNING_UP, by what has come before (R181). -/
theorem spinIndex_eq (ms : Nat) (s : State) :
    (s.opc.indexSeen = false → spinIndex ms s = s.withOpc { s.opc with indexSeen := true }) ∧
      (s.opc.indexSeen = true → (ms < 98 ∨ 102 < ms) → spinIndex ms s = s.withOpc { s.opc with intervals := 0 }) ∧
      (s.opc.indexSeen = true → 98 ≤ ms → ms ≤ 102 → s.opc.intervals < 3 →
        spinIndex ms s = s.withOpc { s.opc with intervals := s.opc.intervals + 1 }) ∧
      (s.opc.indexSeen = true → 98 ≤ ms → ms ≤ 102 → 3 ≤ s.opc.intervals → spinIndex ms s = qualified s) := by
  have hlimit : Config.qualifyIntervals = 4 := rfl
  unfold spinIndex
  refine ⟨fun h => if_pos (by rw [h]; rfl), fun h hm => ?_, fun h hl hh hi => ?_, fun h hl hh hi => ?_⟩ <;>
    rw [if_neg (by simp [h])] <;> dsimp only
  · rw [if_neg (show ¬ (98 ≤ ms ∧ ms ≤ 102) by omega)]
    exact if_neg (by omega)
  · rw [if_pos (show 98 ≤ ms ∧ ms ≤ 102 from ⟨hl, hh⟩)]
    exact if_neg (by omega)
  · rw [if_pos (show 98 ≤ ms ∧ ms ≤ 102 from ⟨hl, hh⟩)]
    exact if_pos (by omega)

/-- A drum qualified, with no survey due or for the survey that is (R181). -/
theorem qualified_eq (s : State) :
    ((∀ m, (s.opc.mount m).observed ≠ none) → s.opc.surveyRequest = false →
      qualified s = s.withOpc { s.opc with
        spinTimer := false, intervals := 0, indexSeen := false, stallMonitor := true, drum := .atSpeed }) ∧
      ((∃ m, (s.opc.mount m).observed = none) ∨ s.opc.surveyRequest = true → s.exc.st ≠ .armed →
        qualified s = s.withOpc { s.opc with
          spinTimer := false, intervals := 0, indexSeen := false, stallMonitor := true, drum := .surveying
          survey := some { pos := 0, stage := .shifting }
          strip := s.opc.strip.request .strip .survey 0 }) := by
  set s1 := s.withOpc { s.opc with spinTimer := false, intervals := 0, indexSeen := false, stallMonitor := true }
  have hdue : (anyUnverified s1.opc || s1.opc.surveyRequest) = true ↔
      (∃ m, (s.opc.mount m).observed = none) ∨ s.opc.surveyRequest = true := by
    rw [Bool.or_eq_true, anyUnverified_iff]
    rfl
  have hqualified : qualified s = if anyUnverified s1.opc || s1.opc.surveyRequest then beginSurvey s1
      else s1.withOpc { s1.opc with drum := .atSpeed } := rfl
  rw [hqualified]
  refine ⟨fun hm hr => if_neg fun h => ?_, fun h ha => ?_⟩
  · rcases hdue.mp h with ⟨m, h⟩ | h
    · exact hm m h
    · rw [hr] at h
      cases h
  · rw [if_pos (hdue.mpr h), beginSurvey_eq (by exact ha)]
    rfl

theorem surveyRead_mount (p : Fin 4) (upper lower : Byte) (o : Optics) (m : Fin 8) :
    (surveyRead p upper lower o).mount m =
      if m.val = 2 * p.val then { o.mount m with observed := some upper.toNat }
      else if m.val = 2 * p.val + 1 then { o.mount m with observed := some lower.toNat }
      else o.mount m := by
  unfold surveyRead
  simp only [setMount_mount, Fin.ext_iff]
  by_cases hu : m.val = 2 * p.val
  · have hm : (⟨2 * p.val, by omega⟩ : Fin 8) = m := Fin.ext hu.symm
    simp [hm, hu]
  · by_cases hl : m.val = 2 * p.val + 1
    · have hm : (⟨2 * p.val + 1, by omega⟩ : Fin 8) = m := Fin.ext hl.symm
      simp [hm, hl]
    · simp [hu, hl]

/-- The survey's end, with MOUNT raised where the line to come wants a mount (R121). -/
theorem surveyComplete_eq (s : State) : surveyComplete s =
    (s.withOpc { s.opc with survey := none, surveyRequest := false, drum := .atSpeed }).withLink
      (if (surveyLine s).any (fun r => r.remaining.any
          (Elem.notReady { s.opc with survey := none, surveyRequest := false, drum := .atSpeed })) then s.link.raise .mount
       else s.link) := by
  set s1 := s.withOpc { s.opc with survey := none, surveyRequest := false, drum := .atSpeed }
  have hline : surveyLine s1 = surveyLine s := rfl
  unfold surveyComplete
  dsimp only
  rw [hline]
  cases surveyLine s with
  | none => rfl
  | some r =>
    rw [Option.any_some]
    show (if mountHold r.remaining s1 then raise .mount s1 else s1) = s1.withLink
      (if mountHold r.remaining s1 then s1.link.raise .mount else s1.link)
    split <;> rfl

/-- An index in SURVEYING with the survey waiting for it (R118). -/
theorem surveyIndex_eq {s : State} {p : Fin 4} (upper lower : Byte)
    (hv : s.opc.survey = some { pos := p, stage := .awaitIndex }) :
    (∀ q : Fin 4, q.val = p.val + 1 →
      surveyIndex upper lower s = surveyShift q (s.withOpc (surveyRead p upper lower s.opc))) ∧
      (p.val = 3 → surveyIndex upper lower s = surveyComplete (s.withOpc (surveyRead p upper lower s.opc))) := by
  simp only [surveyIndex, hv]
  refine ⟨fun q hq => ?_, fun hp => dif_neg (by omega)⟩
  rw [dif_pos (by omega)]
  congr 1
  exact Fin.ext hq.symm

/-- Settles O44: the index by the drum's state, and the read of a survey's position with what follows it. -/
theorem indexQualifiesAndSurveys : Obligations.IndexQualifiesAndSurveys := by
  unfold Obligations.IndexQualifiesAndSurveys
  intro ms upper lower s s0
  have hspin (hd : s.opc.drum = .spinningUp) : indexArrives ms upper lower s = spinIndex ms s0 := by
    have hd : s0.opc.drum = .spinningUp := hd
    unfold indexArrives
    dsimp only
    rw [hd]
  have hsurvey (hd : s.opc.drum = .surveying) : indexArrives ms upper lower s = surveyIndex upper lower s0 := by
    have hd : s0.opc.drum = .surveying := hd
    unfold indexArrives
    dsimp only
    rw [hd]
  obtain ⟨hfirst, hbad, hgood, hlast⟩ := spinIndex_eq ms s0
  obtain ⟨hspeed, hdue⟩ := qualified_eq s0
  refine ⟨fun hd => ?_, fun hd hi => exec_event rfl ((hspin hd).trans (hfirst hi)),
    fun hd hi hm => exec_event rfl ((hspin hd).trans (hbad hi hm)),
    fun hd hi hl hh hn => exec_event rfl ((hspin hd).trans (hgood hi hl hh hn)),
    fun hd hi hl hh hn hm hr => exec_event rfl ((hspin hd).trans ((hlast hi hl hh hn).trans (hspeed hm hr))),
    fun hd hi hl hh hn hm ha => exec_event rfl ((hspin hd).trans ((hlast hi hl hh hn).trans (hdue hm ha))),
    fun p hd hv => ?_⟩
  · refine exec_event (u := indexArrives ms upper lower s) rfl ?_
    rcases hd with hd | hd | ⟨hd, hv⟩
    · have hd : s0.opc.drum = .stopped := hd
      unfold indexArrives
      dsimp only
      rw [hd]
    · have hd : s0.opc.drum = .atSpeed := hd
      unfold indexArrives
      dsimp only
      rw [hd]
    · rw [hsurvey hd]
      unfold surveyIndex
      split
      · rename_i hs
        exact absurd rfl (hv _ hs)
      · rfl
  · obtain ⟨hnext, hend⟩ := surveyIndex_eq (s := s0) upper lower hv
    refine ⟨_, exec_event rfl (hsurvey hd), ?_⟩
    by_cases hp : p.val = 3
    · rw [hend hp, surveyComplete_eq]
      exact ⟨surveyRead_mount p upper lower s.opc, fun q hq => by omega, fun _ => ⟨rfl, rfl⟩, rfl, rfl, rfl, rfl, rfl, rfl,
        rfl, rfl, rfl, rfl⟩
    · rw [hnext ⟨p.val + 1, by omega⟩ rfl]
      refine ⟨surveyRead_mount p upper lower s.opc, fun q hq => ?_, fun h => absurd h hp, rfl, rfl, rfl, rfl, rfl, rfl,
        rfl, rfl, rfl, rfl⟩
      rw [show q = ⟨p.val + 1, by omega⟩ from Fin.ext hq]
      exact ⟨rfl, rfl⟩

/-! ### Drum stalls -/

/-- A stalled drum (R181, R182). -/
theorem drumStall_eq (s : State) : drumStall s =
    ((s.withOpc { s.opc with
      drum := .stopped, spinTimer := false, intervals := 0, indexSeen := false, stallMonitor := false, survey := none
      stallHold := true, mounts := (surveyCut s.opc).mounts }).withExc
        (if s.exc.st = .armed then { s.exc with st := .held, stage := .arm, armed := none, flash := none } else s.exc)).withLink
          (({ s.link with exposure := s.link.exposure.record ExposureKind.all .drumStall (s.exc.ptr.getD 0) } : Link).raise
            .xfault) := by
  unfold drumStall
  rw [stopDrum_eq]
  split <;> rfl

/-- Settles O45: one stall for the two timers, and the spin-up it holds off. -/
theorem drumStallsAreHeld : Obligations.DrumStallsAreHeld := by
  unfold Obligations.DrumStallsAreHeld
  refine ⟨fun s => ?_, fun s h => if_neg fun hc => ?_, fun s hd hc hr hh => if_pos ⟨hd, hc, hr, hh⟩⟩
  · intro stalled
    have hstall : drumStall s = stalled := by
      rw [drumStall_eq]
      unfold surveyCut
      cases h : s.opc.survey <;> simp only [stalled, h]
    refine ⟨fun h => exec_event (u := spinUpExpires s) rfl ((if_pos h).trans hstall),
      fun h => exec_event (u := monitorExpires s) rfl ((if_pos h).trans hstall),
      fun h => exec_event (u := spinUpExpires s) rfl (if_neg (by rw [h]; exact Bool.false_ne_true)),
      fun h => exec_event (u := monitorExpires s) rfl (if_neg (by rw [h]; exact Bool.false_ne_true))⟩
  · obtain ⟨-, -, -, hfree⟩ := hc
    rw [hfree] at h
    cases h

end Sys2Proof.Machine
end

section
/-! PROOF. The Exposure Controller: STOP and RESUME (R143, R144), TEMPS and INTENSITY (R130, R131), the countdown and the armed
slot (R134, R135), flashes (R133, R136). -/

namespace Sys2Proof.Machine

-- One declaration at a time: it keeps the threads, and with them the memory, of the compile small.
set_option Elab.async false

/-! ### STOP and RESUME -/

/-- A HARD stop noted (R143). -/
theorem stopHard_eq (s : State) : stopHard s =
    (s.withOpc { s.opc with
      strip := s.opc.strip.withdraw, prism := s.opc.prism.withdraw, turret := s.opc.turret.withdraw }).withExc
        { (if s.exc.st = .armed then { s.exc with st := .preparing, stage := .arm, armed := none, flash := none }
           else s.exc) with
          stopReq := some .hard, esc := s.exc.esc.withdraw } := by
  unfold stopHard
  by_cases h : s.exc.st = .armed
  · rw [if_pos h, cancelCountdown, if_pos (by exact h)]
    rfl
  · rw [if_neg h, cancelCountdown_of_ne _ (by exact h)]
    rfl

/-- What a STOP is taken as, by the request that stands (R143). -/
theorem takeStop_eq {s : State} (h : s.exc.st ≠ .stopped) :
    (s.exc.stopReq = none → takeStop .soft s = s.withExc { s.exc with stopReq := some .soft }) ∧
      (s.exc.stopReq ≠ none → takeStop .soft s = s) ∧
      (s.exc.stopReq = some .hard → takeStop .hard s = s) ∧
      (s.exc.stopReq ≠ some .hard → takeStop .hard s = stopHard s) := by
  unfold takeStop
  simp only [if_neg h]
  rcases s.exc.stopReq with _ | _ | _ <;> simp

/-- A STOP in one of its forms (R143). -/
theorem stop_event {w : Text} {form : HaltForm} {s : State} (h : LinkReady s) (hc : cleanWord w = true)
    (hw : parseHalt w = some form) :
    exec (.stop [w]) s = .next (finish s (answered (ascii "OK") (takeStop form (heard s)))) := by
  have hbody : commandBody .stop [w] (heard s) = (takeStop form (heard s), ok) := by
    simp only [commandBody, stopBody, hw]
  exact command_done rfl h (clean_singleton hc) ((takeStop_works (b := true) form (heard s)).link.resetTaken.trans h.1) hbody

theorem react_of_exposure {s t : State} (h : exposureReact s = some t) : react s = some t := by
  simp [react, reactions, h]

/-- Nothing of the line's elements is in flight (R143). -/
theorem opsInFlight_eq_false {s : State} (hm : ∀ k f, (s.opc.mech k).flight = some f → f.by_ ≠ .exposure)
    (he : ∀ x, s.exc.esc.flight ≠ some (x, .element)) : opsInFlight s = false := by
  have hmech (k : Mechanism) : (s.opc.mech k).flightForExposure = false := by
    unfold MechState.flightForExposure
    cases hf : (s.opc.mech k).flight with
    | none => rfl
    | some f => exact beq_eq_false_iff_ne.mpr (hm k f hf)
  have hesc : s.exc.esc.flightForElement = false := by
    unfold Escapement.flightForElement
    split
    · rename_i x hx
      exact absurd hx (he x)
    · rfl
  have hstrip := hmech .strip
  have hprism := hmech .prism
  have hturret := hmech .turret
  simp only [Optics.mech] at hstrip hprism hturret
  simp only [opsInFlight, hstrip, hprism, hturret, hesc, Bool.or_self]

theorem abortMeetsLine_eq_false {s : State} (h : s.cmp.st ≠ .aborting) : abortMeetsLine s = false := by
  have haborting : aborting s = false := beq_eq_false_iff_ne.mpr h
  simp only [abortMeetsLine, haborting, Bool.false_and]

theorem parseHalt_eq_none {w : Text} (hs : w ≠ ascii "SOFT") (hh : w ≠ ascii "HARD") : parseHalt w = none := by
  simp [parseHalt, wordValue, hs.symm, hh.symm]

/-- A RESUME of a STOPPED Exposure Controller, by what it takes up (R144). -/
theorem resume_eq (s : State) :
    (s.exc.ptr = none → resume s = s.withExc { s.exc with
      stopReq := none, st := if s.exc.cutWait = true then .held else .idle, armed := none, flash := none }) ∧
      (s.exc.ptr ≠ none → s.exc.moveOut = true → resume s = s.withExc { s.exc with
        stopReq := none, armed := none, flash := none, st := if s.ftc.st = .moving then .movingFilm else .held }) ∧
      (s.exc.ptr ≠ none → s.exc.moveOut = false → resume s = beginStage (s.withExc { s.exc with stopReq := none })) := by
  unfold resume
  refine ⟨fun hp => ?_, fun hp hm => ?_, fun hp hm => ?_⟩
  · rw [if_pos (by simp [hp])]
    rfl
  · rw [if_neg (by simpa using hp), if_pos (by exact hm)]
    rfl
  · rw [if_neg (by simpa using hp), if_neg (by simp [hm])]

/-- Settles O46: STOP by the request that stands, its two ways to STOPPED, and RESUME by what the line waits for. -/
theorem stopAndResumeFrameTheWork : Obligations.StopAndResumeFrameTheWork := by
  unfold Obligations.StopAndResumeFrameTheWork
  have hsoft : cleanWord (ascii "SOFT") = true := by decide
  have hhard : cleanWord (ascii "HARD") = true := by decide
  refine ⟨fun s h hst => ?_, ⟨fun m => rfl, fun e => rfl⟩, fun s ha he hw => ⟨fun hr hst hm hesc hmove => ?_, fun hr hst => ?_⟩,
    fun w s h hw hst => ?_, fun params s h hs hh => ?_, fun s h => ?_, fun w ws s h => command_syntax rfl h rfl⟩
  · obtain ⟨hnew, hold, hsame, hstronger⟩ := takeStop_eq (s := heard s) hst
    refine ⟨fun hr => ?_, fun hr => ?_, fun hr => ?_, fun hr => ?_⟩
    · rw [stop_event h hsoft rfl, hnew hr]
      rfl
    · rw [stop_event h hsoft rfl, hold hr]
    · rw [stop_event h hhard rfl, hsame hr]
    · rw [stop_event h hhard rfl, hstronger hr, stopHard_eq]
      rfl
  · have hflight := opsInFlight_eq_false hm hesc
    have hstoppable : s.exc.st.stoppable = true := by rcases hst with e | e | e | e <;> rw [e] <;> rfl
    have hflash : (s.exc.st != .flashing) = true := by rcases hst with e | e | e | e <;> rw [e] <;> rfl
    have hmoving : (s.exc.moveOut && s.ftc.st == .moving) = false := by
      rw [Bool.and_eq_false_iff, beq_eq_false_iff_ne, ← Bool.not_eq_true, ← imp_iff_not_or]
      exact hmove
    have hquiet : quiet s = true := by simp only [quiet, hflight, hflash, hmoving, Bool.not_false, Bool.and_self]
    refine react_of_exposure ?_
    exact (if_neg (by simp [abortMeetsLine_eq_false ha])).trans ((if_neg (by simp [he])).trans
      (if_pos (by simp [hr, hstoppable, hw, hquiet])))
  · refine react_of_exposure ?_
    exact (if_neg (by simp [abortMeetsLine_eq_false ha])).trans ((if_neg (by simp [he])).trans
      ((if_neg (by simp [hr])).trans (if_pos (by simp [hr, hst]))))
  · have hstay (form : HaltForm) : takeStop form (heard s) = heard s := if_pos hst
    rcases hw with rfl | rfl
    · rw [stop_event h hsoft rfl, hstay]
    · rw [stop_event h hhard rfl, hstay]
  · refine command_syntax rfl h ?_
    rcases params with _ | ⟨w, _ | ⟨v, ws⟩⟩
    · rfl
    · have hw : parseHalt w = none := parseHalt_eq_none (fun e => hs (by rw [e])) (fun e => hh (by rw [e]))
      simp only [commandBody, stopBody, hw]
    · rfl
  · have haborting : aborting (heard s) = decide (s.cmp.st = .aborting) := beq_eq_decide _ _
    have hbody : commandBody .resume [] (heard s) =
        if s.exc.st != .stopped || decide (s.cmp.st = .aborting) then refuse .state (heard s) else (resume (heard s), ok) := by
      rw [← haborting]
      rfl
    have hdone (hst : s.exc.st = .stopped) (ha : s.cmp.st ≠ .aborting) :
        exec (.resume []) s = .next (finish s (answered (ascii "OK") (resume (heard s)))) :=
      command_done rfl h rfl ((resume_works (b := true) (heard s)).link.resetTaken.trans h.1)
        (hbody.trans (if_neg (by simp [hst, ha])))
    obtain ⟨hfree, hmove, hstage⟩ := resume_eq (heard s)
    refine ⟨fun hst => ?_, fun hst ha hp => ?_, fun hst ha hp hm => ?_, fun hst ha hp hm => ?_⟩
    · rw [← no_state]
      exact command_refused rfl h rfl (hbody.trans (if_pos (by simpa using hst)))
    · rw [hdone hst ha, hfree hp]
      rfl
    · rw [hdone hst ha, hmove hp hm]
      rfl
    · rw [hdone hst ha, hstage hp hm]
      rfl

/-! ### TEMPS and INTENSITY -/

theorem reading_range (k : Nat) : -40 ≤ Config.reading k ∧ Config.reading k ≤ 150 := by
  unfold Config.reading
  omega

theorem meant_iff (v : Option Int) (i : Nat) : meant v i = true ↔ v = none ∨ v = some (i : Int) := by
  cases v <;> simp [meant]

theorem writeIntensity_get (b p : Option Int) (value : Nat) (t : Vector (Vector Nat 8) 4) (i : Fin 4) (k : Fin 8) :
    ((writeIntensity b p value t).get i).get k =
      if (b = none ∨ b = some (i.val : Int)) ∧ (p = none ∨ p = some (k.val : Int)) then value else (t.get i).get k := by
  simp only [writeIntensity, Vector.get_eq_getElem, Vector.getElem_mapIdx, Bool.and_eq_true, meant_iff]

/-- Settles O47: thresholds and entries in and out of their ranges, and the reading within its own. -/
theorem tempsAndIntensityAreKept : Obligations.TempsAndIntensityAreKept := by
  unfold Obligations.TempsAndIntensityAreKept
  refine ⟨fun x y z a b c s h hclean hx hy hz => ?_, fun s h => ⟨Config.reading s.thermReads, (reading_range _).1,
    (reading_range _).2, command_done rfl h rfl h.1 rfl⟩, fun x y z b p v s h hclean hx hy hz => ?_,
    fun x y b p s h hclean hx hy => ?_⟩
  · have hbody : commandBody .temps [x, y, z] (heard s) =
        if inRange 0 100 a && inRange 0 100 b && inRange 0 100 c && decide (a < b ∧ b < c) then
          ((heard s).withExc { s.exc with t1 := a, t2 := b, t3 := c }, ok)
        else refuse .range (heard s) := by
      simp only [commandBody, tempsBody, hx, hy, hz]
      rfl
    have hin : (inRange 0 100 a && inRange 0 100 b && inRange 0 100 c && decide (a < b ∧ b < c)) = true ↔
        0 ≤ a ∧ a < b ∧ b < c ∧ c ≤ 100 := by
      simp only [Bool.and_eq_true, inRange_iff, decide_eq_true_eq]
      omega
    refine ⟨fun h0 hab hbc hc => ?_, fun hout => ?_⟩
    · exact command_done rfl h hclean h.1 (hbody.trans (if_pos (hin.mpr ⟨h0, hab, hbc, hc⟩)))
    · rw [← no_range]
      exact command_refused rfl h hclean (hbody.trans (if_neg (hin.not.mpr hout)))
  · have hbody : commandBody .intensity [x, y, z] (heard s) =
        if allInRange 0 3 b && allInRange 0 7 p && inRange 1 255 v then
          ((heard s).withExc { s.exc with intensity := writeIntensity b p v.toNat s.exc.intensity }, ok)
        else refuse .range (heard s) := by
      simp only [commandBody, intensityBody, hx, hy, hz]
      rfl
    have hin : (allInRange 0 3 b && allInRange 0 7 p && inRange 1 255 v) = true ↔
        allInRange 0 3 b = true ∧ allInRange 0 7 p = true ∧ 1 ≤ v ∧ v ≤ 255 := by
      simp only [Bool.and_eq_true, inRange_iff, and_assoc]
    refine ⟨fun hb hp hl hh => ⟨{ s.exc with intensity := writeIntensity b p v.toNat s.exc.intensity }, ?_, rfl,
      fun i k => writeIntensity_get b p v.toNat s.exc.intensity i k⟩, fun hout => ?_⟩
    · exact command_done rfl h hclean h.1 (hbody.trans (if_pos (hin.mpr ⟨hb, hp, hl, hh⟩)))
    · rw [← no_range]
      refine command_refused rfl h hclean (hbody.trans (if_neg (hin.not.mpr ?_)))
      rintro ⟨hb, hp, hl, hh⟩
      rcases hout with e | e | e | e
      · cases hb.symm.trans e
      · cases hp.symm.trans e
      · omega
      · omega
  · have hreply : okWith [field "BAND" (decimal b.val), field "LENS" (decimal p.val),
        field "VALUE" (decimal ((s.exc.intensity.get b).get p))] =
        ascii "OK BAND=" ++ decimal b.val ++ ascii " LENS=" ++ decimal p.val ++ ascii " VALUE=" ++
          decimal ((s.exc.intensity.get b).get p) := by
      simp [okWith, ok, fields, field, ascii]
    rw [← hreply]
    refine command_done rfl h hclean h.1 ?_
    simp only [commandBody, intensityBody, hx, hy, asFin_val]
    rfl

/-! ### The countdown and the armed slot -/

/-- A countdown runs to the slot's drum position, a full revolution where that is the present one (R134). -/
theorem countdownTo_spec (slot : Nat) (phase : Int) (c : Nat) :
    let n := countdownTo (slotPosition slot phase) c
    1 ≤ n ∧ n ≤ 3072 ∧ ((c % 3072 + n : Nat) : Int) % 3072 = ((slot : Int) * 32 + phase) % 3072 := by
  unfold countdownTo slotPosition
  dsimp only
  split <;> omega

theorem entry_val {n : Nat} (v : Vector Nat n) (i : Fin n) : entry v i.val = v.get i := by
  simp [entry, Vector.getD, Vector.get_eq_getElem]

theorem flashEnergy_eq (e density : Nat) : flashEnergy e density = max 1 (min 255 ((e * density + 50) / 100)) := by
  unfold flashEnergy clampNat
  rfl

/-- An encoder count lowers a countdown, and its last brings the slot (R134). -/
theorem countArrives_eq {s : State} {a : Armed} (h : s.exc.armed = some a) :
    let s2 := (s.withPins { s.pins with encoder := (s.pins.encoder + 1) % 3072 }).withExc
      { s.exc with armed := some { a with count := a.count - 1 } }
    (2 ≤ a.count → countArrives s = s2) ∧ (a.count ≤ 1 → countArrives s = slotArrives s2) := by
  simp only [countArrives, State.withPins_exc, h]
  exact ⟨fun hc => if_neg (by omega), fun hc => if_pos hc⟩

theorem remainingCounts_eq {s : State} {a : Armed} (h : s.exc.armed = some a) :
    remainingCounts s = slotArrives ((s.withPins { s.pins with encoder := (s.pins.encoder + a.count) % 3072 }).withExc
      { s.exc with armed := some { a with count := 0 } }) := by
  simp only [remainingCounts, h]
  rfl

/-- The armed slot meets a charged lamp (R135). -/
theorem slotArrives_charged {s : State} {a : Armed} (h : s.exc.armed = some a) (hl : s.exc.lamp = .charged) :
    slotArrives s = s.withExc { s.exc with st := .flashing, armed := none, flash := some a.energy, lamp := .charging } := by
  simp only [slotArrives, h, if_pos hl]
  rfl

/-- The arrival of the armed slot is its remaining counts one after another (log 5). -/
theorem iterate_countArrives (n : Nat) : ∀ (s : State) (a : Armed), s.exc.armed = some a → a.count = n + 1 →
    Nat.iterate countArrives (n + 1) s = remainingCounts s := by
  induction n with
  | zero =>
    intro s a h hn
    rw [remainingCounts_eq h, hn]
    show countArrives s = _
    rw [(countArrives_eq h).2 hn.le, hn]
  | succ n ih =>
    intro s a h hn
    show Nat.iterate countArrives (n + 1) (countArrives s) = _
    rw [(countArrives_eq h).1 (by omega), ih _ { a with count := a.count - 1 } rfl (by simp [hn]),
      remainingCounts_eq (a := { a with count := a.count - 1 }) rfl, remainingCounts_eq h]
    have henc : ((s.pins.encoder + 1) % 3072 + (a.count - 1)) % 3072 = (s.pins.encoder + a.count) % 3072 := by omega
    simp only [State.withExc_pins, State.withPins_pins, henc]
    rfl

/-- A missed slot of a line in progress (R135): another revolution is armed, or the eighth miss is a fault. -/
theorem slotMiss_eq {s : State} {r : LineRecord} {e : Elem} {m p : Fin 8} {slot : Nat} (hp : s.exc.ptr = some r.number)
    (hr : s.sls.find r.number = some r) (he : r.remaining.head? = some e) (hk : e.kind = .box m slot p) :
    let s2 := (s.withSls (s.sls.update r.number fun r => { r with misses := min 65535 (r.misses + 1) })).withExc
      { s.exc with misses := s.exc.misses + 1 }
    (s.exc.misses < 7 → slotMiss s = s2.withExc { s.exc with
      misses := s.exc.misses + 1
      armed := some {
        count := 3072, energy := flashEnergy (entry (s.exc.intensity.get (s.exc.band.getD 0)) p.val) s.exc.density } }) ∧
      (7 ≤ s.exc.misses → slotMiss s = lineFault .flash .arm s2) := by
  intro s2
  have hlimit : Config.missLimit = 8 := rfl
  have hcur : currentRecord s2 = some { r with misses := min 65535 (r.misses + 1) } := by
    show s.exc.ptr.bind _ = _
    rw [hp, Option.bind_some]
    exact find_update (fun _ => rfl) hr
  have hkind : (LineRecord.remaining { r with misses := min 65535 (r.misses + 1) }).head?.map Elem.kind =
      some (.box m slot p) := by
    show r.remaining.head?.map Elem.kind = _
    rw [he, Option.map_some, hk]
  have hmiss : slotMiss s = if 8 ≤ s.exc.misses + 1 then lineFault .flash .arm s2 else
      s2.withExc { s.exc with
        misses := s.exc.misses + 1
        armed := some {
          count := 3072, energy := flashEnergy (entry (s.exc.intensity.get (s.exc.band.getD 0)) p.val) s.exc.density } } := by
    unfold slotMiss
    simp only [hp]
    refine if_congr Iff.rfl rfl ?_
    split
    · rename_i h
      cases hcur.symm.trans h
    · rename_i h
      obtain rfl := Option.some.inj (hcur.symm.trans h)
      rw [hkind, ← hp]
      rfl
  rw [hmiss]
  exact ⟨fun hm => if_neg (by omega), fun hm => if_pos (by omega)⟩

/-- A fault of the line in progress with nothing waiting for the mechanisms (R141). -/
theorem lineFault_nothingWaits {s : State} {n : Nat} (hp : s.exc.ptr = some n) (h1 : s.opc.strip.waiting = [])
    (h2 : s.opc.prism.waiting = []) (h3 : s.opc.turret.waiting = []) (h4 : s.exc.esc.waiting = []) (kind : ExposureKind)
    (stage : Stage) : lineFault kind stage s =
      (s.withExc { s.exc with st := .faulted, stage := stage, armed := none, flash := none }).withLink
        (({ s.link with exposure := s.link.exposure.record ExposureKind.all kind n } : Link).raise .xfault) := by
  rw [lineFault_eq hp, withdrawRequests_eq (by exact h1) (by exact h2) (by exact h3)]
  simp only [State.withExc_exc, esc_withdraw_eq_self h4, exposureFault, raise, hp]
  rfl

/-- Settles O48: the counts by the countdown, the slot by the lamp, and the countdown's length. -/
theorem countsBringTheArmedSlot : Obligations.CountsBringTheArmedSlot := by
  unfold Obligations.CountsBringTheArmedSlot
  refine ⟨fun s h => ⟨?_, ?_⟩, fun a s h => ⟨fun hc => ?_, fun hc hl => ?_, fun hl => ?_, fun hc => ?_⟩,
    fun a r e m slot p s h hl hp hr he hk => ?_, fun m slot p s => ⟨rfl, ?_⟩⟩
  · exact exec_event (u := countArrives s) rfl (by simp only [countArrives, State.withPins_exc, h]; rfl)
  · exact exec_event (u := remainingCounts s) rfl (by simp only [remainingCounts, h])
  · exact exec_event rfl ((countArrives_eq h).1 hc)
  · refine exec_event rfl (((countArrives_eq h).2 hc.le).trans ?_)
    rw [slotArrives_charged (a := { a with count := a.count - 1 }) rfl (by exact hl)]
    rfl
  · refine exec_event rfl ((remainingCounts_eq h).trans ?_)
    rw [slotArrives_charged (a := { a with count := 0 }) rfl (by exact hl)]
    rfl
  · obtain ⟨n, hn⟩ := Nat.exists_eq_add_of_le hc
    rw [hn, Nat.add_comm 1 n]
    exact iterate_countArrives n s a h (by omega)
  · intro s1
    set s0 := (s.withPins { s.pins with encoder := (s.pins.encoder + a.count) % 3072 }).withExc
      { s.exc with armed := some { a with count := 0 } }
    have hmiss : remainingCounts s = slotMiss s0 := (remainingCounts_eq h).trans (if_neg hl)
    obtain ⟨hagain, hfault⟩ := slotMiss_eq (s := s0) hp hr he hk
    refine ⟨fun hm => exec_event rfl (hmiss.trans ((hagain hm).trans rfl)), fun hm h1 h2 h3 h4 => ?_⟩
    refine exec_event rfl (hmiss.trans ((hfault hm).trans ?_))
    rw [lineFault_nothingWaits (n := r.number) (by exact hp) (by exact h1) (by exact h2) (by exact h3) (by exact h4)]
    rfl
  · obtain ⟨hlow, hhigh, hpos⟩ := countdownTo_spec slot (s.opc.mount m).phase s.pins.encoder
    refine ⟨_, ?_, hlow, hhigh, hpos⟩
    rw [← flashEnergy_eq, ← entry_val]
    rfl

/-! ### Flashes -/

/-- A sense in the confirmation window counts the element and goes to the next (R136). -/
theorem photocell_eq {s : State} {n : Nat} (hf : s.exc.st = .flashing) (hp : s.exc.ptr = some n) :
    photocell s = goElement ((s.withSls (s.sls.update n fun r => { r with exposed := r.exposed + 1 })).withExc
      { s.exc with flash := none, misses := 0, stage := .prepare, index := s.exc.index + 1 }) := by
  have hcount : countElement (s.withExc { s.exc with flash := none, misses := 0, stage := .prepare }) =
      (s.withSls (s.sls.update n fun r => { r with exposed := r.exposed + 1 })).withExc
        { s.exc with flash := none, misses := 0, stage := .prepare, index := s.exc.index + 1 } := by
    unfold countElement
    simp only [State.withExc_exc, hp]
    rw [← hp]
    rfl
  rw [← hcount]
  exact if_pos hf

theorem currentRecord_eq {s : State} {n : Nat} (hp : s.exc.ptr = some n) : currentRecord s = s.sls.find n := by
  rw [currentRecord, hp, Option.bind_some]

/-- A line with no element left and no cut to follow is DONE and free (R136, R137). -/
theorem goElement_done {s : State} {r : LineRecord} (hp : s.exc.ptr = some r.number) (hr : s.sls.find r.number = some r)
    (he : s.exc.ending = none) (hl : r.remaining = []) (hc : s.ftc.cutFollows r.cutAfter = false) :
    goElement s = freeExposure (raise .line (closeLineExposure (fun r => { r with exp := .done }) s)) := by
  have hcur : currentRecord s = some r := (currentRecord_eq hp).trans hr
  have hend : ¬ s.exc.ending.isSome = true := by simp [he]
  have hcut : ¬ (raise .line (closeLineExposure (fun r => { r with exp := .done }) s)).ftc.cutFollows r.cutAfter = true := by
    simp [hc]
  simp only [goElement, hcur, hl, goElements, if_neg hend, lineDone]
  exact if_neg hcut

theorem closeLineExposure_eq {s : State} {n : Nat} (hp : s.exc.ptr = some n) (f : LineRecord → LineRecord) :
    closeLineExposure f s = (s.withSls { s.sls.update n f with lastExposed := n }).withExc
      { s.exc with ptr := none, ending := none, moveOut := false, filmOut := false, stage := .move, armed := none,
                   flash := none } := by
  simp only [closeLineExposure, hp]
  rfl

/-- Settles O49: a sense, a window's end and a charge, each by the state it finds. -/
theorem flashesAreConfirmedOrFault : Obligations.FlashesAreConfirmedOrFault := by
  unfold Obligations.FlashesAreConfirmedOrFault
  refine ⟨fun n s hf hp => ⟨exec_event rfl (photocell_eq hf hp), fun h1 h2 h3 h4 => ?_⟩,
    fun r s hf hp hr he hlast hc => ?_, fun s hf => ⟨?_, ?_⟩, fun s => ⟨fun hl => ?_, fun hl => ?_⟩⟩
  · exact exec_event (u := windowEnds s) rfl ((if_pos hf).trans (lineFault_nothingWaits hp h1 h2 h3 h4 .flash .arm))
  · set s1 := (s.withSls (s.sls.update r.number fun r => { r with exposed := r.exposed + 1 })).withExc
      { s.exc with flash := none, misses := 0, stage := .prepare, index := s.exc.index + 1 }
    set r1 : LineRecord := { r with exposed := r.exposed + 1 }
    have hr1 : s1.sls.find r1.number = some r1 := find_update (fun _ => rfl) hr
    have hleft : r1.remaining = [] := List.drop_of_length_le hlast.le
    refine ⟨_, exec_event rfl ((photocell_eq hf hp).trans (goElement_done (s := s1) (r := r1) hp hr1 he hleft hc)), ?_⟩
    have hdone : (s1.sls.update r1.number fun r => { r with exp := .done }).find r1.number = some { r1 with exp := .done } :=
      find_update (fun _ => rfl) hr1
    rw [closeLineExposure_eq (s := s1) (n := r1.number) hp]
    exact ⟨rfl, rfl, rfl, rfl, rfl, hdone, rfl, rfl, rfl⟩
  · exact exec_event (u := photocell s) rfl (if_neg hf)
  · exact exec_event (u := windowEnds s) rfl (if_neg hf)
  · exact exec_event (u := charged s) rfl (if_pos hl)
  · exact exec_event (u := charged s) rfl (if_neg hl)

end Sys2Proof.Machine
end

section
/-! PROOF. The film: CASSETTE (R149), FEEDCUT and the feed correction (R155, R159, R161); the settings of TUNE (R190); CLEARFAULT
and the retries of its blocks (R142, R160, R177, R194). -/

namespace Sys2Proof.Machine

-- One declaration at a time: it keeps the threads, and with them the memory, of the compile small.
set_option Elab.async false

/-! ### Cassettes -/

theorem lowNow_iff (f : Film) : f.lowNow = true ↔
    f.lowMatched = false ∧ f.lowFilm ≠ 0 ∧ f.st ≠ .noCassette ∧ f.cap - f.dmax ≤ f.lowFilm * 240 := by
  have hpica : Config.picaSteps = 240 := rfl
  simp [Film.lowNow, hpica, and_assoc]

/-- The low-film test as one state (R156). -/
theorem testLowFilm_eq (s : State) : testLowFilm s =
    (s.withFtc { s.ftc with lowMatched := s.ftc.lowMatched || s.ftc.lowNow }).withLink
      (if s.ftc.lowNow then s.link.raise .filmLow else s.link) := by
  rcases testLowFilm_cases s with ⟨h, e⟩ | ⟨h, e⟩ <;> rw [e, h]
  · rw [Bool.or_true]
    rfl
  · rw [Bool.or_false]
    rfl

theorem testLowFilm_matched {s : State} (h : s.ftc.lowMatched = true) : testLowFilm s = s :=
  if_neg (by rw [lowNow_iff]; simp [h])

/-- A cassette loaded, its low-film match tested (R149, R156). -/
theorem loadCassette_eq (n : Nat) (s : State) :
    let low := s.ftc.lowFilm ≠ 0 ∧ n * 1440 ≤ s.ftc.lowFilm * 240
    loadCassette n s = ((s.withFtc { s.ftc with
      cap := n * 1440, p := 0, g := 0, dmax := 0, marks := Vector.replicate 4 none, e := 0, filmOut := false
      lowMatched := decide low, galley := nextCount s.ftc.galley, st := .ready, op := none, failed := none
      cut := none }).withExc { s.exc with filmOut := false }).withLink (if low then s.link.raise .filmLow else s.link) := by
  intro low
  have hlow : (s.ftc.load n).lowNow = decide low := by
    rw [Bool.eq_iff_iff, lowNow_iff, decide_eq_true_iff]
    simp [Film.load, low, show Config.inchSteps = 1440 from rfl]
  unfold loadCassette
  rw [testLowFilm_eq]
  simp only [State.withExc_ftc, State.withFtc_ftc, hlow, decide_eq_true_eq]
  rfl

theorem cassetteBusy_iff (s : State) : cassetteBusy s = true ↔
    s.ftc.st = .moving ∨ s.ftc.st = .cutting ∨ (s.exc.ptr ≠ none ∧ (s.exc.moveOut = true ∨ s.exc.stage ≠ .move)) ∨
      s.exc.cutWait = true := by
  simp [cassetteBusy, moveRequested, Option.isSome_iff_ne_none, or_assoc]

/-- Settles O52: the tests in their order, and the load with the low-film test that follows it. -/
theorem cassetteLoadsAFreshFilm : Obligations.CassetteLoadsAFreshFilm := by
  unfold Obligations.CassetteLoadsAFreshFilm
  refine ⟨fun w n s h hclean hw => ?_, fun params s h hp => ?_, cassetteBusy_iff⟩
  · have hbody : commandBody .cassette [w] (heard s) =
        if !inRange 12 2400 n then refuse .range (heard s)
        else if s.ftc.sensor ≠ .present then refuse .state (heard s)
        else if cassetteBusy s then refuse .busy (heard s)
        else (loadCassette n.toNat (heard s), okWith [field "CAP" (depthNat (loadCassette n.toNat (heard s)).ftc.cap),
          field "GALLEY" (decimal (loadCassette n.toNat (heard s)).ftc.galley)]) := by
      simp only [commandBody, cassetteBody, hw]
      rfl
    refine ⟨fun hn => ?_, fun h1 h2 hs => ?_, fun h1 h2 hs hb => ?_, fun h1 h2 hs hb => ?_⟩
    · rw [← no_range]
      exact command_refused rfl h (clean_singleton hclean) (hbody.trans (if_pos (by rw [inRange_eq_false hn]; rfl)))
    · rw [← no_state]
      refine command_refused rfl h (clean_singleton hclean) (hbody.trans ?_)
      rw [inRange_eq_true h1 h2]
      exact if_pos hs
    · rw [← no_busy]
      refine command_refused rfl h (clean_singleton hclean) (hbody.trans ?_)
      rw [inRange_eq_true h1 h2, hb, hs]
      rfl
    · intro galley low
      have hload := loadCassette_eq n.toNat (heard s)
      have hcap : (loadCassette n.toNat (heard s)).ftc.cap = n.toNat * 1440 := by rw [hload]; rfl
      have hgalley : (loadCassette n.toNat (heard s)).ftc.galley = galley := by rw [hload]; rfl
      have htext : okWith [field "CAP" (depthNat (n.toNat * 1440)), field "GALLEY" (decimal galley)] =
          ascii "OK CAP=" ++ depthNat (n.toNat * 1440) ++ ascii " GALLEY=" ++ decimal galley := by
        simp [okWith, ok, fields, field, ascii]
      rw [hcap, hgalley, htext, hload] at hbody
      refine command_done rfl h (clean_singleton hclean) ?_ (hbody.trans ?_)
      · show Link.resetTaken (if low then (heard s).link.raise .filmLow else (heard s).link) = false
        split
        · exact (link_raise_reported .filmLow (heard s).link).resetTaken.trans h.1
        · exact h.1
      · rw [inRange_eq_true h1 h2, hb, hs]
        rfl
  · refine command_syntax rfl h ?_
    rcases params with _ | ⟨w, _ | ⟨v, ws⟩⟩
    · rfl
    · simp only [commandBody, cassetteBody, hp w rfl]
    · rfl

/-! ### Cuts -/

theorem atOnce_iff (f : Film) (target : Nat) : f.atOnce target = true ↔ f.p = target ∨ (f.stepping target).steps = 0 := by
  simp [Film.atOnce]

/-- A cut's margin move issued: on the stepper, or at once with the cutter following (R159). -/
theorem issueMargin_eq {target : Nat} {s : State} :
    (s.ftc.p ≠ target → 0 < (s.ftc.stepping target).steps → issueMargin target s =
      s.withFtc { s.ftc with st := .cutting, op := some (.margin (s.ftc.stepping target)), failed := none }) ∧
      (s.ftc.p = target ∨ (s.ftc.stepping target).steps = 0 → s.ftc.lowMatched = true → issueMargin target s =
        s.withFtc { s.ftc with
          p := target, dmax := max s.ftc.dmax target, e := (s.ftc.stepping target).newE, st := .cutting
          op := some .cutter, failed := none }) := by
  refine ⟨fun hp hs => if_neg ?_, fun h hm => (if_pos ((atOnce_iff _ _).mpr h)).trans ?_⟩
  · rw [atOnce_iff, not_or]
    exact ⟨hp, by omega⟩
  · rw [marginMoved, testLowFilm_matched (by exact hm)]
    rfl

theorem nextExposure_isSome_iff (st : Store) :
    st.nextExposure.isSome = true ↔ ∃ r ∈ st.records, r.exp = .pending ∧ r.discard = false := by
  simp [Store.nextExposure]

/-- Settles O53: FEEDCUT's refusals and its cut, and a stepper operation as the feed correction has it. -/
theorem feedcutCutsBelowTheDeepestLine : Obligations.FeedcutCutsBelowTheDeepestLine := by
  unfold Obligations.FeedcutCutsBelowTheDeepestLine
  refine ⟨fun s h => ?_, fun w ws s h => command_syntax rfl h rfl, fun f target => ⟨rfl, rfl, ?_, rfl⟩⟩
  · have hbody : commandBody .feedCut [] (heard s) =
        if s.ftc.st = .noCassette ∨ s.ftc.st = .faulted then refuse .state (heard s)
        else if s.ftc.st ≠ .ready ∨ s.exc.st ≠ .idle ∨ s.sls.nextExposure.isSome then refuse .busy (heard s)
        else (startCut 0 (heard s), ok) := rfl
    refine ⟨fun hst => ?_, fun hn hf hb => ?_, fun hst he hr => ?_⟩
    · rw [← no_state]
      exact command_refused rfl h rfl (hbody.trans (if_pos hst))
    · rw [← no_busy]
      refine command_refused rfl h rfl (hbody.trans ((if_neg (not_or.mpr ⟨hn, hf⟩)).trans (if_pos ?_)))
      rwa [nextExposure_isSome_iff]
    · intro target
      have hnone : ¬ s.sls.nextExposure.isSome = true := by
        rw [nextExposure_isSome_iff]
        rintro ⟨r, hmem, hp, hd⟩
        rw [hr r hmem hp] at hd
        cases hd
      have hdone : exec (.feedCut []) s = .next (finish s (answered (ascii "OK") (startCut 0 (heard s)))) := by
        refine command_done rfl h rfl ((startCut_works (b := true) 0 (heard s)).link.resetTaken.trans h.1) (hbody.trans ?_)
        rw [if_neg (by simp [hst]), if_neg (by simp [hst, he, hnone])]
        rfl
      set s1 := (heard s).withFtc { s.ftc with st := .cutting, cut := some { target := target, line := 0 } }
      have hstart : startCut 0 (heard s) = issueMargin target s1 := rfl
      obtain ⟨hmove, hcut⟩ := issueMargin_eq (target := target) (s := s1)
      refine ⟨fun hp hs => ?_, fun hp hm => ?_⟩
      · rw [hdone, hstart, hmove hp hs]
        rfl
      · rw [hdone, hstart, hcut (.inl hp) hm]
        rfl
  · show decide ((target : Int) - f.p > 0) = true ↔ _
    rw [decide_eq_true_iff]
    omega

/-! ### TUNE -/

theorem keyTwice_eq_false_iff {κ ν : Type} [BEq κ] [LawfulBEq κ] (ps : List (κ × ν)) :
    keyTwice ps = false ↔ (ps.map Prod.fst).Nodup := by
  induction ps with
  | nil => simp [keyTwice]
  | cons p ps ih =>
    rw [List.map_cons, List.nodup_cons, keyTwice, Bool.or_eq_false_iff, ih, List.any_eq_false]
    refine and_congr_left' ⟨fun h hm => ?_, fun h q hq hk => h ?_⟩
    · obtain ⟨q, hq, hk⟩ := List.mem_map.mp hm
      exact h q hq (beq_iff_eq.mpr hk)
    · exact List.mem_map.mpr ⟨q, hq, beq_iff_eq.mp hk⟩

/-- The film settings with the pairs of a TUNE. -/
def Film.tuned (ps : List (TuneKey × TuneValue)) (f : Film) : Film :=
  { f with
    feed := (tunedTo .feed ps).getD f.feed
    lowFilm := ((tunedTo .lowFilm ps).map Int.toNat).getD f.lowFilm
    autoCut := ((tunedTo .autoCut ps).map Int.toNat).getD f.autoCut
    margin := ((tunedTo .margin ps).map Int.toNat).getD f.margin }

/-- The pairs bring a low-film match (R156). -/
def Film.lowTuned (ps : List (TuneKey × TuneValue)) (f : Film) : Bool :=
  (tunedTo .lowFilm ps).isSome && (f.tuned ps).lowNow

/-- The rest timer with the interval a TUNE gives, where it gives one (R183). -/
def restTuned (interval : Option Int) (timer : Option Nat) : Option Nat :=
  match interval with
  | none => timer
  | some v => if timer = none ∨ v = 0 then none else some v.toNat

/-- The state with the pairs of a TUNE, the proof mode apart (R190). -/
def State.tuned (ps : List (TuneKey × TuneValue)) (s : State) : State :=
  { s with
    link := if s.ftc.lowTuned ps then s.link.raise .filmLow else s.link
    opc := { s.opc with
      debounce := ((tunedTo .debounce ps).map Int.toNat).getD s.opc.debounce
      restInterval := ((tunedTo .rest ps).map Int.toNat).getD s.opc.restInterval
      restTimer := restTuned (tunedTo .rest ps) s.opc.restTimer }
    exc := { s.exc with density := ((tunedTo .density ps).map Int.toNat).getD s.exc.density }
    ftc := { s.ftc.tuned ps with lowMatched := s.ftc.lowMatched || s.ftc.lowTuned ps }
    prc := { s.prc with grant := ((tunedTo .grant ps).map Int.toNat).getD s.prc.grant } }

theorem tunedTo_cons_num (k k' : TuneKey) (v : Int) (m : Bool) (ps : List (TuneKey × TuneValue)) :
    tunedTo k ((k', .num v m) :: ps) = if k' = k then some v else tunedTo k ps := by
  unfold tunedTo
  rw [List.findSome?_cons]
  by_cases h : k' = k <;> simp [h]

theorem tunedTo_cons_mode (k k' : TuneKey) (m : ProofMode) (ps : List (TuneKey × TuneValue)) :
    tunedTo k ((k', .mode m) :: ps) = tunedTo k ps := rfl

theorem tunedTo_eq_none {k : TuneKey} {ps : List (TuneKey × TuneValue)} (h : k ∉ ps.map Prod.fst) : tunedTo k ps = none := by
  induction ps with
  | nil => rfl
  | cons p ps ih =>
    obtain ⟨k', v⟩ := p
    rw [List.map_cons, List.mem_cons, not_or] at h
    obtain ⟨hk, hps⟩ := h
    cases v with
    | num v m => rw [tunedTo_cons_num, if_neg (Ne.symm hk), ih hps]
    | mode m => rw [tunedTo_cons_mode, ih hps]

theorem State.tuned_nil (s : State) : s.tuned [] = s := by
  simp [State.tuned, Film.tuned, Film.lowTuned, restTuned, tunedTo]

theorem setRest_eq {v : Int} (hv : 0 ≤ v) (o : Optics) :
    o.setRest v.toNat = { o with restInterval := v.toNat, restTimer := restTuned (some v) o.restTimer } := by
  have hzero : v.toNat = 0 ↔ v = 0 := by omega
  unfold Optics.setRest restTuned
  cases o.restTimer <;> simp [hzero]

/-- A pair taken before others, none of its key, is one of the pairs (R190). -/
theorem tuned_tune {p : TuneKey × TuneValue} {ps : List (TuneKey × TuneValue)} (hp : p.1 ≠ .proof)
    (hn : p.1 ∉ ps.map Prod.fst) (hr : tuneInRange p = true) (s : State) : (tune s p).tuned ps = s.tuned (p :: ps) := by
  obtain ⟨k, v⟩ := p
  have hnone : tunedTo k ps = none := tunedTo_eq_none hn
  cases v with
  | mode m =>
    have hsame : tune s (k, .mode m) = s := by
      cases k with
      | proof => exact absurd rfl hp
      | _ => rfl
    rw [hsame]
    rfl
  | num v m =>
    cases k with
    | proof => exact absurd rfl hp
    | lowFilm =>
      simp [tune, State.tuned, Film.tuned, Film.lowTuned, tunedTo_cons_num, hnone, testLowFilm_eq]
      exact ⟨rfl, rfl⟩
    | rest =>
      have hv : 0 ≤ v := by
        simp only [tuneInRange, Bool.and_eq_true, inRange_iff] at hr
        exact hr.2.1
      simp [tune, setRest_eq hv, State.tuned, Film.tuned, Film.lowTuned, tunedTo_cons_num, hnone]
      rfl
    | _ => simp [tune, State.tuned, Film.tuned, Film.lowTuned, Film.lowNow, tunedTo_cons_num, hnone]

/-- The pairs that do not give the proof mode, one after another (R190). -/
theorem foldl_tune {ps : List (TuneKey × TuneValue)} (hk : (ps.map Prod.fst).Nodup) (hp : ∀ p ∈ ps, p.1 ≠ .proof)
    (hr : ∀ p ∈ ps, tuneInRange p = true) (s : State) : ps.foldl tune s = s.tuned ps := by
  induction ps generalizing s with
  | nil => exact s.tuned_nil.symm
  | cons p ps ih =>
    rw [List.map_cons, List.nodup_cons] at hk
    rw [List.foldl_cons, ih hk.2 (fun q hq => hp q (List.mem_cons_of_mem _ hq)) (fun q hq => hr q (List.mem_cons_of_mem _ hq)),
      tuned_tune (hp p List.mem_cons_self) hk.1 (hr p List.mem_cons_self)]

theorem tunedTo_filter {k : TuneKey} (hk : k ≠ .proof) (ps : List (TuneKey × TuneValue)) :
    tunedTo k (ps.filter fun p => !p.1.isProof) = tunedTo k ps := by
  induction ps with
  | nil => rfl
  | cons p ps ih =>
    obtain ⟨k', v⟩ := p
    by_cases hp : k' = .proof
    · subst hp
      have hdrop : (ps.filter fun p => !p.1.isProof) = ((.proof, v) :: ps).filter fun p => !p.1.isProof := rfl
      rw [← hdrop, ih]
      cases v with
      | num v m => rw [tunedTo_cons_num, if_neg (Ne.symm hk)]
      | mode m => rw [tunedTo_cons_mode]
    · rw [List.filter_cons_of_pos (by simpa [TuneKey.isProof] using hp)]
      cases v with
      | num v m => rw [tunedTo_cons_num, tunedTo_cons_num, ih]
      | mode m => rw [tunedTo_cons_mode, tunedTo_cons_mode, ih]

theorem tuned_filter (ps : List (TuneKey × TuneValue)) (s : State) :
    s.tuned (ps.filter fun p => !p.1.isProof) = s.tuned ps := by
  have hkeep (k : TuneKey) (hk : k ≠ .proof) := tunedTo_filter hk ps
  unfold State.tuned Film.lowTuned Film.tuned
  rw [hkeep .feed nofun, hkeep .lowFilm nofun, hkeep .autoCut nofun, hkeep .margin nofun, hkeep .debounce nofun,
    hkeep .rest nofun, hkeep .density nofun, hkeep .grant nofun]

theorem tunedMode_cons {k : TuneKey} (hk : k ≠ .proof) (v : TuneValue) (ps : List (TuneKey × TuneValue)) :
    tunedMode ((k, v) :: ps) = tunedMode ps := by
  cases k with
  | proof => exact absurd rfl hk
  | _ => rfl

theorem tunedMode_eq_none {ps : List (TuneKey × TuneValue)} (h : .proof ∉ ps.map Prod.fst) : tunedMode ps = none := by
  induction ps with
  | nil => rfl
  | cons p ps ih =>
    rw [List.map_cons, List.mem_cons, not_or] at h
    rw [tunedMode_cons (Ne.symm h.1), ih h.2]

theorem setMode_self (p : Proof) : p.setMode p.mode = p := if_pos rfl

/-- The pair that gives the proof mode, where there is one (R177). -/
theorem foldl_proof {ps : List (TuneKey × TuneValue)} (hk : (ps.map Prod.fst).Nodup) (s : State) :
    (ps.filter fun p => p.1.isProof).foldl tune s = s.withPrc (s.prc.setMode ((tunedMode ps).getD s.prc.mode)) := by
  induction ps with
  | nil => exact congrArg s.withPrc (setMode_self s.prc).symm
  | cons p ps ih =>
    rw [List.map_cons, List.nodup_cons] at hk
    obtain ⟨k, v⟩ := p
    by_cases hp : k = .proof
    · subst hp
      have hlast : (ps.filter fun p => p.1.isProof) = [] := by
        refine List.filter_eq_nil_iff.mpr fun q hq hb => hk.1 (List.mem_map.mpr ⟨q, hq, ?_⟩)
        exact beq_iff_eq.mp hb
      rw [List.filter_cons_of_pos (by exact rfl), hlast]
      cases v with
      | num v m =>
        have hmode : tunedMode ((.proof, .num v m) :: ps) = none := tunedMode_eq_none (ps := ps) hk.1
        rw [hmode, Option.getD_none, setMode_self]
        rfl
      | mode m => rfl
    · rw [List.filter_cons_of_neg (by simpa [TuneKey.isProof] using hp), ih hk.2, tunedMode_cons hp]

/-- A TUNE's pairs, all in their ranges, in the one event (R190). -/
theorem tuneAll_eq {ps : List (TuneKey × TuneValue)} (hk : keyTwice ps = false) (hr : ps.all tuneInRange = true) (s : State) :
    tuneAll ps s = (s.tuned ps).withPrc ((s.tuned ps).prc.setMode ((tunedMode ps).getD s.prc.mode)) := by
  rw [keyTwice_eq_false_iff] at hk
  have hnodup : ((ps.filter fun p => !p.1.isProof).map Prod.fst).Nodup := hk.sublist (List.filter_sublist.map _)
  unfold tuneAll
  rw [List.foldl_append, foldl_tune hnodup, tuned_filter, foldl_proof hk]
  · rfl
  · intro p hp
    simpa [TuneKey.isProof] using (List.mem_filter.mp hp).2
  · exact fun p hp => List.all_eq_true.mp hr p (List.mem_filter.mp hp).1

theorem keyTwice_of_parseTune {params : List Text} {ps : List (TuneKey × TuneValue)} (h : parseTune params = some ps) :
    keyTwice ps = false := by
  unfold parseTune at h
  split at h
  · cases h
  · split at h
    · cases h
    · rename_i hk
      rw [← Option.some.inj h]
      exact Bool.not_eq_true _ ▸ hk

theorem tuneBody_badSyntax {params : List Text} (hne : params ≠ []) (hp : parseTune params = none) (s : State) :
    commandBody .tune params s = refuse .badSyntax s := by
  cases params with
  | nil => exact absurd rfl hne
  | cons w ws => simp only [commandBody, tuneBody, hp]

theorem tuneBody_pairs {params : List Text} {ps : List (TuneKey × TuneValue)} (hne : params ≠ [])
    (hp : parseTune params = some ps) (s : State) :
    commandBody .tune params s = if ps.all tuneInRange then (tuneAll ps s, ok) else refuse .range s := by
  cases params with
  | nil => exact absurd rfl hne
  | cons w ws => simp only [commandBody, tuneBody, hp]

theorem tuned_resetTaken (ps : List (TuneKey × TuneValue)) (s : State) : (s.tuned ps).link.resetTaken = s.link.resetTaken := by
  unfold State.tuned
  dsimp only
  split
  · exact (link_raise_reported .filmLow s.link).resetTaken
  · rfl

/-- Settles O12: the four outcomes, and the pairs' effect field by field. -/
theorem tuneSetsEveryPairOrNone : Obligations.TuneSetsEveryPairOrNone := by
  unfold Obligations.TuneSetsEveryPairOrNone
  refine ⟨fun s h => command_done rfl h rfl h.1 rfl, fun params s h hne hp => command_syntax rfl h (tuneBody_badSyntax hne hp _),
    fun params ps s h hclean hne hp hr => ?_, fun params ps s h hclean hne hp hr => ?_, lowNow_iff⟩
  · rw [← no_range]
    refine command_refused rfl h hclean ((tuneBody_pairs hne hp _).trans (if_neg ?_))
    rw [hr]
    exact Bool.false_ne_true
  · intro film low proof
    have hbody := (tuneBody_pairs hne hp (heard s)).trans (if_pos hr)
    rw [tuneAll_eq (keyTwice_of_parseTune hp) hr] at hbody
    have hprc : ((heard s).tuned ps).prc.setMode ((tunedMode ps).getD (heard s).prc.mode) =
        if proof.mode = s.prc.mode then proof
        else
          match proof.mode, s.prc.st with
          | .required, .skipping => { proof with st := .waiting }
          | .required, .faulted => { proof with timer := none }
          | .best, .faulted => { proof with timer := some proof.grant }
          | _, _ => proof := by
      show (if s.prc.mode = proof.mode then proof else _) = _
      by_cases hm : proof.mode = s.prc.mode
      · rw [if_pos hm.symm, if_pos hm]
      · rw [if_neg (Ne.symm hm), if_neg hm]
        rfl
    rw [hprc] at hbody
    exact command_done rfl h hclean ((tuned_resetTaken ps (heard s)).trans h.1) hbody

/-! ### CLEARFAULT -/

theorem surveyRetry_eq_self {s : State} (h : ∀ v, s.opc.survey = some v → v.stage ≠ .failed) : surveyRetry s = s := by
  unfold surveyRetry
  split
  · rename_i hs
    exact absurd rfl (h _ hs)
  · rfl

theorem surveyRetry_failed {s : State} {p : Fin 4} (h : s.opc.survey = some { pos := p, stage := .failed }) :
    surveyRetry s = surveyShift p s := by
  simp only [surveyRetry, h]

/-- The shift of a survey requested of a strip that stands at no known position (R111, R118). -/
theorem surveyShift_unknown {s : State} (p : Fin 4) (hf : s.opc.strip.flight = none) (hh : s.opc.strip.held = none)
    (hw : s.opc.strip.waiting = []) : surveyShift p s = s.withOpc
      { s.opc with
        survey := some { pos := p, stage := .shifting }
        strip := { held := none, waiting := []
                   flight := some { target := p.val, by_ := .survey, drive := .toward } } } := by
  have hreq : s.opc.strip.request .strip .survey p.val =
      { held := none, waiting := [], flight := some { target := p.val, by_ := .survey, drive := .toward } } := by
    rw [mech_request_rest _ _ _ hf, startOrRest, hh, hw, if_neg nofun]
    rfl
  rw [← hreq]
  rfl

theorem exposureRetry_survey (s : State) : (exposureRetry s).opc.survey = s.opc.survey := by
  rw [(exposureRetry_works (b := true) s).opc]

/-- A FAULTED Exposure Controller whose line goes on (R142). -/
theorem exposureRetry_eq {s : State} (hst : s.exc.st = .faulted) (he : s.exc.ending = none) :
    (s.exc.stopReq = some .hard → exposureRetry s = enterStopped s) ∧
      (s.exc.stopReq ≠ some .hard → s.exc.stage ≠ .arm → exposureRetry s = goElement s) ∧
      (s.exc.stopReq ≠ some .hard → s.exc.stage = .arm →
        exposureRetry s = armTest (s.withExc { s.exc with misses := 0 })) := by
  unfold exposureRetry
  rw [if_pos ⟨hst, by rw [he]; rfl⟩]
  exact ⟨fun h => if_pos h, fun h hs => (if_neg h).trans (if_neg hs), fun h hs => (if_neg h).trans (if_pos hs)⟩

theorem clearFault_resetTaken (b : FaultBlock) (s : State) :
    (clearFault b s).link.resetTaken = s.link.resetTaken := by
  cases b with
  | exposure =>
    set s1 := (s.withLink { s.link with exposure := .empty }).withOpc { s.opc with stallHold := false }
    have hsurvey : (surveyRetry (exposureRetry s1)).link = (exposureRetry s1).link := by
      unfold surveyRetry
      split <;> simp
    exact (congrArg Link.resetTaken hsurvey).trans (exposureRetry_works (b := true) s1).link.resetTaken
  | film => exact (retryFilm_works (b := true) _).link.resetTaken
  | proof =>
    have hproof (u : State) : (proofRetry u).link = u.link := by
      unfold proofRetry
      (repeat' split) <;> rfl
    unfold clearFault
    rw [hproof]
    rfl

/-- A CLEARFAULT that names a block (R194). -/
theorem clearFault_event {w : Text} {b : FaultBlock} {s : State} (h : LinkReady s) (hc : cleanWord w = true)
    (hw : FaultBlock.ofText w = some b) :
    exec (.clearFault [w]) s = .next (finish s (answered (ascii "OK") (clearFault b (heard s)))) := by
  refine command_done rfl h (clean_singleton hc) ((clearFault_resetTaken b (heard s)).trans h.1) ?_
  simp only [commandBody, clearFaultBody, hw]
  rfl

/-- A FAULTED transport's retry of a line's move (R160). -/
theorem retryFilm_lineMove {s : State} {m : LineMove} (hst : s.ftc.st = .faulted) (hf : s.ftc.failed = some (.lineMove m)) :
    (¬ (s.exc.ptr = some m.number ∧ s.exc.moveOut = true) →
      retryFilm s = s.withFtc { s.ftc with st := .ready, failed := none }) ∧
      (s.exc.ptr = some m.number → s.exc.moveOut = true → s.ftc.p ≠ m.target → 0 < (s.ftc.stepping m.target).steps →
        retryFilm s = s.withFtc
          { s.ftc with st := .moving, op := some (.lineMove m (s.ftc.stepping m.target)), failed := none }) ∧
      (s.exc.ptr = some m.number → s.exc.moveOut = true → s.ftc.p = m.target ∨ (s.ftc.stepping m.target).steps = 0 →
        retryFilm s = moveCompleted m (testLowFilm (s.withFtc (s.ftc.lineMoved m (s.ftc.stepping m.target).newE)))) := by
  simp only [retryFilm, hf, if_pos hst]
  refine ⟨fun hn => if_neg hn, fun hp hm ht hs => ?_, fun hp hm ht => ?_⟩ <;> rw [if_pos ⟨hp, hm⟩, issueLineMove]
  · rw [if_neg (by rw [atOnce_iff, not_or]; exact ⟨ht, by omega⟩)]
  · rw [if_pos ((atOnce_iff _ _).mpr ht)]

theorem proofRetry_eq_self {s : State}
    (h : s.prc.st = .idle ∨ s.prc.st = .sending ∨ s.prc.st = .skipping ∨ (s.prc.st = .waiting ∧ s.prc.ask = false)) :
    proofRetry s = s := by
  unfold proofRetry
  rcases h with h | h | h | ⟨h, ha⟩ <;> simp only [h]
  rw [ha]
  rfl

theorem proofRetry_faulted {s : State} (h : s.prc.st = .faulted) :
    proofRetry s = s.withPrc { askAfresh s { s.prc with room := 0 } with st := .waiting } := by
  simp only [proofRetry, h]

theorem proofRetry_waiting {s : State} (h : s.prc.st = .waiting) (ha : s.prc.ask = true) :
    proofRetry s = s.withPrc (askAfresh s s.prc) := by
  simp only [proofRetry, h]
  exact if_pos ha

theorem faultBlock_ofText_eq_none {w : Text} (he : w ≠ ascii "EXPOSURE") (hf : w ≠ ascii "FILM") (hp : w ≠ ascii "PROOF") :
    FaultBlock.ofText w = none := by
  simp [FaultBlock.ofText, wordValue, he.symm, hf.symm, hp.symm]

/-- Settles O17: the retry of each block by what it finds. -/
theorem clearFaultEmptiesItsRecord : Obligations.ClearFaultEmptiesItsRecord := by
  unfold Obligations.ClearFaultEmptiesItsRecord
  refine ⟨fun s h => ?_, fun s h => ?_, fun s h => ?_, fun params s h he hf hp => ?_⟩
  · intro s1
    have hevent := clearFault_event (b := .exposure) h (w := ascii "EXPOSURE") (by decide) rfl
    have hclear : clearFault .exposure (heard s) = surveyRetry (exposureRetry s1) := rfl
    rw [hclear] at hevent
    refine ⟨fun hst hv => ?_, fun p hst hv hfl hh hw => ?_, fun hst he hv => ?_⟩
    · have hsame : exposureRetry s1 = s1 := if_neg fun hc => hst hc.1
      rw [hevent, hsame, surveyRetry_eq_self (s := s1) hv]
    · have hsame : exposureRetry s1 = s1 := if_neg fun hc => hst hc.1
      rw [hevent, hsame, surveyRetry_failed (s := s1) hv, surveyShift_unknown (s := s1) p hfl hh hw]
    · have hsurvey : surveyRetry (exposureRetry s1) = exposureRetry s1 :=
        surveyRetry_eq_self fun v hs => hv v ((exposureRetry_survey s1).symm.trans hs)
      rw [hsurvey] at hevent
      obtain ⟨hstop, hgo, harm⟩ := exposureRetry_eq (s := s1) hst he
      refine ⟨fun hr => ?_, fun hr hs => ?_, fun hr hs => ?_⟩
      · rw [hevent, hstop hr]
        rfl
      · rw [hevent, hgo hr hs]
      · rw [hevent, harm hr hs]
        rfl
  · intro s1
    have hevent : exec (.clearFault [ascii "FILM"]) s = .next (finish s (answered (ascii "OK") (retryFilm s1))) :=
      clearFault_event (b := .film) h (by decide) rfl
    rw [hevent]
    refine ⟨fun hst => ?_, fun hst hf => ?_, fun m hst hf => ?_, fun c hst hf hc => ?_⟩
    · rw [show retryFilm s1 = s1 from if_neg hst]
    · have hf : s1.ftc.failed = some .cutter := hf
      rw [retryFilm, if_pos (by exact hst), hf]
      rfl
    · obtain ⟨hdone, hmove, hstands⟩ := retryFilm_lineMove (s := s1) hst hf
      refine ⟨fun hn => ?_, fun hp hm ht hs => ?_, fun hp hm ht => ?_⟩
      · rw [hdone hn]
        rfl
      · rw [hmove hp hm ht hs]
        rfl
      · rw [hstands hp hm ht]
        rfl
    · have hretry : retryFilm s1 = issueMargin c.target s1 := by
        have hf : s1.ftc.failed = some .margin := hf
        have hc : s1.ftc.cut = some c := hc
        rw [retryFilm, if_pos (by exact hst), hf]
        dsimp only
        rw [hc]
      obtain ⟨hmove, hstands⟩ := issueMargin_eq (target := c.target) (s := s1)
      refine ⟨fun ht hs => ?_, fun ht hm => ?_⟩
      · rw [hretry, hmove ht hs]
        rfl
      · rw [hretry, hstands ht hm]
        rfl
  · intro s1 asking
    have hevent : exec (.clearFault [ascii "PROOF"]) s = .next (finish s (answered (ascii "OK") (proofRetry s1))) :=
      clearFault_event (b := .proof) h (by decide) rfl
    have hask (p : Proof) (hport : p.port = s.prc.port) : askAfresh s1 p = asking p := by
      have haborting : aborting s1 = decide (s.cmp.st = .aborting) := beq_eq_decide _ _
      have hbegin : p.beginAsk = if s.prc.port = none then { p with port := some .ask, ask := true, askDue := false, timer := some p.grant }
          else { p with askDue := true, timer := some p.grant } := by
        unfold Proof.beginAsk
        rw [hport]
        cases s.prc.port <;> rfl
      rw [askAfresh, haborting, hbegin]
      simp only [decide_eq_true_eq, asking]
    rw [hevent]
    refine ⟨fun hst => ?_, fun hst => ?_, fun hst ha => ?_⟩
    · rw [show proofRetry s1 = s1 from proofRetry_eq_self hst]
    · rw [proofRetry_faulted (s := s1) hst, hask { s1.prc with room := 0 } rfl]
      rfl
    · rw [proofRetry_waiting (s := s1) hst ha, hask s1.prc rfl]
      rfl
  · refine command_syntax rfl h ?_
    rcases params with _ | ⟨w, _ | ⟨v, ws⟩⟩
    · rfl
    · have hw : FaultBlock.ofText w = none :=
        faultBlock_ofText_eq_none (fun e => he (by rw [e])) (fun e => hf (by rw [e])) (fun e => hp (by rw [e]))
      simp only [commandBody, clearFaultBody, hw]
    · rfl

end Sys2Proof.Machine
end

section
/-! PROOF. The Proof Controller: the printer's messages and what they move (R166 to R170, R173), its faults and its silence (R174
to R178). -/

namespace Sys2Proof.Machine

-- One declaration at a time: it keeps the threads, and with them the memory, of the compile small.
set_option Elab.async false

/-! ### The printer's bytes -/

theorem finish_half (s u : State) : (finish s u).prc.half = u.prc.half := by
  obtain ⟨-, -, -, h⟩ := (finish_followsUp s u).prc
  exact h

theorem byteRead_eq (s : State) (b : Byte) :
    byteRead s b = if s.prc.half ≠ none ∨ b = 0x50#8 then finish s (printerByte s b) else printerByte s b := by
  unfold byteRead
  by_cases h : s.prc.half ≠ none ∨ b = 0x50#8
  · rw [if_pos h, if_pos ((completesMessage_iff b s).mpr h)]
  · rw [if_neg h, if_neg (fun hc => h ((completesMessage_iff b s).mp hc))]

/-- A byte that stands in for the value of a message half received (R166). -/
theorem byteRead_half {s : State} (b : Byte) :
    (s.prc.half = some .ready → byteRead s b = finish s (takeReady b (s.withPrc { s.prc with half := none }))) ∧
      (s.prc.half = some .fault → byteRead s b = finish s (takeFault b (s.withPrc { s.prc with half := none }))) := by
  refine ⟨fun h => ?_, fun h => ?_⟩ <;> rw [byteRead_eq, if_pos (.inl (by simp [h])), printerByte, h]

/-- The bytes behind a message leave a message half received, or nothing (R166). -/
theorem messageBytes {head : PrinterHead} {m : PrinterMessage} {s u : State} (hw : completesNoMessage m.after = true)
    (hm : printerBytes (messageRest head m.value s) s = finish s u) (hu : u.prc.half = none) :
    printerBytes (messageRest head m.value s ++ m.after) s =
      (finish s u).withPrc { (finish s u).prc with half := halfAfter m.after } := by
  rw [printerBytes_append, hm]
  exact printerBytes_of_completesNone hw ((finish_half s u).trans hu)

theorem half_cases (o : Option PrinterHead) :
    (o ≠ some .fault → o = none ∨ o = some .ready) ∧ (o ≠ some .ready → o = none ∨ o = some .fault) := by
  rcases o with _ | _ | _ <;> simp

theorem aborting_eq (s : State) : aborting s = decide (s.cmp.st = .aborting) := beq_eq_decide _ _

theorem restartGrant_eq (s : State) : restartGrant s = s.withPrc { s.prc with
    timer := if s.cmp.st = .aborting then s.prc.timer else some s.prc.grant } := by
  rw [restartGrant, aborting_eq]
  by_cases h : s.cmp.st = .aborting
  · rw [if_pos (by simp [h]), if_pos h]
    rfl
  · rw [if_neg (by simp [h]), if_neg h]

theorem silent_iff (p : Proof) : p.silent = true ↔ p.st = .skipping ∨ p.st = .faulted := by
  simp [Proof.silent]

/-- A READY where it is waited for, and where it is not (R168). -/
theorem takeReady_eq (n : Byte) (s : State) :
    (s.prc.ask = false → s.prc.st ≠ .faulted → takeReady n s = s) ∧
      (s.prc.ask = true ∨ s.prc.st = .faulted → takeReady n s = s.withPrc { s.prc with
        st := if s.prc.st = .skipping ∨ s.prc.st = .faulted then .idle else s.prc.st
        ask := false, askDue := false, room := min n.toNat 15
        afterZero := decide (n = 0#8) && rowWanted s
        timer := if s.cmp.st = .aborting then s.prc.timer else some s.prc.grant }) := by
  unfold takeReady
  refine ⟨fun ha hst => if_neg (by simp [ha, hst]), fun h => (if_pos (by simpa using h)).trans ?_⟩
  have hrows : Config.printerRows = 15 := rfl
  have hzero : (min n.toNat Config.printerRows == 0) = decide (n = 0#8) := by
    rw [beq_eq_decide, decide_eq_decide, hrows, ← BitVec.toNat_inj]
    simp only [BitVec.toNat_ofNat]
    omega
  have hst : (if s.prc.silent then PrcState.idle else s.prc.st) =
      if s.prc.st = .skipping ∨ s.prc.st = .faulted then .idle else s.prc.st := by
    simp only [silent_iff]
  rw [readyTaken, restartGrant_eq, hzero, hst]
  rfl

/-- The oldest outstanding row is printed (R170). -/
theorem takePrinted_eq {s : State} {w : ProofRow} {ws : List ProofRow} (h : s.prc.out = w :: ws) :
    takePrinted s = rowPrinted w (s.withPrc { s.prc with
      out := ws, afterZero := false, timer := if s.cmp.st = .aborting then s.prc.timer else some s.prc.grant }) := by
  simp only [takePrinted, h]
  rw [restartGrant_eq]
  rfl

theorem proofDone_eq (r : LineRecord) (s : State) :
    (r.cutAfter = false → proofDone r s = (s.withSls
      { s.sls.update r.number (fun r => { r with proof := .done }) with lastProofed := r.number }).withLink
        (s.link.raise .proof)) ∧
      (r.cutAfter = true → proofDone r s = ((s.withSls
        { s.sls.update r.number (fun r => { r with proof := .done }) with lastProofed := r.number }).withPrc
          { s.prc with
            galley := nextCount s.prc.galley, headerDue := true
            galleyWait := if s.prc.galleyWait = some r.number then none else s.prc.galleyWait }).withLink
              (s.link.raise .proof)) := by
  unfold proofDone proofEnded
  refine ⟨fun h => ?_, fun h => ?_⟩ <;> rw [h] <;> rfl

theorem find_number {st : Store} {n : Nat} {r : LineRecord} (h : st.find n = some r) : r.number = n := by
  unfold Store.find at h
  simpa using List.find?_some h

/-- What a printed row brings its record (R170). -/
theorem rowPrinted_eq {s : State} {n j : Nat} {r : LineRecord} (hr : s.sls.find n = some r) :
    (j < rowCount s.opc r → rowPrinted (.row n j) s = s) ∧
      (rowCount s.opc r ≤ j → rowPrinted (.row n j) s = proofDone r s) := by
  simp only [rowPrinted, hr]
  exact ⟨fun h => if_neg (by omega), fun h => if_pos h⟩

/-! ### What follows an event -/

theorem rowReady_iff (s : State) : rowReady s = true ↔
    ¬ (s.prc.st = .skipping ∨ s.prc.st = .faulted) ∧ s.cmp.st ≠ .aborting ∧
      (s.prc.ptr ≠ none ∨ (s.prc.galleyWait = none ∧ ∃ r ∈ s.sls.records, r.proof = .pending ∧ r.discard = false)) := by
  have hbegin : (recordToBegin s).isSome = true ↔ s.prc.ptr = none ∧ s.prc.galleyWait = none ∧
      ∃ r ∈ s.sls.records, r.proof = .pending ∧ r.discard = false := by
    unfold recordToBegin Store.nextProof
    split <;> simp_all
  rw [rowReady, rowWanted, aborting_eq, Bool.and_eq_true, Bool.and_eq_true, Bool.or_eq_true, hbegin, Bool.not_eq_true',
    ← Bool.not_eq_true, silent_iff]
  by_cases hp : s.prc.ptr = none <;> simp [hp, Option.isSome_iff_ne_none]

/-- The state decided, by what is asked for, ready and granted (R167). -/
theorem decided_eq (p : Proof) (ready : Bool) :
    (p.ask = true ∨ p.askDue = true → p.decided ready = .waiting) ∧
      (p.ask = false → p.askDue = false →
        (ready = false → p.decided ready = .idle) ∧
          (ready = true → 0 < p.room → p.out.length < 15 → p.decided ready = .sending) ∧
          (ready = true → p.room = 0 ∨ 15 ≤ p.out.length → p.decided ready = .waiting)) := by
  have hrows : Config.printerRows = 15 := rfl
  unfold Proof.decided
  refine ⟨fun h => if_pos (by simpa using h), fun ha hd => ⟨fun hr => ?_, fun hr hm ho => ?_, fun hr h => ?_⟩⟩ <;>
    rw [if_neg (by simp [ha, hd])]
  · rw [hr]
    rfl
  · rw [if_pos hr, if_pos ⟨hm, ho⟩]
  · rw [if_pos hr, if_neg (by omega)]

theorem decided_not_silent (p : Proof) (ready : Bool) : ({ p with st := p.decided ready } : Proof).silent = false := by
  unfold Proof.decided
  (repeat' split) <;> rfl

/-- The Proof Controller with its state decided, where it is not silent (R167). -/
def decideProof (s : State) : State := if s.prc.silent then s else s.withPrc { s.prc with st := s.prc.decided (rowReady s) }

theorem proofService_eq (s : State) : proofService s = timerService (proofAct (decideProof s)) := rfl

/-- Where the Proof Controller begins nothing (R166 to R168). -/
theorem proofAct_eq_self {s : State} (h : s.prc.port ≠ none ∨ s.cmp.st = .aborting ∨
    (s.prc.askDue = false ∧ (s.prc.silent = true ∨ s.prc.ask = true ∨ rowReady s = false ∨ 15 ≤ s.prc.out.length ∨
      (s.prc.room = 0 ∧ s.prc.afterZero = true)))) : proofAct s = s := by
  have hrows : Config.printerRows = 15 := rfl
  unfold proofAct
  rw [aborting_eq]
  dsimp only
  by_cases hport : (s.prc.port.isSome || decide (s.cmp.st = .aborting)) = true
  · exact if_pos hport
  · rw [if_neg hport]
    rw [Bool.or_eq_true, not_or, Option.isSome_iff_ne_none, decide_eq_true_eq] at hport
    obtain ⟨hp, ha⟩ := hport
    rcases h with h | h | ⟨hdue, h⟩
    · exact absurd h hp
    · exact absurd h ha
    · rw [if_neg (by simp [hdue])]
      split
      · rfl
      · rename_i hn
        simp only [Bool.or_eq_true, not_or, Bool.not_eq_true, Bool.not_eq_false', decide_eq_true_eq] at hn
        obtain ⟨⟨⟨h1, h2⟩, h3⟩, h4⟩ := hn
        rcases h with h | h | h | h | ⟨h, hz⟩
        · cases h.symm.trans h1
        · cases h.symm.trans h2
        · cases h.symm.trans h3
        · omega
        · rw [if_neg (by omega), if_pos hz]

theorem timerWanted_iff (s : State) : timerWanted s = true ↔
    (s.cmp.st = .aborting → s.prc.out ≠ []) ∧
      (s.cmp.st ≠ .aborting →
        s.prc.ask = true ∨ s.prc.askDue = true ∨ s.prc.out ≠ [] ∨ (s.prc.afterZero = true ∧ rowReady s = true) ∨
          (s.prc.st = .faulted ∧ s.prc.mode = .best)) := by
  rw [timerWanted, aborting_eq]
  by_cases h : s.cmp.st = .aborting <;> simp [h, or_assoc]

/-- The grant timer after an event, by what is waited for (R169). -/
theorem timerService_eq (s : State) :
    (timerWanted s = true → s.prc.timer = none → timerService s = s.withPrc { s.prc with timer := some s.prc.grant }) ∧
      (timerWanted s = true → s.prc.timer ≠ none → timerService s = s) ∧
      (timerWanted s = false → timerService s = s.withPrc { s.prc with timer := none }) := by
  unfold timerService
  refine ⟨fun h ht => ?_, fun h ht => ?_, fun h => if_neg (by simp [h])⟩ <;> rw [if_pos h]
  · rw [ht]
  · obtain ⟨n, hn⟩ := Option.ne_none_iff_exists'.mp ht
    rw [hn]

/-- A row sent to the printer (R167). -/
def Proof.sent (p : Proof) (row : ProofRow) (cells : List Cell) : Proof :=
  { p.send row cells with st := .sending }

/-- Row `j` of record `r` begun (R167, R173). -/
def begunRow (r : LineRecord) (j : Nat) (s : State) : State :=
  (s.withSls (s.sls.update r.number fun r => { r with proof := .inProgress })).withPrc
    (if j < rowCount s.opc r then
      { s.prc.sent (.row r.number j) (rowCellsOf s.opc r j) with ptr := some (r.number, j + 1) }
     else
       { s.prc.sent (.row r.number j) (rowCellsOf s.opc r j) with
         ptr := none, galleyWait := if r.cutAfter then some r.number else s.prc.galleyWait })

/-- A row in flight keeps the grant timer as the sending has it (R169). -/
theorem timerService_sent {s : State} (ha : s.cmp.st ≠ .aborting) (ho : s.prc.out ≠ []) (ht : s.prc.timer ≠ none) :
    timerService s = s :=
  (timerService_eq s).2.1 ((timerWanted_iff s).mpr ⟨fun h => absurd h ha, fun _ => .inr (.inr (.inl ho))⟩) ht

theorem send_out (p : Proof) (row : ProofRow) (cells : List Cell) : (p.send row cells).out ≠ [] := by
  simp [Proof.send]

theorem send_timer (p : Proof) (row : ProofRow) (cells : List Cell) : (p.send row cells).timer ≠ none := by
  unfold Proof.send
  dsimp only
  split <;> nofun

theorem decideProof_ready {s : State} {st : PrcState} (hr : rowReady s = true) (hst : s.prc.decided true = st) :
    decideProof s = s.withPrc { s.prc with st := st } := by
  have hsilent : ¬ s.prc.silent = true := by
    rw [silent_iff]
    exact ((rowReady_iff s).mp hr).1
  rw [decideProof, if_neg hsilent, hr, hst]

theorem rowReady_decided {s : State} {st : PrcState} (hr : rowReady s = true) (hst : st ≠ .skipping ∧ st ≠ .faulted) :
    rowReady (s.withPrc { s.prc with st := st }) = true := by
  obtain ⟨-, h⟩ := (rowReady_iff s).mp hr
  exact (rowReady_iff _).mpr ⟨not_or.mpr hst, h⟩

/-- With a row ready, the port free and nothing asked for, the room decides (R167, R168). -/
theorem proofAct_ready {s : State} (hp : s.prc.port = none) (hask : s.prc.ask = false) (hdue : s.prc.askDue = false)
    (ho : s.prc.out.length < 15) (hr : rowReady s = true) :
    (0 < s.prc.room → proofAct s = sendReady s) ∧
      (s.prc.room = 0 → s.prc.afterZero = false → proofAct s = s.withPrc { s.prc.beginAsk with st := .waiting }) := by
  have hrows : Config.printerRows = 15 := rfl
  obtain ⟨hsilent, ha, -⟩ := (rowReady_iff s).mp hr
  have hbusy : ¬ (s.prc.port.isSome || aborting s) = true := by simp [hp, aborting_eq, ha]
  have hstays : ¬ (s.prc.silent || s.prc.ask || !rowReady s || decide (s.prc.out.length ≥ Config.printerRows)) = true := by
    rw [← silent_iff] at hsilent
    simp [hsilent, hask, hr, hrows, ho]
  have hact : proofAct s = if s.prc.room > 0 then sendReady s else if s.prc.afterZero then s
      else s.withPrc { s.prc.beginAsk with st := .waiting } :=
    (if_neg hbusy).trans ((if_neg (by simp [hdue])).trans (if_neg hstays))
  rw [hact]
  exact ⟨fun hm => if_pos hm, fun hm hz => (if_neg (by omega)).trans (if_neg (by simp [hz]))⟩

/-- The ready row goes where there is room for it (R167). -/
theorem proofService_sends {s : State} (hp : s.prc.port = none) (hask : s.prc.ask = false) (hdue : s.prc.askDue = false)
    (ho : s.prc.out.length < 15) (hr : rowReady s = true) (hm : 0 < s.prc.room) :
    proofService s = timerService (sendReady (s.withPrc { s.prc with st := .sending })) := by
  obtain ⟨-, hdecided⟩ := decided_eq s.prc true
  obtain ⟨-, hsend, -⟩ := hdecided hask hdue
  set s1 := s.withPrc { s.prc with st := .sending }
  have hready : rowReady s1 = true := rowReady_decided hr ⟨nofun, nofun⟩
  rw [proofService_eq, decideProof_ready hr (hsend rfl hm ho), (proofAct_ready (s := s1) hp hask hdue ho hready).1 hm]

/-- A state decided leaves it open whether a row is ready (R167). -/
theorem rowReady_decideProof {s : State} (h : ¬ s.prc.silent = true) :
    rowReady (s.withPrc { s.prc with st := s.prc.decided (rowReady s) }) = rowReady s := by
  have hsame : rowReady s = rowWanted s := by
    rw [Bool.not_eq_true] at h
    rw [rowReady, h]
    rfl
  rw [rowReady, State.withPrc_prc, decided_not_silent]
  exact hsame.symm

/-- An ASK that waits for the port is begun once the port is free (R166, R168). -/
theorem proofService_askDue {s : State} (hp : s.prc.port = none) (ha : s.cmp.st ≠ .aborting) (hdue : s.prc.askDue = true) :
    proofService s = s.withPrc { s.prc with
      st := if s.prc.st = .skipping ∨ s.prc.st = .faulted then s.prc.st else .waiting
      port := some .ask, ask := true, askDue := false, timer := some s.prc.grant } := by
  set st := if s.prc.st = .skipping ∨ s.prc.st = .faulted then s.prc.st else .waiting with hst
  set s1 := s.withPrc { s.prc with st := st } with hs1
  have hdecided : decideProof s = s1 := by
    simp only [decideProof, silent_iff, (decided_eq s.prc (rowReady s)).1 (.inr hdue), hs1, hst]
    split <;> rfl
  have hbusy : ¬ (s1.prc.port.isSome || aborting s1) = true := by simp [s1, hp, aborting_eq, ha]
  have hact : proofAct s1 = s1.withPrc s1.prc.beginAsk := (if_neg hbusy).trans (if_pos hdue)
  have hask : s1.prc.beginAsk = { s1.prc with port := some .ask, ask := true, askDue := false, timer := some s1.prc.grant } := by
    have hport : s1.prc.port = none := hp
    unfold Proof.beginAsk
    rw [hport]
  rw [proofService_eq, hdecided, hact, hask]
  exact (timerService_eq _).2.1 ((timerWanted_iff _).mpr ⟨fun h => absurd h ha, fun _ => .inl rfl⟩) nofun

/-- Without room an ASK is begun, but after a READY 0 (R168). -/
theorem proofService_asks {s : State} (hp : s.prc.port = none) (hask : s.prc.ask = false) (hdue : s.prc.askDue = false)
    (ho : s.prc.out.length < 15) (hr : rowReady s = true) (hm : s.prc.room = 0) (hz : s.prc.afterZero = false) :
    proofService s = s.withPrc { s.prc with st := .waiting, port := some .ask, ask := true, timer := some s.prc.grant } := by
  obtain ⟨-, hdecided⟩ := decided_eq s.prc true
  obtain ⟨-, -, hwait⟩ := hdecided hask hdue
  obtain ⟨-, ha, -⟩ := (rowReady_iff s).mp hr
  set s1 := s.withPrc { s.prc with st := .waiting }
  have hready : rowReady s1 = true := rowReady_decided hr ⟨nofun, nofun⟩
  rw [proofService_eq, decideProof_ready hr (hwait rfl (.inl hm)),
    (proofAct_ready (s := s1) hp hask hdue ho hready).2 hm hz]
  have hask1 : s1.withPrc { s1.prc.beginAsk with st := .waiting } =
      s.withPrc { s.prc with st := .waiting, port := some .ask, ask := true, timer := some s.prc.grant } := by
    have hport : s1.prc.port = none := hp
    unfold Proof.beginAsk
    rw [hport]
    dsimp only
    rw [← hdue]
    rfl
  rw [hask1]
  exact (timerService_eq _).2.1 ((timerWanted_iff _).mpr ⟨fun h => absurd h ha, fun _ => .inl rfl⟩) nofun

theorem sendRow_eq (r : LineRecord) (j : Nat) (s : State) :
    sendRow r j (s.withPrc { s.prc with st := .sending }) = begunRow r j s := by
  rw [begunRow]
  by_cases h : j < rowCount s.opc r
  · rw [if_pos h]
    exact if_pos h
  · rw [if_neg h]
    exact if_neg h

theorem timerService_begunRow {s : State} (r : LineRecord) (j : Nat) (ha : s.cmp.st ≠ .aborting) :
    timerService (begunRow r j s) = begunRow r j s := by
  have hout := send_out s.prc (.row r.number j) (rowCellsOf s.opc r j)
  have htimer := send_timer s.prc (.row r.number j) (rowCellsOf s.opc r j)
  rw [begunRow]
  by_cases h : j < rowCount s.opc r
  · rw [if_pos h]
    exact timerService_sent ha hout htimer
  · rw [if_neg h]
    exact timerService_sent ha hout htimer

theorem timerService_header {s : State} (ha : s.cmp.st ≠ .aborting) :
    timerService (sendHeader (s.withPrc { s.prc with st := .sending })) =
      s.withPrc { s.prc.sent .header (headerCells s.prc.galley s.cmp.job.name) with headerDue := false } :=
  timerService_sent (s := s.withPrc { s.prc.sent .header (headerCells s.prc.galley s.cmp.job.name) with headerDue := false })
    ha (send_out s.prc .header (headerCells s.prc.galley s.cmp.job.name)) (send_timer s.prc .header (headerCells s.prc.galley s.cmp.job.name))

/-- The ready row, by the proof pointer and the header that may be due (R167, R173). -/
theorem sendReady_eq (s : State) :
    (∀ r, s.prc.ptr = none → s.sls.nextProof = some r →
      (s.prc.headerDue = true → sendReady s = sendHeader s) ∧ (s.prc.headerDue = false → sendReady s = sendRow r 1 s)) ∧
      ∀ n j r, s.prc.ptr = some (n, j) → s.sls.find n = some r → sendReady s = sendRow r j s := by
  unfold sendReady
  refine ⟨fun r hp hn => ?_, fun n j r hp hr => ?_⟩ <;> rw [hp] <;> dsimp only
  · rw [hn]
    exact ⟨fun h => if_pos h, fun h => if_neg (by simp [h])⟩
  · rw [hr]

/-- A READY with no FAULT half received, and the bytes behind it (R166, R168). -/
theorem exec_printerReady {n : PrinterMessage} {s u : State} (hw : (Instr.printerReady n).wf = true)
    (hh : s.prc.half ≠ some .fault) (hu : takeReady n.value (s.withPrc { s.prc with half := none }) = u)
    (hn : u.prc.half = none) :
    exec (.printerReady n) s = .next ((finish s u).withPrc { (finish s u).prc with half := halfAfter n.after }) := by
  have hrest : printerBytes (messageRest .ready n.value s) s = finish s u := by
    rw [← hu]
    exact printerBytes_messageRest .ready n.value s ((half_cases _).1 hh)
  rw [← messageBytes hw hrest hn]
  rfl

theorem exec_printed (s : State) : exec .printed s = .next (byteRead s 0x50#8) := rfl

theorem exec_printed_row {s : State} {w : ProofRow} {ws : List ProofRow} (hh : s.prc.half = none)
    (ho : s.prc.out = w :: ws) : exec .printed s = .next (finish s (rowPrinted w (s.withPrc { s.prc with
      out := ws, afterZero := false, timer := if s.cmp.st = .aborting then s.prc.timer else some s.prc.grant }))) := by
  rw [exec_printed, byteRead_eq, if_pos (.inr rfl), printerByte, hh, ← takePrinted_eq ho]
  rfl

/-- Settles O56: each message by what it finds, the rows and requests that follow an event, and the two decisions after it. -/
theorem printerMessagesMoveTheRows : Obligations.PrinterMessagesMoveTheRows := by
  unfold Obligations.PrinterMessagesMoveTheRows
  intro behind
  refine ⟨fun s => rfl, fun b s => ⟨fun h => ?_, fun h => ?_, fun h => ?_, byteRead_eq s b⟩, fun n s hw => ?_,
    fun s => ⟨fun h => ?_, fun h => ?_, fun h ho => ?_⟩, fun ws s hh => ?_, fun s ha h1 h2 hp hask hdue ho => ?_, fun s => ?_⟩
  · rw [printerByte, h]
  · rw [printerByte, h]
  · rw [printerByte, h]
  · obtain ⟨hdropped, htaken⟩ := takeReady_eq n.value (s.withPrc { s.prc with half := none })
    refine ⟨fun h => ?_, fun h hask hst => exec_printerReady hw h (hdropped hask hst) rfl,
      fun h hr => exec_printerReady hw h (htaken hr) rfl⟩
    have hrest : messageRest .ready n.value s = [0x52#8, n.value] := if_neg (by simp [h])
    show Host.Outcome.next (printerBytes (messageRest .ready n.value s ++ n.after) s) = _
    rw [hrest, ← (byteRead_half 0x52#8).2 h]
    rfl
  · rw [exec_printed, (byteRead_half 0x50#8).1 h]
  · rw [exec_printed, (byteRead_half 0x50#8).2 h]
  · have htake : takePrinted s = s := by simp only [takePrinted, ho]
    have hbyte : printerByte s 0x50#8 = s := by
      rw [printerByte, h]
      exact htake
    rw [exec_printed, byteRead_eq, if_pos (.inr rfl), hbyte]
  · intro u
    refine ⟨fun ho => ?_, fun n j r ho hr hj => ?_, fun n j r ho hr hj hc => ?_, fun n j r ho hr hj hc => ?_⟩ <;>
      rw [exec_printed_row hh ho]
    · rfl
    · rw [(rowPrinted_eq (s := u) hr).1 hj]
    · rw [(rowPrinted_eq (s := u) hr).2 hj, (proofDone_eq r u).1 hc, find_number hr]
      rfl
    · rw [(rowPrinted_eq (s := u) hr).2 hj, (proofDone_eq r u).2 hc, find_number hr]
      rfl
  · intro sent begun
    have hsilent : ¬ (s.prc.st = .skipping ∨ s.prc.st = .faulted) := not_or.mpr ⟨h1, h2⟩
    refine ⟨fun r hptr hwait hr => ?_, fun n j r hptr hr hm => ?_⟩
    · have hready : rowReady s = true := by
        have hmem := List.mem_of_find?_eq_some hr
        have hpending := List.find?_some hr
        rw [rowReady_iff]
        exact ⟨hsilent, ha, .inr ⟨hwait, r, hmem, by simpa using hpending⟩⟩
      obtain ⟨hheader, hrow⟩ := (sendReady_eq (s.withPrc { s.prc with st := .sending })).1 r hptr hr
      refine ⟨fun hm hd => ?_, fun hm hd => ?_, fun hm hz => proofService_asks hp hask hdue ho hready hm hz⟩ <;>
        rw [proofService_sends hp hask hdue ho hready hm]
      · rw [hheader hd, timerService_header ha]
        rfl
      · rw [hrow hd, sendRow_eq, timerService_begunRow r 1 ha]
        rfl
    · have hready : rowReady s = true := by
        rw [rowReady_iff]
        exact ⟨hsilent, ha, .inl (by simp [hptr])⟩
      rw [proofService_sends hp hask hdue ho hready hm,
        (sendReady_eq (s.withPrc { s.prc with st := .sending })).2 n j r hptr hr, sendRow_eq, timerService_begunRow r j ha]
      rfl
  · intro silent ready
    have hsilent : s.prc.silent = true ↔ silent := silent_iff s.prc
    have hready : rowReady s = true ↔ ready := rowReady_iff s
    have hnready : rowReady s = false ↔ ¬ ready := by rw [← hready, Bool.not_eq_true]
    obtain ⟨hwaits, hdecided⟩ := decided_eq s.prc (rowReady s)
    refine ⟨fun _ h => hwaits h, fun _ hask hdue => ?_, fun h => ⟨fun hs => ?_, fun hs => ?_⟩, fun hp ha hdue => ?_, ?_⟩
    · obtain ⟨hidle, hsend, hwait⟩ := hdecided hask hdue
      exact ⟨fun hr => hidle (hnready.mpr hr), fun hr => hsend (hready.mpr hr), fun hr => hwait (hready.mpr hr)⟩
    · rw [proofService_eq, decideProof, if_pos (hsilent.mpr hs), proofAct_eq_self]
      rw [hsilent, hnready]
      exact h
    · rw [proofService_eq, decideProof, if_neg (fun hc => hs (hsilent.mp hc)), proofAct_eq_self]
      rw [rowReady_decideProof (fun hc => hs (hsilent.mp hc)), hnready]
      refine h.imp_right (Or.imp_right fun ⟨hdue, h⟩ => ⟨hdue, ?_⟩)
      exact .inr (h.resolve_left hs)
    · exact proofService_askDue hp ha hdue
    · intro waited
      have hwaited : timerWanted s = true ↔ waited := by
        rw [timerWanted_iff, hready]
      obtain ⟨hstart, hrun, hstop⟩ := timerService_eq s
      exact ⟨fun hw => hstart (hwaited.mpr hw), fun hw => hrun (hwaited.mpr hw),
        fun hw => hstop (by rw [← Bool.not_eq_true, hwaited]; exact hw)⟩

/-! ### Rows given up -/

theorem addLineFlag_idem (f : LineFlag) (fs : List LineFlag) : addLineFlag f (addLineFlag f fs) = addLineFlag f fs := by
  unfold addLineFlag
  rw [insertIn]
  refine List.filter_congr fun x hx => ?_
  rw [Bool.eq_iff_iff]
  simp only [Bool.or_eq_true, List.contains_iff_mem, beq_iff_eq, mem_insertIn]
  tauto

/-- A record given up (R86). -/
def LineRecord.givenUp (r : LineRecord) : LineRecord :=
  { r with proof := .skipped, flags := addLineFlag .skipped r.flags }

theorem givenUp_idem (r : LineRecord) : r.givenUp.givenUp = r.givenUp := by
  simp only [LineRecord.givenUp, addLineFlag_idem]

theorem skipRecord_eq (r : LineRecord) (s : State) : skipRecord r s =
    (s.withSls { s.sls with
      lastProofed := r.number
      records := s.sls.records.map fun x => if x.number == r.number then x.givenUp else x }).withPrc
        { s.prc with
          galley := if r.cutAfter then nextCount s.prc.galley else s.prc.galley
          headerDue := s.prc.headerDue || r.cutAfter
          galleyWait := if r.cutAfter && s.prc.galleyWait == some r.number then none else s.prc.galleyWait } := by
  unfold skipRecord proofEnded
  cases hc : r.cutAfter
  · rw [if_neg Bool.false_ne_true, Bool.or_false]
    rfl
  · have hwait : (if s.prc.galleyWait == some r.number then none else s.prc.galleyWait) =
        if s.prc.galleyWait = some r.number then none else s.prc.galleyWait := by simp only [beq_iff_eq]
    rw [if_pos rfl, Bool.or_true, Bool.true_and, hwait]
    rfl

/-- Records given up one after another, in one state (R86, R96, R173). -/
theorem skipAll_eq (gone : List LineRecord) (s : State) : skipAll gone s =
    (s.withSls { s.sls with
      lastProofed := (gone.getLast?.map LineRecord.number).getD s.sls.lastProofed
      records := s.sls.records.map fun r => if gone.any fun g => g.number == r.number then r.givenUp else r }).withPrc
        { s.prc with
          galley := Nat.iterate nextCount (gone.countP LineRecord.cutAfter) s.prc.galley
          headerDue := s.prc.headerDue || gone.any LineRecord.cutAfter
          galleyWait :=
            if gone.any fun g => g.cutAfter && s.prc.galleyWait == some g.number then none else s.prc.galleyWait } := by
  induction gone generalizing s with
  | nil =>
    simp only [List.any_nil, Bool.or_false, Bool.false_eq_true, if_false, List.map_id']
    rfl
  | cons r rs ih =>
    have hstep : skipAll (r :: rs) s = skipAll rs (skipRecord r s) := rfl
    rw [hstep, ih, skipRecord_eq]
    have hrecords : (s.sls.records.map fun x => if x.number == r.number then x.givenUp else x).map
        (fun x => if rs.any fun g => g.number == x.number then x.givenUp else x) =
        s.sls.records.map fun x => if (r :: rs).any fun g => g.number == x.number then x.givenUp else x := by
      rw [List.map_map]
      refine List.map_congr_left fun x _ => ?_
      rw [Function.comp_apply, List.any_cons]
      by_cases h : x.number = r.number
      · rw [if_pos (beq_iff_eq.mpr h), beq_iff_eq.mpr h.symm, Bool.true_or, if_pos rfl, givenUp_idem, ite_self]
      · rw [if_neg (fun hc => h (beq_iff_eq.mp hc)), beq_eq_false_iff_ne.mpr (Ne.symm h), Bool.false_or]
    have hwait : (if rs.any fun g => g.cutAfter &&
          (if r.cutAfter && s.prc.galleyWait == some r.number then none else s.prc.galleyWait) == some g.number then none
        else if r.cutAfter && s.prc.galleyWait == some r.number then none else s.prc.galleyWait) =
        if (r :: rs).any fun g => g.cutAfter && s.prc.galleyWait == some g.number then none else s.prc.galleyWait := by
      rw [List.any_cons]
      by_cases h : (r.cutAfter && s.prc.galleyWait == some r.number) = true
      · rw [h]
        simp
      · rw [Bool.not_eq_true] at h
        rw [h]
        simp
    have hgalley : Nat.iterate nextCount (rs.countP LineRecord.cutAfter)
          (if r.cutAfter then nextCount s.prc.galley else s.prc.galley) =
        Nat.iterate nextCount ((r :: rs).countP LineRecord.cutAfter) s.prc.galley := by
      rw [List.countP_cons]
      split <;> rfl
    have hlast : (rs.getLast?.map LineRecord.number).getD r.number =
        ((r :: rs).getLast?.map LineRecord.number).getD s.sls.lastProofed := by
      rw [List.getLast?_cons]
      cases rs.getLast? <;> rfl
    rw [← hrecords, ← hwait, ← hgalley, ← hlast, List.any_cons, ← Bool.or_assoc]
    rfl

/-! ### Faults and silence -/

theorem beginAsk_eq (p : Proof) : p.beginAsk =
    if p.port = none then { p with port := some .ask, ask := true, askDue := false, timer := some p.grant }
    else { p with askDue := true, timer := some p.grant } := by
  unfold Proof.beginAsk
  cases h : p.port <;> rfl

theorem link_raise_raise (f : Flag) (l : Link) : (l.raise f).raise f = l.raise f := by
  rcases link_raise_cases f (l.raise f) with ⟨_, e⟩ | ⟨h, _⟩
  · exact e
  · exact absurd (mem_raise_flags f l) h

theorem proofFaultLine_row {s : State} {n j : Nat} {ws : List ProofRow} (h : s.prc.out = .row n j :: ws) :
    proofFaultLine s = n := by
  simp only [proofFaultLine, h, List.head?_cons]

theorem proofFaultLine_noRow {s : State} (h : ∀ n j ws, s.prc.out ≠ .row n j :: ws) : proofFaultLine s =
    if s.prc.ptr = none ∧ s.prc.galleyWait = none then (s.sls.nextProof.map LineRecord.number).getD 0 else 0 := by
  have hline : proofFaultLine s = ((recordToBegin s).map LineRecord.number).getD 0 := by
    unfold proofFaultLine
    split
    · rename_i n j hrow
      obtain ⟨ws, hws⟩ := List.head?_eq_some_iff.mp hrow
      exact absurd hws (h n j ws)
    · cases recordToBegin s <;> rfl
  rw [hline, recordToBegin]
  by_cases hb : s.prc.ptr = none ∧ s.prc.galleyWait = none
  · rw [if_pos hb, if_pos (by simp [hb])]
  · rw [if_neg hb, if_neg (by simpa using hb)]
    rfl

theorem find_map {st : Store} {n : Nat} {f : LineRecord → LineRecord} (hf : ∀ r, (f r).number = r.number) :
    ({ st with records := st.records.map f } : Store).find n = (st.find n).map f := by
  unfold Store.find
  rw [List.find?_map]
  congr 1
  refine List.find?_congr fun r _ => ?_
  rw [Function.comp_apply, hf]

/-- A record of the store whose rows were at the printer, PENDING again (R176). -/
def LineRecord.returned (r : LineRecord) : LineRecord := if r.proof = .inProgress then { r with proof := .pending } else r

theorem returned_number (r : LineRecord) : r.returned.number = r.number := by
  unfold LineRecord.returned
  split <;> rfl

theorem returned_pending (r : LineRecord) :
    (r.returned.proof == .pending) = (r.proof == .inProgress || r.proof == .pending) := by
  unfold LineRecord.returned
  cases h : r.proof <;> simp [h]

/-- Records in progress back to PENDING, and the galley wait of one of them ended (R173, R176). -/
theorem endWaitReturned_eq (s : State) : endWaitReturned (returnToPending s) =
    (s.withSls { s.sls with records := s.sls.records.map LineRecord.returned }).withPrc
        { s.prc with galleyWait :=
            if (s.prc.galleyWait.bind s.sls.find).any fun r => r.proof == .inProgress || r.proof == .pending then none
            else s.prc.galleyWait } := by
  set s1 := s.withSls { s.sls with records := s.sls.records.map LineRecord.returned }
  have hreturned : returnToPending s = s1 := rfl
  have hfind (n : Nat) : s1.sls.find n = (s.sls.find n).map LineRecord.returned := find_map returned_number
  have hprc : s1.prc = s.prc := rfl
  rw [hreturned, endWaitReturned, hprc]
  cases hw : s.prc.galleyWait with
  | none =>
    dsimp only
    rw [ite_self, ← hw]
    rfl
  | some n =>
    dsimp only
    rw [hfind, Option.bind_some, Option.any_map]
    simp only [returned_pending]
    split
    · rfl
    · rw [← hw]
      rfl

/-- A FAULT in BEST mode (R176). -/
theorem takeFault_best {s : State} (c : Byte) (hm : s.prc.mode = .best) :
    let l : Link :=
      ({ s.link with proof := s.link.proof.record ProofKind.all .printer (proofFaultLine s) } : Link).raise .pfault
    let u := skipAll s.sls.proofing s
    takeFault c s = (u.withLink (if s.sls.proofing = [] then l else l.raise .skip)).withPrc
      { u.prc.giveUp with
        lastCode := some c, st := .faulted, ask := false, askDue := false
        timer := if s.cmp.st = .aborting then none else some s.prc.grant } := by
  intro l u
  set s1 := (s.withPrc { s.prc with lastCode := some c }).withLink l
  set s2 := if s.sls.proofing.isEmpty then s1 else raise .skip (skipAll s.sls.proofing s1)
  have hfault : takeFault c s = s2.withPrc { s2.prc.giveUp with
      st := .faulted, ask := false, askDue := false
      timer := if s2.prc.mode = .best && !aborting s2 then some s2.prc.grant else none } := by
    have hmode : s1.prc.mode = .best := hm
    unfold takeFault
    dsimp only
    rw [show (proofFault .printer (proofFaultLine s) (s.withPrc { s.prc with lastCode := some c })) = s1 from rfl, hmode]
    rfl
  have hs2 : s2 = (u.withLink (if s.sls.proofing = [] then l else l.raise .skip)).withPrc { u.prc with lastCode := some c } := by
    by_cases hg : s.sls.proofing = []
    · simp only [s2, u, hg, List.isEmpty_nil, if_true]
      rfl
    · have hne : ¬ s.sls.proofing.isEmpty = true := by rwa [List.isEmpty_iff]
      rw [if_neg hg]
      simp only [s2, u, if_neg hne, skipAll_eq]
      rfl
  have hkept : u.prc.mode = .best ∧ u.prc.grant = s.prc.grant ∧ u.cmp = s.cmp := by
    simp only [u, skipAll_eq]
    exact ⟨hm, rfl, rfl⟩
  obtain ⟨humode, hugrant, hucmp⟩ := hkept
  have htimer : (if s2.prc.mode = .best && !aborting s2 then some s2.prc.grant else none) =
      if s.cmp.st = .aborting then none else some s.prc.grant := by
    rw [hs2, aborting_eq]
    simp only [State.withPrc_prc, State.withPrc_cmp, State.withLink_cmp, humode, hugrant, hucmp]
    by_cases ha : s.cmp.st = .aborting <;> simp [ha]
  rw [hfault, htimer, hs2]
  rfl

/-- A FAULT in REQUIRED mode (R176). -/
theorem takeFault_required {s : State} (c : Byte) (hm : s.prc.mode = .required) :
    let l : Link :=
      ({ s.link with proof := s.link.proof.record ProofKind.all .printer (proofFaultLine s) } : Link).raise .pfault
    takeFault c s = ((s.withLink l).withSls { s.sls with records := s.sls.records.map LineRecord.returned }).withPrc
      { ({ s.prc with galleyWait :=
          if (s.prc.galleyWait.bind s.sls.find).any fun r => r.proof == .inProgress || r.proof == .pending then none
          else s.prc.galleyWait } : Proof).giveUp with
        lastCode := some c, st := .faulted, ask := false, askDue := false, timer := none } := by
  intro l
  set s1 := (s.withPrc { s.prc with lastCode := some c }).withLink l
  set s2 := endWaitReturned (returnToPending s1) with hs2
  have hfault : takeFault c s = s2.withPrc { s2.prc.giveUp with
      st := .faulted, ask := false, askDue := false
      timer := if s2.prc.mode = .best && !aborting s2 then some s2.prc.grant else none } := by
    have hmode : s1.prc.mode = .required := hm
    unfold takeFault
    dsimp only
    rw [show (proofFault .printer (proofFaultLine s) (s.withPrc { s.prc with lastCode := some c })) = s1 from rfl, hmode]
  rw [endWaitReturned_eq] at hs2
  have hmode : s2.prc.mode = .required := by
    rw [hs2]
    exact hm
  have htimer : (if s2.prc.mode = .best && !aborting s2 then some s2.prc.grant else none) = none :=
    if_neg (by simp [hmode])
  rw [hfault, htimer, hs2]
  rfl

/-- A FAULT with no READY half received, and the bytes behind it (R166, R176). -/
theorem exec_printerFault {c : PrinterMessage} {s u : State} (hw : (Instr.printerFault c).wf = true)
    (hh : s.prc.half ≠ some .ready) (hu : takeFault c.value (s.withPrc { s.prc with half := none }) = u)
    (hn : u.prc.half = none) :
    exec (.printerFault c) s = .next ((finish s u).withPrc { (finish s u).prc with half := halfAfter c.after }) := by
  have hrest : printerBytes (messageRest .fault c.value s) s = finish s u := by
    rw [← hu]
    exact printerBytes_messageRest .fault c.value s ((half_cases _).2 hh)
  rw [← messageBytes hw hrest hn]
  rfl

theorem enterSkipping_eq (s : State) : enterSkipping s = (s.withLink (s.link.raise .skip)).withPrc
    { s.prc.giveUp with st := .skipping }.beginAsk := rfl

/-- Silence in REQUIRED mode (R175). -/
theorem requiredSilence_eq (s : State) :
    let held := s.link.proof.first = some .silent ∨ ProofKind.silent ∈ s.link.proof.also
    requiredSilence s = (s.withLink (({ s.link with
      proof := if held then s.link.proof else s.link.proof.record ProofKind.all .silent (proofFaultLine s) } :
        Link).raise .pfault)).withPrc s.prc.beginAsk := by
  intro held
  have hheld : (s.link.proof.first = some .silent ∨ s.link.proof.also.contains .silent = true) ↔ held := by
    simp [held]
  unfold requiredSilence
  by_cases h : held
  · rw [if_pos h]
    simp only [if_pos (hheld.mpr h)]
    rfl
  · rw [if_neg h]
    simp only [if_neg (hheld.not.mpr h)]
    show (raise .pfault (proofFault .silent (proofFaultLine s) s)).withPrc s.prc.beginAsk = _
    rw [raise, proofFault, raise, State.withLink_link, State.withLink_link, link_raise_raise]
    rfl

/-- The grant timer outside an abort, by the Proof Controller's state (R169, R174 to R176). -/
theorem grantExpires_eq {s : State} {n : Nat} (ht : s.prc.timer = some n) (ha : s.cmp.st ≠ .aborting) :
    (s.prc.st = .faulted → grantExpires s = enterSkipping s) ∧
      (s.prc.st = .skipping → grantExpires s = s.withPrc s.prc.beginAsk) ∧
      (s.prc.st ≠ .faulted → s.prc.st ≠ .skipping →
        (s.prc.ask = true → s.prc.mode = .best → grantExpires s = enterSkipping (skipAll s.sls.proofing s)) ∧
          (s.prc.ask = true → s.prc.mode = .required → grantExpires s = requiredSilence s) ∧
          (s.prc.ask = false → grantExpires s = s.withPrc { s.prc.beginAsk with st := .waiting, afterZero := false })) := by
  have haborting : ¬ aborting s = true := by simp [aborting_eq, ha]
  have hask (h1 : s.prc.st ≠ .faulted) (h2 : s.prc.st ≠ .skipping) : grantExpires s =
      if s.prc.ask then
        match s.prc.mode with
        | .best => enterSkipping (skipAll s.sls.proofing s)
        | .required => requiredSilence s
      else s.withPrc { s.prc.beginAsk with st := .waiting, afterZero := false } := by
    cases hst : s.prc.st with
    | faulted => exact absurd hst h1
    | skipping => exact absurd hst h2
    | _ => simp only [grantExpires, ht, if_neg haborting, hst] <;> rfl
  refine ⟨fun h => ?_, fun h => ?_, fun h1 h2 => ⟨fun hk hm => ?_, fun hk hm => ?_, fun hk => ?_⟩⟩
  · simp only [grantExpires, ht, if_neg haborting, h]
  · simp only [grantExpires, ht, if_neg haborting, h]
  · rw [hask h1 h2, if_pos hk, hm]
  · rw [hask h1 h2, if_pos hk, hm]
  · rw [hask h1 h2, if_neg (by simp [hk])]

/-- The abort's limit gives up the rows still outstanding (R178). -/
theorem abortGiveUp_eq (s : State) :
    let gone := s.sls.records.filter fun r => s.prc.out.any (ProofRow.ofRecord r.number)
    let u := skipAll gone s
    abortGiveUp s = (u.withLink (if gone = [] then s.link else s.link.raise .skip)).withPrc
      { u.prc with out := [], timer := none, headerDue := u.prc.headerDue || s.prc.out.any ProofRow.isHeader } := by
  intro gone u
  set s1 := if gone.isEmpty then s else raise .skip (skipAll gone s)
  have habort : abortGiveUp s =
      s1.withPrc { s1.prc with out := [], timer := none, headerDue := s1.prc.headerDue || s1.prc.out.any ProofRow.isHeader } := rfl
  rw [habort]
  by_cases hg : gone = []
  · simp only [s1, u, hg, List.isEmpty_nil, if_true]
    rfl
  · have hne : ¬ gone.isEmpty = true := by rwa [List.isEmpty_iff]
    simp only [s1, u, if_neg hne, if_neg hg, skipAll_eq]
    rfl

/-- Settles O57: rows given up in one state, and each fault and silence by mode and state. -/
theorem printerFaultsAndSilenceGiveTheRowsUp : Obligations.PrinterFaultsAndSilenceGiveTheRowsUp := by
  unfold Obligations.PrinterFaultsAndSilenceGiveTheRowsUp
  intro behind next asking gaveUp atPrinter
  have hasking (p : Proof) : asking p = p.beginAsk := (beginAsk_eq p).symm
  refine ⟨fun gone s => skipAll_eq gone s, ⟨fun s n j ws h => proofFaultLine_row h, fun s h => proofFaultLine_noRow h⟩,
    fun c s hw => ?_, fun n s ht ha => ?_, fun n s ht ha => ?_, fun s ht => ?_⟩
  · intro l faulted
    set s0 := s.withPrc { s.prc with half := none }
    refine ⟨fun h => ?_, fun h hm => ?_, fun h hm => ?_⟩
    · have hrest : messageRest .fault c.value s = [0x46#8, c.value] := if_neg (by simp [h])
      show Host.Outcome.next (printerBytes (messageRest .fault c.value s ++ c.after) s) = _
      rw [hrest, ← (byteRead_half 0x46#8).1 h]
      rfl
    · intro u
      have hfault : takeFault c.value s0 = (u.withLink (if atPrinter s = [] then l else l.raise .skip)).withPrc
          (faulted u.prc (if s.cmp.st = .aborting then none else some s.prc.grant)) := by
        rw [takeFault_best (s := s0) c.value hm]
        simp only [u, skipAll_eq]
        rfl
      exact exec_printerFault hw h hfault rfl
    · exact exec_printerFault hw h (takeFault_required (s := s0) c.value hm) rfl
  · have hevent {u : State} (h : grantExpires s = u) : exec .grantTimerExpiry s = .next (finish s u) := exec_event rfl h
    obtain ⟨hfaulted, hskipping, hother⟩ := grantExpires_eq ht ha
    refine ⟨fun h1 h2 hk => ?_, fun h1 h2 hk hm => ?_, fun h1 h2 hk hm => ?_, fun h => ?_, fun h => ?_⟩
    · rw [hevent ((hother h1 h2).2.2 hk), hasking]
    · intro held
      rw [hevent ((hother h1 h2).2.1 hk hm), requiredSilence_eq, hasking]
    · intro u
      rw [hevent ((hother h1 h2).1 hk hm), enterSkipping_eq, hasking, skipAll_link]
      rfl
    · rw [hevent (hfaulted h), enterSkipping_eq, hasking]
      rfl
    · rw [hevent (hskipping h), hasking]
  · intro gone u
    have haborting : aborting s = true := by simp [aborting_eq, ha]
    refine exec_event (u := grantExpires s) rfl ?_
    simp only [grantExpires, ht, haborting, if_true]
    exact abortGiveUp_eq s
  · exact exec_event (u := grantExpires s) rfl (by simp only [grantExpires, ht])

end Sys2Proof.Machine
end

section
/-! PROOF. The cells of proof and header rows (R171 to R173), and ABORT (R97 to R100). -/

namespace Sys2Proof.Machine

-- One declaration at a time: it keeps the threads, and with them the memory, of the compile small.
set_option Elab.async false

/-! ### Cells -/

theorem digitsOnto_length (fuel : Nat) : ∀ (n k : Nat) (acc : Text), n < 10 ^ (k + 1) →
    (digitsOnto fuel n acc).length ≤ acc.length + (k + 1) := by
  induction fuel with
  | zero =>
    intro n k acc _
    exact Nat.le_add_right _ _
  | succ fuel ih =>
    intro n k acc h
    rw [digitsOnto]
    split
    · rw [List.length_cons]
      omega
    · cases k with
      | zero => omega
      | succ k =>
        refine (ih (n / 10) k _ ?_).trans ?_
        · rw [Nat.div_lt_iff_lt_mul (by decide)]
          exact h.trans_eq (pow_succ 10 (k + 1))
        · rw [List.length_cons]
          omega

theorem decimal_length {n : Nat} (h : n ≤ 65535) : (decimal n).length ≤ 5 :=
  (digitsOnto_length (n + 1) n 4 [] (by omega)).trans (by simp)

theorem padLeft_length {n : Nat} {cs : List Cell} (h : cs.length ≤ n) : (padLeft n cs).length = n := by
  simp [padLeft, h]

theorem padRight_length {n : Nat} {cs : List Cell} (h : cs.length ≤ n) : (padRight n cs).length = n := by
  simp [padRight, h]

theorem textOf_length (t : Text) : (textOf t).length = t.length := List.length_map _

/-- Columns 6 to 11 of row `j` (R172). -/
def rowMarks (r : LineRecord) (j : Nat) : List Cell :=
  if j = 1 then
    textOf [0x20#8, r.brk.mark, firstMark r.flags [(.loose, 0x4C)], firstMark r.flags [(.lapsed, 0x54), (.referred, 0x52)],
      firstMark r.flags [(.missing, 0x4D), (.code, 0x3F), (.sizeSubst, 0x53)], 0x20#8]
  else textOf [0x20#8, 0x20#8, 0x20#8, 0x20#8, 0x20#8, 0x2B#8]

theorem rowHead_eq (r : LineRecord) (j : Nat) : rowHead r j = padLeft 5 (textOf (decimal r.number)) ++ rowMarks r j := rfl

theorem rowMarks_length (r : LineRecord) (j : Nat) : (rowMarks r j).length = 6 := by
  unfold rowMarks
  split <;> rfl

theorem rowNumber_length {r : LineRecord} (h : r.number ≤ 65535) : (padLeft 5 (textOf (decimal r.number))).length = 5 :=
  padLeft_length (by rw [textOf_length]; exact decimal_length h)

theorem rowHead_length {r : LineRecord} (h : r.number ≤ 65535) (j : Nat) : (rowHead r j).length = 11 := by
  rw [rowHead_eq, List.length_append, rowNumber_length h, rowMarks_length]

/-- The row's eleven columns, its text cells brought to 120, and the blank at its end (R171, R172). -/
theorem rowCellsOf_eq {r : LineRecord} (h : r.number ≤ 65535) (o : Optics) (j : Nat) : rowCellsOf o r j =
    rowHead r j ++ (padRight 120 (((textCells o r.elems).drop (120 * (j - 1))).take 120) ++ [blank]) := by
  have hhead := rowHead_length h j
  show padRight 132 (rowHead r j ++ ((textCells o r.elems).drop (120 * (j - 1))).take 120) = _
  generalize ht : ((textCells o r.elems).drop (120 * (j - 1))).take 120 = t
  have hlen : t.length ≤ 120 := ht ▸ List.length_take_le _ _
  have hfill : 132 - (11 + t.length) = 120 - t.length + 1 := by omega
  unfold padRight
  rw [List.length_append, hhead, hfill, List.replicate_succ']
  simp only [List.append_assoc]

theorem textRow_length (o : Optics) (r : LineRecord) (j : Nat) :
    (padRight 120 (((textCells o r.elems).drop (120 * (j - 1))).take 120)).length = 120 :=
  padRight_length (List.length_take_le _ _)

theorem firstMark_cons (fs : List LineFlag) (f : LineFlag) (b : Byte) (ms : List (LineFlag × Byte)) :
    firstMark fs ((f, b) :: ms) = if f ∈ fs then b else firstMark fs ms := by
  simp [firstMark]

theorem textCells_cons (o : Optics) (e : Elem) (es : List Elem) :
    textCells o (e :: es) = List.replicate e.before blank ++ e.cells o ++ textCells o es := by
  simp [textCells]

/-- A header row, its name brought to 16 columns (R173). -/
theorem headerCells_eq {galley : Nat} (h : galley ≤ 65535) (name : Text) : headerCells galley name =
    textOf (ascii "GALLEY ") ++ padLeft 5 (textOf (decimal galley)) ++ textOf (ascii " JOB ") ++
      padRight 16 (textOf (name.take 16)) ++ List.replicate 99 blank := by
  have hnumber : (padLeft 5 (textOf (decimal galley))).length = 5 :=
    padLeft_length (by rw [textOf_length]; exact decimal_length h)
  have hgalley : (textOf (ascii "GALLEY ")).length = 7 := by decide
  have hjob : (textOf (ascii " JOB ")).length = 5 := by decide
  show padRight 132 (textOf (ascii "GALLEY ") ++ padLeft 5 (textOf (decimal galley)) ++ textOf (ascii " JOB ") ++
    textOf (name.take 16)) = _
  have hname : (textOf (name.take 16)).length ≤ 16 := (textOf_length _).trans_le (List.length_take_le _ _)
  generalize textOf (name.take 16) = t at hname ⊢
  have hfill : 132 - (7 + 5 + 5 + t.length) = 16 - t.length + 99 := by omega
  unfold padRight
  rw [List.length_append, List.length_append, List.length_append, hnumber, hgalley, hjob, hfill, List.replicate_add]
  simp only [List.append_assoc]

/-- Settles O58: the row's columns cell by cell, the text cells element by element, and the header. -/
theorem proofRowsHave132Cells : Obligations.ProofRowsHave132Cells := by
  unfold Obligations.ProofRowsHave132Cells
  intro cell blanks
  refine ⟨fun o r j h => ?_, fun o => rfl, fun o e es => ?_, fun o r h => ?_, fun o r => ?_, fun galley name h => ?_⟩
  · intro cells digits
    have hcells := rowCellsOf_eq h o j
    have htext := textRow_length o r j
    have hhead := rowHead_length h j
    refine ⟨?_, ?_, ?_, ?_, fun hj => ?_, fun hj => ?_⟩
    · rw [show cells = _ from hcells, List.length_append, List.length_append, hhead, htext]
      rfl
    · rw [show cells = _ from hcells, rowHead_eq, List.append_assoc, List.take_left' (rowNumber_length h)]
      rfl
    · rw [show cells = _ from hcells, List.drop_left' hhead, List.take_left' htext]
    · rw [show cells = _ from hcells, ← List.append_assoc, List.getLast?_concat]
      rfl
    · rw [show cells = _ from hcells, rowHead_eq, List.append_assoc, List.drop_left' (rowNumber_length h),
        List.take_left' (rowMarks_length r j), rowMarks, if_neg hj]
      rfl
    · rw [show cells = _ from hcells, rowHead_eq, List.append_assoc, List.drop_left' (rowNumber_length h),
        List.take_left' (rowMarks_length r j), rowMarks, if_pos hj]
      simp only [firstMark_cons]
      cases r.brk <;> rfl
  · rw [textCells_cons]
    unfold Elem.cells
    cases e.kind with
    | box m slot p => cases hst : (o.mount m).style <;> simp only [hst] <;> rfl
    | _ => rfl
  · show max 1 (((textCells o r.elems).length + 119) / 120) = 1
    omega
  · show 1 ≤ max 1 (((textCells o r.elems).length + 119) / 120) ∧ _ ≤ 120 * max 1 (((textCells o r.elems).length + 119) / 120) ∧
      (_ → 120 * (max 1 (((textCells o r.elems).length + 119) / 120) - 1) < _)
    omega
  · intro digits shown
    have hheader := headerCells_eq h name
    have hsplit : textOf (ascii "GALLEY ") = (ascii "GALLEY").map cell ++ blanks 1 := by decide
    have hjob : textOf (ascii " JOB ") = blanks 1 ++ (ascii "JOB").map cell ++ blanks 1 := by decide
    refine ⟨?_, ?_⟩
    · rw [hheader, hsplit, hjob]
      simp only [padLeft, padRight, List.append_assoc]
      rfl
    · have hnumber : (padLeft 5 (textOf (decimal galley))).length = 5 :=
        padLeft_length (by rw [textOf_length]; exact decimal_length h)
      have hname : (padRight 16 (textOf (name.take 16))).length = 16 :=
        padRight_length ((textOf_length _).trans_le (List.length_take_le _ _))
      rw [hheader, List.length_append, List.length_append, List.length_append, List.length_append, hnumber, hname,
        List.length_replicate]
      rfl

/-! ### ABORT taken -/

/-- The text queue emptied: an armed room watch raises ROOM and is disarmed (R14). -/
theorem drainTo_nil (s : State) : drainTo [] s =
    (s.withTxq { s.txq with bytes := [], watch := false }).withLink
      (if s.txq.watch then s.link.raise .room else s.link) := by
  have hroom (w : Bool) : ({ s.txq with bytes := [], watch := w } : TextQueue).room = 4096 := rfl
  unfold drainTo
  by_cases hw : s.txq.watch = true
  · rw [if_pos ⟨hw, by rw [show ({ s.txq with bytes := [] } : TextQueue).room = 4096 from rfl]; decide⟩, if_pos hw]
    rfl
  · have hq : { s.txq with bytes := [] } = { s.txq with bytes := [], watch := false } := by rw [← Bool.eq_false_iff.mpr hw]
    rw [if_neg fun h => hw h.1, if_neg hw]
    exact congrArg s.withTxq hq

/-- The state in which an abort meets the Exposure Controller (R97). -/
def State.abortCalled (form : HaltForm) (s : State) : State :=
  ((((s.withTxq { s.txq with bytes := [], watch := false }).withLink
    { (if s.txq.watch then s.link.raise .room else s.link) with refer := none }).withHyu
    { s.hyu with referral := none, timer := none, lastEnd := .withdrawn }).withCmp s.cmp.abandon).withSls
    (s.sls.beginAbort form s.exc.ptr)

theorem exposureAbort_eq (s : State) :
    (s.exc.ptr ≠ none ∨ s.exc.cutWait = true → exposureAbort s = s) ∧
      (s.exc.ptr = none → s.exc.cutWait = false → s.exc.st = .stopped → exposureAbort s =
        s.withExc { s.exc with st := .idle, stopReq := none, armed := none, flash := none }) ∧
      (s.exc.ptr = none → s.exc.cutWait = false → s.exc.st ≠ .stopped → exposureAbort s =
        s.withExc { s.exc with stopReq := none }) := by
  have hfree : (s.exc.ptr.isNone && !s.exc.cutWait) = true ↔ s.exc.ptr = none ∧ s.exc.cutWait = false := by simp
  unfold exposureAbort
  refine ⟨fun h => if_neg ?_, fun hp hc hst => ?_, fun hp hc hst => ?_⟩
  · rw [hfree]
    rintro ⟨hp, hc⟩
    rcases h with h | h
    · exact h hp
    · exact Bool.false_ne_true (hc.symm.trans h)
  · rw [if_pos (hfree.mpr ⟨hp, hc⟩)]
    exact congrArg s.withExc (if_pos hst)
  · rw [if_pos (hfree.mpr ⟨hp, hc⟩)]
    exact congrArg s.withExc (if_neg hst)

theorem exposureAbort_withExc (s : State) : ∃ e, exposureAbort s = s.withExc e := by
  unfold exposureAbort
  split
  · exact ⟨_, rfl⟩
  · exact ⟨s.exc, rfl⟩

theorem startAbort_eq (form : HaltForm) (s : State) : startAbort form s =
    ((s.abortCalled form).withExc (exposureAbort (s.abortCalled form)).exc).withPrc
      { s.prc with afterZero := false, timer := if s.prc.out = [] then none else some s.prc.grant } := by
  have hcalled : startAbort form s = proofAbort (exposureAbort (s.abortCalled form)) := by
    unfold startAbort
    rw [drainTo_nil]
    rfl
  obtain ⟨e, he⟩ := exposureAbort_withExc (s.abortCalled form)
  rw [hcalled, he]
  have hout : (if s.prc.out.isEmpty then none else some s.prc.grant) = if s.prc.out = [] then none else some s.prc.grant := by
    cases s.prc.out <;> rfl
  rw [← hout]
  rfl

theorem parseHalt_name {form : HaltForm} {w : Text}
    (hw : w = match form with | .soft => ascii "SOFT" | .hard => ascii "HARD") :
    parseHalt w = some form ∧ cleanWord w = true := by
  cases form <;> subst hw <;> decide

theorem abortBody_eq {w : Text} {form : HaltForm} (hw : parseHalt w = some form) (s : State) :
    commandBody .abort [w] s = if aborting s then
      if form = .hard then (s.withSls { s.sls with abort := some .hard }, ok) else (s, ok)
    else (startAbort form s, ok) := by
  simp only [commandBody, abortBody, hw]

/-- An ABORT taken outside an abort (R97). -/
theorem abort_event {w : Text} {form : HaltForm} {s : State} (h : LinkReady s) (hc : cleanWord w = true)
    (hw : parseHalt w = some form) (ha : s.cmp.st ≠ .aborting) :
    exec (.abort [w]) s = .next (finish s (answered (ascii "OK") (startAbort form (heard s)))) := by
  have hbody : commandBody .abort [w] (heard s) = (startAbort form (heard s), ok) :=
    (abortBody_eq hw _).trans (if_neg (by rw [aborting_eq, decide_eq_true_eq]; exact ha))
  exact command_done rfl h (clean_singleton hc) ((startAbort_reported form (heard s)).resetTaken.trans h.1) hbody

/-- Settles O35: the abort's state block by block, the form that stands in an abort, and the refusals. -/
theorem abortStartsOrUpgrades : Obligations.AbortStartsOrUpgrades := by
  unfold Obligations.AbortStartsOrUpgrades
  refine ⟨fun form w s h hw ha => ?_, fun s h ha => ⟨?_, ?_⟩, fun params s h hsoft hhard => ?_⟩
  · obtain ⟨hparse, hclean⟩ := parseHalt_name hw
    refine ⟨startAbort form (heard s), abort_event h hclean hparse ha, ?_⟩
    obtain ⟨hkept, hstopped, hother⟩ := exposureAbort_eq ((heard s).abortCalled form)
    have hexc : (startAbort form (heard s)).exc = (exposureAbort ((heard s).abortCalled form)).exc := by
      rw [startAbort_eq]
      rfl
    refine ⟨?_, ?_, ?_, ?_, fun hp => ?_, fun hp hc hst => ?_, fun hp hc hst => ?_, ?_, ?_⟩
    · rw [startAbort_eq]
      refine ⟨rfl, rfl, ?_⟩
      exact apply_ite (fun l : Link => { l with refer := none }) (s.txq.watch = true) _ _
    · rw [startAbort_eq]
      rfl
    · rw [startAbort_eq]
      rfl
    · rw [startAbort_eq]
      rfl
    · rw [hexc, hkept hp]
      rfl
    · rw [hexc, hstopped hp hc hst]
      rfl
    · rw [hexc, hother hp hc hst]
      rfl
    · rw [startAbort_eq]
      rfl
    · rw [startAbort_eq]
      simp [State.abortCalled]
  · obtain ⟨hparse, hclean⟩ := parseHalt_name (form := .hard) rfl
    have hbody := (abortBody_eq hparse (heard s)).trans (if_pos (by rw [aborting_eq, decide_eq_true_eq]; exact ha))
    exact command_done rfl h (clean_singleton hclean) h.1 hbody
  · obtain ⟨hparse, hclean⟩ := parseHalt_name (form := .soft) rfl
    have hbody := (abortBody_eq hparse (heard s)).trans (if_pos (by rw [aborting_eq, decide_eq_true_eq]; exact ha))
    exact command_done rfl h (clean_singleton hclean) h.1 hbody
  · refine command_syntax rfl h ?_
    rcases params with _ | ⟨w, _ | ⟨w2, ws⟩⟩
    · rfl
    · have hnone : parseHalt w = none :=
        parseHalt_eq_none (fun e => hsoft (congrArg (fun v => [v]) e)) fun e => hhard (congrArg (fun v => [v]) e)
      simp only [commandBody, abortBody, hnone]
    · rfl

/-! ### An abort with nothing in hand (R100) -/

/-- An abort with no line, no cut waited for, no stop and no row at the printer, every record marked (R97, R100). -/
structure NothingInHand (s : State) : Prop where
  aborting : s.cmp.st = .aborting
  ptr : s.exc.ptr = none
  cutWait : s.exc.cutWait = false
  stopReq : s.exc.stopReq = none
  out : s.prc.out = []
  marked : ∀ r ∈ s.sls.records, r.discard = true

/-- The state with the records still kept and the survey as it has come. -/
def State.shed (rs : List LineRecord) (v : Option Survey) (s : State) : State :=
  (s.withSls { s.sls with records := rs }).withOpc { s.opc with survey := v }

theorem exposureReact_eq_none_of_free {s : State} (hp : s.exc.ptr = none) (hr : s.exc.stopReq = none) :
    exposureReact s = none := by
  simp [exposureReact, abortMeetsLine, hp, hr]

theorem surveyReact_eq_none_of_opc {s t : State} (ho : t.opc = s.opc) (h : surveyReact s = none) : surveyReact t = none := by
  unfold surveyReact at h ⊢
  rw [ho]
  split at h
  · split at h
    · cases h
    · rename_i hshift
      exact if_neg hshift
  · rfl

theorem nextProof_eq_none_of_marked {st : Store} (h : ∀ r ∈ st.records, r.discard = true) : st.nextProof = none := by
  rw [Store.nextProof, List.find?_eq_none]
  intro r hr
  simp [h r hr]

theorem skipReact_eq_none_of_marked {s : State} (h : ∀ r ∈ s.sls.records, r.discard = true) : skipReact s = none := by
  simp [skipReact, nextProof_eq_none_of_marked h]

/-- Nothing but the survey's index, a release and the completion follows in an abort with nothing in hand. -/
theorem NothingInHand.react_eq {s : State} (h : NothingInHand s) :
    react s = (surveyReact s).or ((releaseOldest s).or (some (completeAbort s))) := by
  have hst := h.aborting
  have hdone : abortReact s = some (completeAbort s) :=
    if_pos (by simp [abortDone, aborting_eq, hst, h.ptr, h.cutWait, h.out])
  have hstep : composerStep s = none := by simp [composerStep, hst]
  have htake : exposureTake s = none := by simp [exposureTake, aborting_eq, hst]
  have hcomposer : composerRest s = none := by simp [composerRest, hst]
  simp only [react, reactions, List.findSome?_cons, exposureReact_eq_none_of_free h.ptr h.stopReq,
    skipReact_eq_none_of_marked h.marked, hstep, htake, hcomposer, hdone]
  cases surveyReact s <;> cases releaseOldest s <;> rfl

/-- After the completion nothing follows but a survey that goes on. -/
theorem react_completeAbort {s : State} (h : NothingInHand s) (hb : s.txq.bytes = [])
    (hs : surveyReact s = none) : react (completeAbort s) = none := by
  have hexp : exposureReact (completeAbort s) = none := exposureReact_eq_none_of_free h.ptr h.stopReq
  have hskip : skipReact (completeAbort s) = none := skipReact_eq_none_of_marked (by intro r hr; exact nomatch hr)
  have hstep : composerStep (completeAbort s) = none := rfl
  have htake : exposureTake (completeAbort s) = none := ite_eq_right_iff.mpr fun _ => rfl
  have hcomposer : composerRest (completeAbort s) = none := by
    show (if s.txq.bytes.isEmpty then none else _) = none
    rw [hb]
    rfl
  have hsurvey : surveyReact (completeAbort s) = none := surveyReact_eq_none_of_opc (s := s) rfl hs
  have hrelease : releaseOldest (completeAbort s) = none := rfl
  have habort : abortReact (completeAbort s) = none := rfl
  simp only [react, reactions, List.findSome?_cons, List.findSome?_nil, hexp, hsurvey, hrelease, hskip, hstep, htake, hcomposer,
    habort]

theorem settle_release {u : State} {v : Option Survey} (hb : u.txq.bytes = []) :
    ∀ (rs : List LineRecord) (fuel : Nat), NothingInHand (u.shed rs v) → surveyReact (u.shed rs v) = none →
      rs.length < fuel → ∃ rs', settle fuel (u.shed rs v) = completeAbort (u.shed rs' v)
  | rs, fuel + 1, h, hs, hf => by
    have hreact := h.react_eq
    rw [hs, Option.none_or] at hreact
    have hcomplete (hr : react (u.shed rs v) = some (completeAbort (u.shed rs v))) :
        settle (fuel + 1) (u.shed rs v) = completeAbort (u.shed rs v) := by
      rw [settle, hr]
      exact settle_of_none (react_completeAbort h hb hs)
    match rs with
    | [] => exact ⟨[], hcomplete hreact⟩
    | r :: rs =>
      by_cases hfin : r.finished = true
      · have hreact' : react (u.shed (r :: rs) v) = some (u.shed rs v) :=
          hreact.trans (congrArg (Option.or · _) (if_pos hfin))
        have hrest : NothingInHand (u.shed rs v) :=
          ⟨h.aborting, h.ptr, h.cutWait, h.stopReq, h.out, fun x hx => h.marked x (List.mem_cons_of_mem _ hx)⟩
        rw [settle, hreact']
        exact settle_release hb rs fuel hrest (surveyReact_eq_none_of_opc (s := u.shed (r :: rs) v) rfl hs) (Nat.lt_of_succ_lt_succ hf)
      · exact ⟨r :: rs, hcomplete (hreact.trans (congrArg (Option.or · _) (if_neg hfin)))⟩

theorem settle_completes {u : State} (h : NothingInHand u) (hb : u.txq.bytes = []) {fuel : Nat}
    (hf : u.sls.records.length + 1 < fuel) : ∃ rs v, settle fuel u = completeAbort (u.shed rs v) := by
  cases hs : surveyReact u with
  | none =>
    obtain ⟨rs, hrs⟩ := settle_release (v := u.opc.survey) hb u.sls.records fuel h hs (by omega)
    exact ⟨rs, _, hrs⟩
  | some t =>
    obtain ⟨n, rfl⟩ : ∃ n, fuel = n + 1 := ⟨fuel - 1, by omega⟩
    have hreact := h.react_eq
    rw [hs, Option.some_or] at hreact
    obtain ⟨v, hv, hnone⟩ : ∃ v, t = u.shed u.sls.records v ∧ surveyReact (u.shed u.sls.records v) = none := by
      unfold surveyReact at hs
      split at hs
      · split at hs
        · exact ⟨_, (Option.some.inj hs).symm, rfl⟩
        · cases hs
      · cases hs
    obtain ⟨rs, hrs⟩ := settle_release (v := v) hb u.sls.records n
      ⟨h.aborting, h.ptr, h.cutWait, h.stopReq, h.out, h.marked⟩ hnone (by omega)
    refine ⟨rs, v, ?_⟩
    rw [settle, hreact, hv]
    exact hrs

/-! ### What the services leave -/

/-- The records, the proof pointer, the galley wait and the header due stand. -/
def PlaceStands (s t : State) : Prop :=
  t.sls = s.sls ∧ t.prc.ptr = s.prc.ptr ∧ t.prc.galleyWait = s.prc.galleyWait ∧ t.prc.headerDue = s.prc.headerDue

theorem PlaceStands.trans {s t u : State} (h : PlaceStands s t) (h' : PlaceStands t u) : PlaceStands s u := by
  obtain ⟨hsls, hptr, hwait, hdue⟩ := h
  obtain ⟨hsls', hptr', hwait', hdue'⟩ := h'
  exact ⟨hsls'.trans hsls, hptr'.trans hptr, hwait'.trans hwait, hdue'.trans hdue⟩

theorem timerService_placeStands (s : State) : PlaceStands s (timerService s) := by
  unfold timerService
  (repeat' split) <;> exact ⟨rfl, rfl, rfl, rfl⟩

/-- The state decided leaves what is ready as it is (R167). -/
theorem decideProof_placeStands (s : State) : PlaceStands s (decideProof s) ∧ (rowReady s = false → rowReady (decideProof s) = false) := by
  unfold decideProof
  split
  · exact ⟨⟨rfl, rfl, rfl, rfl⟩, id⟩
  · rename_i hsilent
    refine ⟨⟨rfl, rfl, rfl, rfl⟩, fun h => ?_⟩
    have hwanted : rowWanted s = false := by simpa [rowReady, Bool.eq_false_iff.mpr hsilent] using h
    exact Bool.and_eq_false_imp.mpr fun _ => hwanted

/-- Without a row ready nothing but an ASK that waited is begun. -/
theorem proofAct_placeStands {s : State} (h : rowReady s = false) : PlaceStands s (proofAct s) := by
  by_cases hself : s.prc.port ≠ none ∨ s.cmp.st = .aborting ∨ s.prc.askDue = false
  · rw [proofAct_eq_self (hself.imp_right (Or.imp_right fun hd => ⟨hd, .inr (.inr (.inl h))⟩))]
    exact ⟨rfl, rfl, rfl, rfl⟩
  · obtain ⟨hport, hst, hdue⟩ : s.prc.port = none ∧ s.cmp.st ≠ .aborting ∧ s.prc.askDue = true := by simpa using hself
    have hask : proofAct s = s.withPrc s.prc.beginAsk := by
      simp [proofAct, hport, aborting_eq, hst, hdue]
    rw [hask]
    unfold Proof.beginAsk
    split <;> exact ⟨rfl, rfl, rfl, rfl⟩

theorem proofService_placeStands {s : State} (h : rowReady s = false) : PlaceStands s (proofService s) := by
  obtain ⟨hdecided, hready⟩ := decideProof_placeStands s
  exact (hdecided.trans (proofAct_placeStands (hready h))).trans (timerService_placeStands _)

/-- The spin-up and the rest timer leave all but the Optics Controller. -/
theorem rested_placeStands (s : State) : PlaceStands s (restService (spinUp s)) := by
  simp [PlaceStands]

theorem finish_of_completeAbort {s u v : State} (h : settle Config.cascade u = completeAbort v) :
    PlaceStands (completeAbort v) (finish s u) ∧ (finish s u).cmp = v.cmp.abortEnds ∧ (finish s u).hyu = v.hyu ∧
      (finish s u).ftc = v.ftc ∧ (finish s u).txq = v.txq ∧ Flag.idle ∈ (finish s u).link.flags := by
  have hready : rowReady (restService (spinUp (completeAbort v))) = false := by
    refine Bool.eq_false_iff.mpr fun hr => ?_
    obtain ⟨-, -, hp | ⟨-, r, hr, -⟩⟩ := (rowReady_iff _).mp hr
    · exact hp (by simp [completeAbort, proofAbortEnds])
    · simp [completeAbort, proofAbortEnds, Store.abortEnds] at hr
  have hserved : served u = proofService (restService (spinUp (completeAbort v))) := by rw [served, h]
  have hplace : PlaceStands (completeAbort v) (served u) := by
    rw [hserved]
    exact (rested_placeStands _).trans (proofService_placeStands hready)
  refine ⟨hplace.trans ?_, ?_, ?_, ?_, ?_, ?_⟩
  · simp [finish_eq_served, PlaceStands]
  · simp [finish_eq_served, hserved, completeAbort, proofAbortEnds]
  · simp [finish_eq_served, hserved, completeAbort, proofAbortEnds]
  · simp [finish_eq_served, hserved, completeAbort, proofAbortEnds]
  · simp [finish_eq_served, hserved, completeAbort, proofAbortEnds]
  · rw [idle_mem_finish_iff, hserved]
    left
    simp [completeAbort]

/-- Settles O36: the abort's state has nothing in hand, so that its records are released and it completes. -/
theorem abortWithNothingInHandCompletesAtOnce : Obligations.AbortWithNothingInHandCompletesAtOnce := by
  unfold Obligations.AbortWithNothingInHandCompletesAtOnce
  intro w s h hw ha hp hc ho hlen
  obtain ⟨form, hform⟩ : ∃ form : HaltForm, w = match form with | .soft => ascii "SOFT" | .hard => ascii "HARD" :=
    hw.elim (fun e => ⟨.soft, e⟩) fun e => ⟨.hard, e⟩
  obtain ⟨u, hexec, ⟨ubytes, -, ulink⟩, ucmp, uhyu, usls, -, ustopped, uother, uprc, uopc, uftc, -⟩ :=
    abortStartsOrUpgrades.1 form w s h hform ha
  obtain ⟨uptr, uwait, ustop, utable⟩ : u.exc.ptr = none ∧ u.exc.cutWait = false ∧ u.exc.stopReq = none ∧
      u.exc.intensity = s.exc.intensity := by
    by_cases hst : s.exc.st = .stopped
    · rw [ustopped hp hc hst]
      exact ⟨hp, hc, rfl, rfl⟩
    · rw [uother hp hc hst]
      exact ⟨hp, hc, rfl, rfl⟩
  obtain ⟨uexposure, ufilm, uproof⟩ : s.link.SameFaults u.link := by
    rw [ulink]
    split
    · exact link_raise_sameFaults .room (heard s).link
    · exact ⟨rfl, rfl, rfl⟩
  have hhand : NothingInHand (answered (ascii "OK") u) := by
    refine ⟨congrArg Composer.st ucmp, uptr, uwait, ustop, (congrArg Proof.out uprc).trans ho, fun r hr => ?_⟩
    rw [answered_sls, usls, hp] at hr
    obtain ⟨r', -, rfl⟩ := List.mem_map.mp hr
    rfl
  have hrecords : (answered (ascii "OK") u).sls.records.length + 1 < Config.cascade := by
    rw [answered_sls, usls]
    simp only [List.length_map]
    exact (Nat.succ_le_succ hlen).trans_lt (by decide)
  obtain ⟨rs, v, hsettled⟩ := settle_completes hhand ubytes hrecords
  obtain ⟨⟨tsls, tptr, twait, tdue⟩, tcmp, thyu, tftc, ttxq, tidle⟩ := finish_of_completeAbort (s := s) hsettled
  have hfollow := finish_followsUp s (answered (ascii "OK") u)
  obtain ⟨hpairs, hdict⟩ := hfollow.hyu
  obtain ⟨hmounts, hlenses, -⟩ := hfollow.opc
  obtain ⟨-, -, -, htable, -⟩ := hfollow.exc
  obtain ⟨hexposure, hfilm, hproof⟩ := hfollow.link.faults
  replace tcmp := tcmp.trans (congrArg Composer.abortEnds ucmp)
  have tstore : (finish s (answered (ascii "OK") u)).sls = u.sls.abortEnds := tsls
  rw [usls] at tstore
  replace thyu := thyu.trans uhyu
  refine ⟨_, hexec, ?_, ?_, ?_, (congrArg TextQueue.bytes ttxq).trans ubytes, ?_, ?_, ⟨tptr, twait, tdue⟩, tidle, ?_, ?_, hmounts.trans (congrArg Optics.mounts uopc),
    hlenses.trans (congrArg Optics.lenses uopc), htable.trans utable,
    tftc.trans uftc, hexposure.trans uexposure, hfilm.trans ufilm, hproof.trans uproof⟩
  · rw [tcmp]
    exact ⟨rfl, rfl, rfl, rfl, rfl, rfl⟩
  · rw [tstore]
    exact ⟨rfl, rfl, rfl, rfl, rfl⟩
  · simp [freePool, usedElements, openElems, heldLine, tcmp, tstore, Composer.abortEnds, Store.abortEnds, Config.poolElements]
  · rw [thyu]
  · rw [thyu]
  · rw [hpairs, answered_hyu, uhyu]
  · rw [hdict, answered_hyu, uhyu]

end Sys2Proof.Machine
end

section
/-! PROOF. The reactions (R92, R100, R124 to R146, R174, R32): what follows an event, one reaction after another. -/

namespace Sys2Proof.Machine

-- One declaration at a time: it keeps the threads, and with them the memory, of the compile small.
set_option Elab.async false

/-! ### Which reaction stands -/

theorem react_of_survey {s t : State} (h1 : exposureReact s = none) (h : surveyReact s = some t) : react s = some t := by
  simp [react, reactions, h1, h]

theorem react_of_release {s t : State} (h1 : exposureReact s = none) (h2 : surveyReact s = none)
    (h : releaseOldest s = some t) : react s = some t := by
  simp [react, reactions, h1, h2, h]

theorem react_of_skip {s t : State} (h1 : exposureReact s = none) (h2 : surveyReact s = none)
    (h3 : releaseOldest s = none) (h : skipReact s = some t) : react s = some t := by
  simp [react, reactions, h1, h2, h3, h]

theorem react_of_step {s t : State} (h1 : exposureReact s = none) (h2 : surveyReact s = none)
    (h3 : releaseOldest s = none) (h4 : skipReact s = none) (h : composerStep s = some t) : react s = some t := by
  simp [react, reactions, h1, h2, h3, h4, h]

theorem react_of_take {s t : State} (h1 : exposureReact s = none) (h2 : surveyReact s = none)
    (h3 : releaseOldest s = none) (h4 : skipReact s = none) (h5 : composerStep s = none) (h : exposureTake s = some t) :
    react s = some t := by
  simp [react, reactions, h1, h2, h3, h4, h5, h]

theorem react_of_rest {s t : State} (h1 : exposureReact s = none) (h2 : surveyReact s = none)
    (h3 : releaseOldest s = none) (h4 : skipReact s = none) (h5 : composerStep s = none) (h6 : exposureTake s = none)
    (h : composerRest s = some t) : react s = some t := by
  simp [react, reactions, h1, h2, h3, h4, h5, h6, h]

theorem react_of_abort {s t : State} (h1 : exposureReact s = none) (h2 : surveyReact s = none)
    (h3 : releaseOldest s = none) (h4 : skipReact s = none) (h5 : composerStep s = none) (h6 : exposureTake s = none)
    (h7 : composerRest s = none) (h : abortReact s = some t) : react s = some t := by
  simp [react, reactions, h1, h2, h3, h4, h5, h6, h7, h]

/-! ### The vertical move (R126, R151 to R155) -/

/-- The vertical move requested of a READY transport, by its target and its steps (R126). -/
theorem requestLineMove_eq {s : State} {r : LineRecord} (hcur : currentRecord s = some r) :
    let m := s.ftc.lineTarget r
    let e : Exposure := { s.exc with st := .movingFilm, stage := .prepare, moveOut := true, armed := none, flash := none }
    (m.target ≤ s.ftc.cap → s.ftc.p ≠ m.target → 0 < (s.ftc.stepping m.target).steps →
      requestLineMove s = (s.withExc e).withFtc
        { s.ftc with st := .moving, op := some (.lineMove m (s.ftc.stepping m.target)), failed := none }) ∧
      (m.target ≤ s.ftc.cap → s.ftc.p = m.target ∨ (s.ftc.stepping m.target).steps = 0 →
        requestLineMove s =
          moveCompleted m (testLowFilm ((s.withExc e).withFtc (s.ftc.lineMoved m (s.ftc.stepping m.target).newE)))) ∧
      (s.ftc.cap < m.target →
        requestLineMove s = ((s.withExc
          { s.exc with st := .held, stage := .move, moveOut := false, filmOut := true, armed := none, flash := none }).withFtc
            { s.ftc with filmOut := true }).withLink (s.link.raise .filmOut)) := by
  intro m e
  have hrequest : requestLineMove s = match requestMove r (s.withExc e) with
      | (.filmOut, s1) => s1.withExc { s1.exc.enter .held with moveOut := false, stage := .move, filmOut := true }
      | (.moving, s1) => s1
      | (.completed, s1) => moveCompleted m s1 := by
    simp only [requestLineMove, hcur]
    rfl
  have hissue (hm : m.target ≤ s.ftc.cap) : requestMove r (s.withExc e) = issueLineMove m (s.withExc e) :=
    if_neg (Nat.not_lt.mpr hm)
  refine ⟨fun hm hp hs => ?_, fun hm hp => ?_, fun hm => ?_⟩
  · have hstart : ¬ s.ftc.atOnce m.target = true := by
      rw [atOnce_iff]
      omega
    rw [hrequest, hissue hm, show issueLineMove m (s.withExc e) = _ from if_neg hstart]
    rfl
  · have hstart : s.ftc.atOnce m.target = true := by
      rw [atOnce_iff]
      exact hp
    rw [hrequest, hissue hm, show issueLineMove m (s.withExc e) = _ from if_pos hstart]
    rfl
  · rw [hrequest, show requestMove r (s.withExc e) = _ from if_pos hm]
    rfl

/-- The oldest PENDING line taken (R124, R125). -/
def State.lineTaken (r : LineRecord) (s : State) : State :=
  let band := bandOf s.exc.t1 s.exc.t2 s.exc.t3 (Config.reading s.thermReads)
  ((s.withReads (s.thermReads + 1)).withSls (s.sls.update r.number (LineRecord.taken band s.ftc.galley))).withExc
    { s.exc with
      ptr := some r.number, index := 0, misses := 0, stage := .move, moveOut := false, filmOut := false, band := some band
      lamp := if s.exc.lamp = .off then .charging else s.exc.lamp }

theorem takeLine_eq (r : LineRecord) (s : State) : takeLine r s = beginMove (s.lineTaken r) := rfl

theorem currentRecord_lineTaken {r : LineRecord} {s : State} (h : s.sls.find r.number = some r) :
    currentRecord (s.lineTaken r) =
      some (r.taken (bandOf s.exc.t1 s.exc.t2 s.exc.t3 (Config.reading s.thermReads)) s.ftc.galley) := by
  rw [currentRecord_eq (s := s.lineTaken r) rfl]
  exact find_update (fun _ => rfl) h

/-- A line taken, by what the film transport answers (R125, R126, R127). -/
theorem takeLine_cases {r : LineRecord} {s : State} (hr : s.sls.find r.number = some r) :
    let band := bandOf s.exc.t1 s.exc.t2 s.exc.t3 (Config.reading s.thermReads)
    let taken := (s.withReads (s.thermReads + 1)).withSls (s.sls.update r.number (LineRecord.taken band s.ftc.galley))
    let e : Exposure :=
      { s.exc with
        ptr := some r.number, index := 0, misses := 0, band := some band, armed := none, flash := none
        lamp := if s.exc.lamp = .off then .charging else s.exc.lamp }
    let m := s.ftc.lineTarget r
    let moving : Exposure := { e with st := .movingFilm, stage := .prepare, moveOut := true, filmOut := false }
    (s.ftc.st = .ready → m.target ≤ s.ftc.cap → s.ftc.p ≠ m.target → 0 < (s.ftc.stepping m.target).steps →
      takeLine r s = (taken.withExc moving).withFtc
        { s.ftc with st := .moving, op := some (.lineMove m (s.ftc.stepping m.target)), failed := none }) ∧
      (s.ftc.st = .ready → m.target ≤ s.ftc.cap → s.ftc.p = m.target ∨ (s.ftc.stepping m.target).steps = 0 →
        takeLine r s = moveCompleted m
          (testLowFilm ((taken.withExc moving).withFtc (s.ftc.lineMoved m (s.ftc.stepping m.target).newE)))) ∧
      (s.ftc.st = .ready → s.ftc.cap < m.target →
        takeLine r s = ((taken.withExc { e with st := .held, stage := .move, moveOut := false, filmOut := true }).withFtc
          { s.ftc with filmOut := true }).withLink (s.link.raise .filmOut)) ∧
      (s.ftc.st ≠ .ready →
        takeLine r s = (taken.withExc { e with st := .held, stage := .move, moveOut := false, filmOut := false }).withLink
          (if s.ftc.st = .noCassette then s.link.raise .cassette else s.link)) := by
  intro band taken e m moving
  obtain ⟨hmoving, hatOnce, hout⟩ := requestLineMove_eq (currentRecord_lineTaken hr)
  have hclear : moveClear (s.lineTaken r) = (s.ftc.st == .ready) := Bool.and_true _
  have hready (hst : s.ftc.st = .ready) : takeLine r s = requestLineMove (s.lineTaken r) :=
    if_pos (hclear.trans (beq_iff_eq.mpr hst))
  refine ⟨fun hst hm hp hs => ?_, fun hst hm hp => ?_, fun hst hm => ?_, fun hst => ?_⟩
  · rw [hready hst]
    exact hmoving hm hp hs
  · rw [hready hst]
    exact hatOnce hm hp
  · rw [hready hst]
    exact hout hm
  · have hheld : ¬ moveClear (s.lineTaken r) = true := by simpa [hclear] using hst
    rw [takeLine_eq, beginMove, if_neg hheld]
    by_cases hc : s.ftc.st = .noCassette
    · rw [if_pos hc]
      exact if_pos hc
    · rw [if_neg hc]
      exact if_neg hc

/-- An idle Exposure Controller takes the oldest PENDING line (R124). -/
theorem react_takesLine {s : State} {r : LineRecord} (hst : s.exc.st = .idle) (hreq : s.exc.stopReq = none)
    (hp : s.exc.ptr = none) (ha : s.cmp.st ≠ .aborting) (h2 : surveyReact s = none) (h3 : releaseOldest s = none)
    (h4 : skipReact s = none) (h5 : composerStep s = none) (hr : s.sls.nextExposure = some r) :
    react s = some (takeLine r s) := by
  refine react_of_take (exposureReact_eq_none_of_free hp hreq) h2 h3 h4 h5 ?_
  simp [exposureTake, hst, hreq, aborting_eq, ha, hr]

/-! ### The line's end (R136, R137) -/

theorem update_update {st : Store} {n : Nat} {f g : LineRecord → LineRecord} (hf : ∀ r, (f r).number = r.number) :
    (st.update n f).update n g = st.update n fun r => g (f r) := by
  unfold Store.update
  simp only [List.map_map]
  congr 1
  refine List.map_congr_left fun r _ => ?_
  by_cases h : r.number = n <;> simp [h, hf]

/-- A line with no element left ends DONE (R136, R137). -/
theorem goElement_lineDone {s : State} {r : LineRecord} (hcur : currentRecord s = some r) (he : s.exc.ending = none)
    (hl : r.remaining = []) : goElement s = lineDone s := by
  have hend : ¬ s.exc.ending.isSome = true := by simp [he]
  simp only [goElement, hcur, hl, goElements, if_neg hend]

theorem freeExposure_eq (s : State) : freeExposure s = s.withExc { s.exc with
    st := .idle, armed := none, flash := none, cutWait := false
    stopReq := if s.cmp.st = .aborting then none else s.exc.stopReq } := by
  have hstop : (if aborting s = true then none else s.exc.stopReq) =
      if s.cmp.st = .aborting then none else s.exc.stopReq :=
    ite_congr (by rw [aborting_eq, decide_eq_true_eq]) (fun _ => rfl) fun _ => rfl
  rw [← hstop]
  rfl

/-- The line in progress, DONE (R136). -/
def State.lineEnded (n : Nat) (s : State) : State :=
  ((s.withSls { s.sls.update n (fun r => { r with exp := .done }) with lastExposed := n }).withExc
    { s.exc with
      ptr := none, moveOut := false, filmOut := false, stage := .move, armed := none, flash := none }).withLink
        (s.link.raise .line)

theorem lineDone_eq {s : State} {r : LineRecord} (hp : s.exc.ptr = some r.number) (hr : s.sls.find r.number = some r)
    (he : s.exc.ending = none) :
    let done := s.lineEnded r.number
    let cut := startCut r.number done
    (s.ftc.cutFollows r.cutAfter = true →
      lineDone s = cut.withExc { cut.exc with st := .held, cutWait := true, armed := none, flash := none }) ∧
      (s.ftc.cutFollows r.cutAfter = false →
        lineDone s = done.withExc { done.exc with
          st := .idle, cutWait := false, stopReq := if s.cmp.st = .aborting then none else s.exc.stopReq }) := by
  intro done cut
  have hcur : currentRecord s = some r := (currentRecord_eq hp).trans hr
  have hdone : raise .line (closeLineExposure (fun r => { r with exp := .done }) s) = done := by
    rw [closeLineExposure_eq hp, ← he]
    rfl
  have hline : lineDone s = if done.ftc.cutFollows r.cutAfter then cut.withExc { cut.exc.enter .held with cutWait := true }
      else freeExposure done := by
    simp only [lineDone, hcur, hdone, cut]
  refine ⟨fun hc => hline.trans (if_pos hc), fun hc => (hline.trans (if_neg (Bool.eq_false_iff.mp hc))).trans ?_⟩
  exact freeExposure_eq done

theorem lineDone_records {s : State} {r : LineRecord} (hp : s.exc.ptr = some r.number) (hr : s.sls.find r.number = some r)
    (he : s.exc.ending = none) :
    (lineDone s).sls = { s.sls.update r.number (fun r => { r with exp := .done }) with lastExposed := r.number } ∧
      (lineDone s).exc.ptr = none := by
  obtain ⟨hcut, hfree⟩ := lineDone_eq hp hr he
  by_cases hc : s.ftc.cutFollows r.cutAfter = true
  · rw [hcut hc]
    simp [State.lineEnded]
  · rw [hfree (Bool.eq_false_iff.mpr hc)]
    exact ⟨rfl, rfl⟩

/-- The report of a move entered in its line's record (R126). -/
def LineMove.reported (m : LineMove) (r : LineRecord) : LineRecord :=
  { r with flags := flagIf m.noMark .noMark (flagIf m.clamped .clamped r.flags) }

def State.moveReported (m : LineMove) (s : State) : State :=
  (s.withSls (s.sls.update m.number m.reported)).withExc { s.exc with moveOut := false, stage := .prepare }

/-- A line's move completed in STOPPED (R85, R143). -/
theorem moveCompleted_stopped {m : LineMove} {r : LineRecord} {s : State} (hst : s.exc.st = .stopped)
    (hp : s.exc.ptr = some r.number) (hr : s.sls.find r.number = some r) (hm : m.number = r.number) :
    let u := s.moveReported m
    (r.remaining ≠ [] → moveCompleted m s = u) ∧
      (r.remaining = [] → s.exc.ending = none →
        let t := goElement u
        moveCompleted m s = (if t.exc.cutWait = true then t.withExc { t.exc with st := .stopped } else t) ∧
          (moveCompleted m s).sls =
            { s.sls.update r.number (fun r => { m.reported r with exp := .done }) with lastExposed := r.number } ∧
          (moveCompleted m s).exc.ptr = none) := by
  intro u
  have hupdate : u.sls = s.sls.update r.number m.reported := congrArg (fun n => s.sls.update n m.reported) hm
  have hfind : u.sls.find r.number = some (m.reported r) := by
    rw [hupdate]
    exact find_update (fun _ => rfl) hr
  have hcur : currentRecord u = some (m.reported r) := (currentRecord_eq (s := u) hp).trans hfind
  have hmoved : moveCompleted m s = if r.remaining.isEmpty then stayStopped (goElement u) else u := by
    have hstopped : ¬ u.exc.st ≠ .stopped := not_not.mpr hst
    have h : moveCompleted m s = if u.exc.st ≠ .stopped then goElement u
        else if (currentRecord u).any (fun r => r.remaining.isEmpty) then stayStopped (goElement u) else u := rfl
    rw [h, if_neg hstopped, hcur]
    rfl
  refine ⟨fun hl => hmoved.trans (if_neg (by simpa using hl)), fun hl he => ?_⟩
  replace hmoved := hmoved.trans (if_pos (by simp [hl]))
  have hdone : goElement u = lineDone u := goElement_lineDone hcur he hl
  obtain ⟨hsls, hptr⟩ := lineDone_records (s := u) (r := m.reported r) hp hfind he
  have hstay (t : State) : (stayStopped t).sls = t.sls ∧ (stayStopped t).exc.ptr = t.exc.ptr := by
    unfold stayStopped
    split <;> exact ⟨rfl, rfl⟩
  refine ⟨hmoved, ?_, ?_⟩
  · rw [hmoved, (hstay _).1, hdone, hsls, hupdate]
    exact congrArg (fun st : Store => { st with lastExposed := r.number }) (update_update (f := m.reported) fun _ => rfl)
  · rw [hmoved, (hstay _).2, hdone, hptr]

/-! ### The elements (R127, R128, R134) -/

/-- A hold cause stands before the elements `rest` (R127). -/
def holds (rest : List Elem) (s : State) : Bool := doorOrDrum s || mountHold rest s

theorem holds_iff (rest : List Elem) (s : State) : holds rest s = true ↔
    s.opc.door ≠ .closed ∨ s.opc.drum ≠ .atSpeed ∨ ∃ e ∈ rest, e.notReady s.opc = true := by
  simp [holds, doorOrDrum, mountHold, or_assoc]

theorem hold_eq (stage : Stage) (rest : List Elem) (s : State) : hold stage (mountHold rest s) s =
    (s.withExc { s.exc with st := .held, armed := none, flash := none, stage := stage }).withLink
      (if rest.any (Elem.notReady s.opc) then s.link.raise .mount else s.link) := by
  unfold hold mountHold
  split <;> rfl

/-- The four operations of a box requested (R128). -/
def State.boxRequested (m p : Fin 8) (x misses : Nat) (s : State) : State :=
  (s.withOpc { s.opc with
    strip := s.opc.strip.request .strip .exposure (m.val / 2)
    prism := s.opc.prism.request .prism .exposure (m.val % 2)
    turret := s.opc.turret.request .turret .exposure p.val }).withExc
      { s.exc with
        st := .preparing, armed := none, flash := none, stage := .arm, misses := misses
        esc := s.exc.esc.request x .element }

/-- The next of the elements left, of a line that goes on (R127, R128). -/
theorem goElement_cons {s : State} {r : LineRecord} {e : Elem} {es : List Elem} (hcur : currentRecord s = some r)
    (hl : r.remaining = e :: es) (he : s.exc.ending = none) (hstop : s.exc.stopReq ≠ some .hard) :
    (holds (e :: es) s = true → goElement s = hold .prepare (mountHold (e :: es) s) s) ∧
      (holds (e :: es) s = false → ∀ m slot p, e.kind = .box m slot p → goElement s = s.boxRequested m p e.x 0) ∧
      (holds (e :: es) s = false → (∀ m slot p, e.kind ≠ .box m slot p) → goElement s = goElements es (countElement s)) := by
  have hgo : goElement s = goElements (e :: es) s := by simp only [goElement, hcur, hl]
  have hhalt : ¬ halting s = true := by simp [halting, he, hstop]
  rw [hgo, goElements, if_neg hhalt]
  refine ⟨fun h => if_pos h, fun h m slot p hk => (if_neg (Bool.eq_false_iff.mp h)).trans ?_,
    fun h hk => (if_neg (Bool.eq_false_iff.mp h)).trans ?_⟩
  · rw [hk]
    rfl
  · cases hkind : e.kind with
    | box m slot p => exact absurd hkind (hk m slot p)
    | _ => rfl

/-- A space passed is an element counted, and the line goes on from there (R128). -/
theorem goElements_countElement {s : State} {r : LineRecord} {e : Elem} {es : List Elem} (hp : s.exc.ptr = some r.number)
    (hr : s.sls.find r.number = some r) (hl : r.remaining = e :: es) :
    goElements es (countElement s) = goElement ((s.withSls (s.sls.update r.number fun r =>
      { r with exposed := r.exposed + 1 })).withExc { s.exc with index := s.exc.index + 1 }) := by
  set u := (s.withSls (s.sls.update r.number fun r => { r with exposed := r.exposed + 1 })).withExc
    { s.exc with index := s.exc.index + 1 }
  have hcount : countElement s = u := by
    unfold countElement
    split
    · rename_i hn
      exact nomatch hn.symm.trans hp
    · rename_i n hn
      cases hn.symm.trans hp
      rfl
  have hcur : currentRecord u = some { r with exposed := r.exposed + 1 } :=
    (currentRecord_eq (s := u) hp).trans (find_update (fun _ => rfl) hr)
  have hrest : ({ r with exposed := r.exposed + 1 } : LineRecord).remaining = es := by
    have h : r.elems.drop r.exposed = e :: es := hl
    show r.elems.drop (r.exposed + 1) = es
    rw [← List.tail_drop, h, List.tail_cons]
  simp only [hcount, goElement, hcur, hrest]

/-- The arming test of the next of the elements left (R134). -/
theorem armTest_cons {s : State} {r : LineRecord} {e : Elem} {es : List Elem} (hcur : currentRecord s = some r)
    (hl : r.remaining = e :: es) :
    (holds (e :: es) s = true → armTest s = hold .arm (mountHold (e :: es) s) s) ∧
      (holds (e :: es) s = false → ∀ m slot p, e.kind = .box m slot p →
        (atTargets m p e.x s = true → armTest s = arm m slot p s) ∧
          (atTargets m p e.x s = false → armTest s = s.boxRequested m p e.x s.exc.misses)) := by
  have htest : armTest s = if holds (e :: es) s then hold .arm (mountHold (e :: es) s) s else
      match e.kind with
      | .box m slot p =>
        if atTargets m p e.x s then arm m slot p s
        else requestBox m p e.x (s.withExc { s.exc.enter .preparing with stage := .arm })
      | _ => goElements (e :: es) s := by
    simp only [armTest, hcur, hl]
    rfl
  rw [htest]
  refine ⟨fun h => if_pos h, fun h m slot p hk => ?_⟩
  rw [if_neg (Bool.eq_false_iff.mp h), hk]
  exact ⟨fun ht => if_pos ht, fun ht => if_neg (Bool.eq_false_iff.mp ht)⟩

theorem atTargets_iff (m p : Fin 8) (x : Nat) (s : State) : atTargets m p x s = true ↔
    s.opc.strip.held = some (m.val / 2) ∧ s.opc.prism.held = some (m.val % 2) ∧ s.opc.turret.held = some p.val ∧
      s.exc.esc.held = some x := by
  simp [atTargets, and_assoc]

/-! ### What takes the line on (R124, R127, R128, R145, R146) -/

/-- Operations that have ended lead to the arming test (R134). -/
theorem react_armTest {s : State} {n : Nat} (hp : s.exc.ptr = some n) (ha : s.cmp.st ≠ .aborting) (he : s.exc.ending = none)
    (hstop : s.exc.stopReq ≠ some .hard) (hst : s.exc.st = .preparing) (ho : opsOutstanding s = false) :
    react s = some (armTest s) := by
  refine react_of_exposure ?_
  simp [exposureReact, abortMeetsLine_eq_false ha, he, hstop, hst, hp, ho]

/-- A hold whose causes are gone goes on at its stage (R127). -/
theorem react_beginStage {s : State} {n : Nat} (hp : s.exc.ptr = some n) (ha : s.cmp.st ≠ .aborting)
    (he : s.exc.ending = none) (hstop : s.exc.stopReq ≠ some .hard) (hst : s.exc.st = .held) (hw : s.exc.cutWait = false)
    (hm : s.exc.moveOut = false) (hc : stageClear s = true) : react s = some (beginStage s) := by
  refine react_of_exposure ?_
  simp [exposureReact, abortMeetsLine_eq_false ha, he, hstop, hst, hp, hw, hm, hc]

theorem stageClear_of_rest {s : State} {r : LineRecord} (hcur : currentRecord s = some r) (hs : s.exc.stage ≠ .move)
    (hh : holds r.remaining s = false) : stageClear s = true := by
  have hclear : stageClear s = !(holds r.remaining s) := by
    unfold stageClear
    cases h : s.exc.stage with
    | move => exact absurd h hs
    | _ => simp only [hcur, holds]
  rw [hclear, hh]
  rfl

/-- An abort meets a line in its HARD form, held, stopped or faulted (R98, R146). -/
theorem react_beginEnding {s : State} {n : Nat} (hp : s.exc.ptr = some n) (ha : s.cmp.st = .aborting)
    (he : s.exc.ending = none)
    (h : s.sls.abort = some .hard ∨ s.exc.st = .held ∨ s.exc.st = .stopped ∨ s.exc.st = .faulted) :
    react s = some (beginEnding .abort s) := by
  have hmeets : abortMeetsLine s = true := by
    simp [abortMeetsLine, aborting_eq, ha, hp, he, or_assoc, h]
  exact react_of_exposure (if_pos hmeets)

/-- A line that is ending is PARTIAL once nothing of it is in flight (R145, R146). -/
theorem react_endPartial {s : State} {n : Nat} (hp : s.exc.ptr = some n) (he : s.exc.ending ≠ none) (hq : quiet s = true) :
    react s = some (endPartial s) := by
  have hending : s.exc.ending.isSome = true := Option.isSome_iff_ne_none.mpr he
  have hmeets : abortMeetsLine s = false := by
    simp [abortMeetsLine, Option.isNone_eq_false_iff.mpr hending]
  refine react_of_exposure ?_
  simp [exposureReact, hmeets, hending, hp, hq]

theorem endPartial_eq {s : State} {n : Nat} (hp : s.exc.ptr = some n) : endPartial s =
    (s.withSls { s.sls.update n (fun r => { r with exp := .part, flags := addLineFlag .part r.flags }) with
      lastExposed := n }).withExc
        { s.exc with
          st := .idle, ptr := none, ending := none, moveOut := false, filmOut := false, stage := .move, armed := none
          flash := none, cutWait := false, stopReq := if s.cmp.st = .aborting then none else s.exc.stopReq } := by
  rw [endPartial, closeLineExposure_eq hp, freeExposure_eq]
  rfl

/-! ### The composer (R32, R35) -/

/-- There is room for a step held (R35). -/
theorem stepRoomFor_iff (t : Task) (s : State) : roomFor t s = true ↔
    match t with
    | .offer _ _ => s.sls.records.length < 24
    | .place _ => (itemElems s.cmp.word.items).length ≤ freePool s
    | .brk b _ _ => (itemElems (s.cmp.word.items.take b.cut)).length + b.hyph.toList.length ≤ freePool s
    | .overset _ _ => ∀ l, s.cmp.line = some l → oversetRun l (itemElems s.cmp.word.items) ≤ freePool s
    | _ => True := by
  cases t with
  | offer r carried => exact decide_eq_true_iff
  | place opp => exact decide_eq_true_iff
  | brk b flags opp => exact decide_eq_true_iff
  | overset flags opp => cases h : s.cmp.line <;> simp [roomFor, h]
  | _ => exact iff_of_true rfl trivial

theorem composerStep_reading {s : State} {t : Task} (hst : s.cmp.st = .reading) (ht : s.cmp.task = some t)
    (hd : ∀ opp, t ≠ .decision opp) : composerStep s = some (taskStep t s) := by
  unfold composerStep
  rw [hst, ht]
  cases t with
  | decision opp => exact absurd rfl (hd opp)
  | _ => rfl

theorem composerStep_stallRoom {s : State} {t : Task} (hst : s.cmp.st = .stallRoom) (ht : s.cmp.task = some t) :
    composerStep s = if roomFor t s then some (s.withCmp { s.cmp with st := .reading }) else none := by
  unfold composerStep
  rw [hst, ht]

/-- The composer holds something that makes it wait for text (R32). -/
theorem holds_iff_waits (c : Composer) : c.holds = true ↔
    c.partCode ≠ none ∨ 0 < c.word.count ∨ c.word.items ≠ [] ∨ c.held ≠ none ∨ ∃ l, c.line = some l ∧ l.elems ≠ [] := by
  have hline : (c.line.map OpenLine.nonEmpty).getD false = true ↔ ∃ l, c.line = some l ∧ l.elems ≠ [] := by
    cases c.line <;> simp [OpenLine.nonEmpty]
  simp only [Composer.holds, Bool.or_eq_true, hline, decide_eq_true_eq, Option.isSome_iff_ne_none, Bool.not_eq_true',
    List.isEmpty_eq_false_iff, or_assoc]

theorem composerRest_reading {s : State} (hst : s.cmp.st = .reading) (ht : s.cmp.task = none) (hb : s.txq.bytes = []) :
    composerRest s = some (s.withCmp { s.cmp with st := if s.cmp.holds then .waitText else .idle }) := by
  unfold composerRest
  rw [hst, ht, hb]
  rfl

theorem composerRest_text {s : State} (hst : s.cmp.st = .idle ∨ s.cmp.st = .waitText) (hb : s.txq.bytes ≠ []) :
    composerRest s = some (s.withCmp { s.cmp with st := .reading }) := by
  have hbytes : ¬ s.txq.bytes.isEmpty = true := by simpa using hb
  unfold composerRest
  rcases hst with hst | hst <;> rw [hst] <;> exact if_neg hbytes

/-! ### The store's end of a line, SKIPPING and the abort -/

theorem finished_iff (r : LineRecord) : r.finished = true ↔
    (r.exp = .done ∨ r.exp = .part ∨ r.exp = .notRequired) ∧
      (r.proof = .done ∨ r.proof = .skipped ∨ r.proof = .notRequired) := by
  have hexp : r.exp.terminal = true ↔ r.exp = .done ∨ r.exp = .part ∨ r.exp = .notRequired := by
    cases r.exp <;> simp [ExpState.terminal]
  have hproof : r.proof.terminal = true ↔ r.proof = .done ∨ r.proof = .skipped ∨ r.proof = .notRequired := by
    cases r.proof <;> simp [ProofState.terminal]
  rw [LineRecord.finished, Bool.and_eq_true, hexp, hproof]

theorem abort_completes {s : State} (ha : s.cmp.st = .aborting) (hp : s.exc.ptr = none) (hw : s.exc.cutWait = false)
    (ho : s.prc.out = []) : abortReact s = some (completeAbort s) :=
  if_pos (by simp [abortDone, aborting_eq, ha, hp, hw, ho])

theorem completeAbort_eq (s : State) : completeAbort s =
    (((s.withSls { s.sls with records := [], counter := 1, lastOpened := 0, abort := none }).withCmp
      { s.cmp with st := .idle, ladder := 0 }).withPrc
        { s.prc with
          ptr := none, galleyWait := none, headerDue := true
          timer := if s.prc.ask = true ∨ (s.prc.st = .faulted ∧ s.prc.mode = .best) then some s.prc.grant
            else none }).withLink (s.link.raise .idle) := by
  have htimer : (if (s.prc.ask || (s.prc.st == .faulted && s.prc.mode == .best)) = true then some s.prc.grant else none) =
      if s.prc.ask = true ∨ (s.prc.st = .faulted ∧ s.prc.mode = .best) then some s.prc.grant else none :=
    ite_congr (by simp) (fun _ => rfl) fun _ => rfl
  rw [← htimer]
  rfl

/-- Settles O51: which reaction stands, and what each of them does, case by case. -/
theorem linesRunThroughTheirStages : Obligations.LinesRunThroughTheirStages := by
  unfold Obligations.LinesRunThroughTheirStages
  refine ⟨⟨fun n s t h => ?_, fun n s h => settle_of_none h, fun s u => ?_⟩, fun r s hst hreq hp ha h2 h3 h4 h5 hr hf => ?_,
    fun f r => ?_, fun m s hst => if_pos hst, fun m r s hst hp hr hm => moveCompleted_stopped hst hp hr hm,
    fun r s hp hr => ?_, fun r rs s h1 h2 hrs he hpr => ?_, fun p s h1 hv => ⟨fun hf hh => ?_, fun hn => ?_⟩,
    fun r s h1 h2 h3 hst hr => ?_, fun t s h1 h2 h3 h4 ht => ?_, fun s h1 h2 h3 h4 h5 h6 => ?_,
    fun s h1 h2 h3 h4 ha hp hw ho => ?_⟩
  · rw [settle, h]
  · intro v w
    have hidle : idleService (idleHolds s) v = w := by
      show (if (idleHolds v && !idleHolds s) = true then _ else _) = _
      exact if_congr (by simp) rfl rfl
    rw [finish_eq_served]
    show pumpTx (idleService (idleHolds s) v) = _
    rw [hidle]
    rfl
  · intro band taken e m
    obtain ⟨hmoving, hatOnce, hout, hheld⟩ := takeLine_cases hf
    have htake := react_takesLine hst hreq hp ha h2 h3 h4 h5 hr
    exact ⟨fun h1 h2 h3 h4 => htake.trans (congrArg some (hmoving h1 h2 h3 h4)),
      fun h1 h2 h3 => htake.trans (congrArg some (hatOnce h1 h2 h3)), fun h1 h2 => htake.trans (congrArg some (hout h1 h2)),
      fun h => htake.trans (congrArg some (hheld h))⟩
  · rfl
  · intro rest stopped held request
    have hcur : currentRecord s = some r := (currentRecord_eq hp).trans hr
    have hstopped (es : List Elem) (hl : rest = es) : holds es s = true ↔ stopped := by
      rw [← hl]
      exact holds_iff rest s
    have hgoes {es : List Elem} (hl : rest = es) (h : ¬ stopped) : holds es s = false :=
      Bool.eq_false_iff.mpr fun hh => h ((hstopped es hl).mp hh)
    have hheld (stage : Stage) : hold stage (mountHold rest s) s = held stage := hold_eq stage rest s
    refine ⟨fun he => ⟨fun e es hl hstop => ?_, fun hl => ?_⟩, fun ha he hstop hst ho e es hl => ?_,
      fun ha he hstop hst hw hm => ?_, fun ha he h => ?_, fun he hq => ?_⟩
    · obtain ⟨hhold, hbox, hspace⟩ := goElement_cons hcur hl he hstop
      refine ⟨fun h => ?_, fun h m slot p hk => hbox (hgoes hl h) m slot p hk, fun h hk => ?_⟩
      · rw [hhold ((hstopped _ hl).mpr h), ← hl, hheld]
      · rw [hspace (hgoes hl h) hk, goElements_countElement hp hr hl]
    · rw [goElement_lineDone hcur he hl]
      exact lineDone_eq hp hr he
    · rw [react_armTest hp ha he hstop hst ho]
      obtain ⟨hhold, hbox⟩ := armTest_cons hcur hl
      refine ⟨fun h => ?_, fun h m slot p hk => ⟨fun ht => ?_, fun ht => ?_⟩⟩
      · rw [hhold ((hstopped _ hl).mpr h), ← hl, hheld]
      · rw [(hbox (hgoes hl h) m slot p hk).1 ((atTargets_iff m p e.x s).mpr ht)]
        rfl
      · rw [(hbox (hgoes hl h) m slot p hk).2 (Bool.eq_false_iff.mpr fun hh => ht ((atTargets_iff m p e.x s).mp hh))]
        rfl
    · have hbegin := react_beginStage hp ha he hstop hst hw hm
      refine ⟨fun hs hf ho => ?_, fun hs h => ?_, fun hs h => ?_⟩
      · have hmove : moveClear s = true := by simp [moveClear, hf, ho]
        rw [hbegin (by rw [stageClear, hs]; exact hmove), beginStage, hs]
        exact congrArg some (if_pos hmove)
      · rw [hbegin (stageClear_of_rest hcur (by simp [hs]) (hgoes rfl h)), beginStage, hs]
      · rw [hbegin (stageClear_of_rest hcur (by simp [hs]) (hgoes rfl h)), beginStage, hs]
    · rw [react_beginEnding hp ha he h, beginEnding_eq]
    · rw [react_endPartial hp he hq, endPartial_eq hp]
  · have hreleased : releaseOldest s = some (s.withSls { s.sls with records := rs }) := by
      unfold releaseOldest
      rw [hrs]
      exact if_pos ((finished_iff r).mpr ⟨he, hpr⟩)
    exact react_of_release h1 h2 hreleased
  · refine react_of_survey h1 ?_
    unfold surveyReact
    rw [hv]
    exact if_pos (by simp [hf, hh])
  · unfold surveyReact
    rw [hv]
    exact if_neg (by simpa [or_iff_not_imp_left] using hn)
  · intro u
    have hskip : skipReact s = some (skipRecord r s) := by
      unfold skipReact Store.nextProof
      rw [hst, hr]
      rfl
    rw [react_of_skip h1 h2 h3 hskip, skipRecord_eq]
    cases hc : r.cutAfter
    · simp only [Bool.or_false, Bool.false_and, Bool.false_eq_true, if_false]
      rfl
    · have hwait : (if s.prc.galleyWait == some r.number then none else s.prc.galleyWait) =
          if s.prc.galleyWait = some r.number then none else s.prc.galleyWait := by simp only [beq_iff_eq]
      simp only [Bool.or_true, Bool.true_and, if_true, hwait]
      rfl
  · intro room
    have hroom : roomFor t s = true ↔ room := stepRoomFor_iff t s
    refine ⟨fun hst hd => ?_, fun hst hrm => ?_, fun hst hrm => ?_⟩
    · rw [react_of_step h1 h2 h3 h4 (composerStep_reading hst ht hd)]
      cases t <;> rfl
    · exact react_of_step h1 h2 h3 h4 ((composerStep_stallRoom hst ht).trans (if_pos (hroom.mpr hrm)))
    · exact (composerStep_stallRoom hst ht).trans (if_neg fun h => hrm (hroom.mp h))
  · refine ⟨fun hst ht hb => ?_, fun hst hb => react_of_rest h1 h2 h3 h4 h5 h6 (composerRest_text hst hb)⟩
    have hrest := react_of_rest h1 h2 h3 h4 h5 h6 (composerRest_reading hst ht hb)
    intro waits
    refine ⟨fun hw => ?_, fun hw => ?_⟩
    · rw [hrest, if_pos ((holds_iff_waits s.cmp).mpr hw)]
    · rw [hrest, if_neg fun h => hw ((holds_iff_waits s.cmp).mp h)]
  · have hstep : composerStep s = none := by simp [composerStep, ha]
    have htake : exposureTake s = none := by simp [exposureTake, aborting_eq, ha]
    have hrest : composerRest s = none := by simp [composerRest, ha]
    rw [react_of_abort h1 h2 h3 h4 hstep htake hrest (abort_completes ha hp hw ho), completeAbort_eq]

end Sys2Proof.Machine
end

section
/-! PROOF. The Hyphenation Unit's examination (R59 to R61, R68 to R74): letters, break points, candidates and classes. -/

namespace Sys2Proof.Machine

-- One declaration at a time: it keeps the threads, and with them the memory, of the compile small.
set_option Elab.async false

/-! ### Letters (R59) -/

/-- The item is a letter (R59). -/
def WordItem.isLetter : WordItem → Bool
  | .elem b _ _ => (letterClass b).isSome
  | _ => false

/-- The item is a SOFT_HYPHEN. -/
def WordItem.isSoft : WordItem → Bool
  | .soft _ => true
  | _ => false

/-- The item is a '-' element (R61). -/
def WordItem.isDash : WordItem → Bool
  | .elem b _ _ => b == 0x2D#8
  | _ => false

/-- The code of a letter. -/
def WordItem.letterCode : WordItem → Option Byte
  | .elem b _ _ => if (letterClass b).isSome then some b else none
  | _ => none

theorem letterOrSoft_iff (i : WordItem) : i.letterOrSoft = true ↔ i.isLetter = true ∨ i.isSoft = true := by
  cases i <;> simp [WordItem.letterOrSoft, WordItem.isLetter, WordItem.isSoft]

theorem isSoft_of_isLetter {i : WordItem} (h : i.isLetter = true) : i.isSoft = false := by
  cases i with
  | elem b e v => rfl
  | tie v => rfl
  | soft v => exact nomatch h

/-- The letter an item is, at its place. -/
theorem lettersFrom_letter {b : Byte} {c : Fin 26} (h : letterClass b = some c) (e : Elem) (v : Env) (is : List WordItem)
    (i : Nat) : lettersFrom i (.elem b e v :: is) = { idx := i, cls := c, code := b, env := v } :: lettersFrom (i + 1) is := by
  simp only [lettersFrom, h]

theorem lettersFrom_other {x : WordItem} (h : x.isLetter = false) (is : List WordItem) (i : Nat) :
    lettersFrom i (x :: is) = lettersFrom (i + 1) is := by
  cases x with
  | elem b e v =>
    have hb : letterClass b = none := by simpa [WordItem.isLetter] using h
    simp only [lettersFrom, hb]
  | tie v => rfl
  | soft v => rfl

theorem lettersFrom_eq_nil {xs : List WordItem} (h : ∀ x ∈ xs, x.isLetter = false) : ∀ i, lettersFrom i xs = [] := by
  induction xs with
  | nil => intro i; rfl
  | cons x xs ih =>
    intro i
    rw [lettersFrom_other (h x List.mem_cons_self)]
    exact ih (fun y hy => h y (List.mem_cons_of_mem _ hy)) _

theorem isLetter_cases (x : WordItem) : x.isLetter = false ∨ ∃ b e v c, x = .elem b e v ∧ letterClass b = some c := by
  cases x with
  | elem b e v =>
    cases h : letterClass b with
    | none => exact .inl (by simp [WordItem.isLetter, h])
    | some c => exact .inr ⟨b, e, v, c, rfl, h⟩
  | tie v => exact .inl rfl
  | soft v => exact .inl rfl

theorem lettersFrom_append (xs ys : List WordItem) : ∀ i,
    lettersFrom i (xs ++ ys) = lettersFrom i xs ++ lettersFrom (i + xs.length) ys := by
  induction xs with
  | nil => intro i; rfl
  | cons x xs ih =>
    intro i
    have hnext : i + (x :: xs).length = i + 1 + xs.length := by rw [List.length_cons]; omega
    rw [List.cons_append, hnext]
    rcases isLetter_cases x with h | ⟨b, e, v, c, rfl, h⟩
    · rw [lettersFrom_other h, lettersFrom_other h, ih]
    · rw [lettersFrom_letter h, lettersFrom_letter h, ih, List.cons_append]

theorem lettersFrom_length (xs : List WordItem) : ∀ i, (lettersFrom i xs).length = xs.countP WordItem.isLetter := by
  induction xs with
  | nil => intro i; rfl
  | cons x xs ih =>
    intro i
    rcases isLetter_cases x with h | ⟨b, e, v, c, rfl, h⟩
    · rw [lettersFrom_other h, ih, List.countP_cons_of_neg (by simp [h])]
    · rw [lettersFrom_letter h, List.length_cons, ih, List.countP_cons_of_pos (by simp [WordItem.isLetter, h])]

theorem lettersFrom_code (xs : List WordItem) : ∀ i, (lettersFrom i xs).map LetterAt.code = xs.filterMap WordItem.letterCode := by
  induction xs with
  | nil => intro i; rfl
  | cons x xs ih =>
    intro i
    rcases isLetter_cases x with h | ⟨b, e, v, c, rfl, h⟩
    · have hcode : x.letterCode = none := by
        cases x <;> simp_all [WordItem.letterCode, WordItem.isLetter]
      rw [lettersFrom_other h, ih, List.filterMap_cons_none hcode]
    · have hcode : (WordItem.elem b e v).letterCode = some b := by simp [WordItem.letterCode, h]
      rw [lettersFrom_letter h, List.map_cons, ih, List.filterMap_cons_some hcode]

/-- The classes of the letters are those of their codes. -/
theorem lettersFrom_cls (xs : List WordItem) : ∀ i,
    (lettersFrom i xs).map LetterAt.cls = (xs.filterMap WordItem.letterCode).filterMap letterClass := by
  intro i
  rw [← lettersFrom_code xs i]
  induction xs generalizing i with
  | nil => rfl
  | cons x xs ih =>
    rcases isLetter_cases x with h | ⟨b, e, v, c, rfl, h⟩
    · rw [lettersFrom_other h]
      exact ih _
    · rw [lettersFrom_letter h, List.map_cons, List.map_cons, List.filterMap_cons_some h, ih]

/-- Where the first letter stands. -/
theorem lettersFrom_cons {xs : List WordItem} : ∀ {i : Nat} {a : LetterAt} {ls : List LetterAt}, lettersFrom i xs = a :: ls →
    ∃ pre e post, xs = pre ++ .elem a.code e a.env :: post ∧ (∀ x ∈ pre, x.isLetter = false) ∧
      letterClass a.code = some a.cls ∧ a.idx = i + pre.length ∧ lettersFrom (a.idx + 1) post = ls := by
  induction xs with
  | nil => intro i a ls h; cases h
  | cons x xs ih =>
    intro i a ls h
    rcases isLetter_cases x with hx | ⟨b, e, v, c, rfl, hb⟩
    · rw [lettersFrom_other hx] at h
      obtain ⟨pre, e, post, hxs, hpre, hc, hi, hls⟩ := ih h
      refine ⟨x :: pre, e, post, by rw [hxs]; rfl, ?_, hc, ?_, hls⟩
      · exact List.forall_mem_cons.mpr ⟨hx, hpre⟩
      · rw [List.length_cons]
        omega
    · rw [lettersFrom_letter hb] at h
      obtain ⟨rfl, rfl⟩ := List.cons.inj h
      exact ⟨[], e, xs, rfl, nofun, hb, rfl, rfl⟩

/-- Where two letters that follow each other stand. -/
theorem lettersFrom_adjacent {ls ls' : List LetterAt} {a b : LetterAt} : ∀ {is : List WordItem} {i : Nat},
    lettersFrom i is = ls ++ a :: b :: ls' → ∃ pre ea mid eb post,
      is = pre ++ .elem a.code ea a.env :: mid ++ .elem b.code eb b.env :: post ∧ a.idx = i + pre.length ∧
        b.idx = a.idx + 1 + mid.length ∧ letterClass a.code = some a.cls ∧ letterClass b.code = some b.cls ∧
        (∀ x ∈ mid, x.isLetter = false) ∧ ls.length = pre.countP WordItem.isLetter := by
  induction ls with
  | nil =>
    intro is i h
    obtain ⟨pre, ea, rest, rfl, hpre, ha, hia, hrest⟩ := lettersFrom_cons h
    obtain ⟨mid, eb, post, rfl, hmid, hb, hib, -⟩ := lettersFrom_cons hrest
    refine ⟨pre, ea, mid, eb, post, by simp, hia, hib, ha, hb, hmid, ?_⟩
    exact (List.countP_eq_zero.mpr fun x hx => by simp [hpre x hx]).symm
  | cons l ls ih =>
    intro is i h
    obtain ⟨pre, e, rest, rfl, hpre, hl, hil, hrest⟩ := lettersFrom_cons h
    obtain ⟨pre', ea, mid, eb, post, rfl, hia, hib, ha, hb, hmid, hlen⟩ := ih hrest
    refine ⟨pre ++ .elem l.code e l.env :: pre', ea, mid, eb, post, by simp, ?_, hib, ha, hb, hmid, ?_⟩
    · rw [hia, List.length_append, List.length_cons]
      omega
    · have hzero : pre.countP WordItem.isLetter = 0 := List.countP_eq_zero.mpr fun x hx => by simp [hpre x hx]
      have hletter : (WordItem.elem l.code e l.env).isLetter = true := by simp [WordItem.isLetter, hl]
      rw [List.countP_append, hzero, List.countP_cons_of_pos hletter, List.length_cons, hlen]
      omega

/-- The letters of a word split at two letters that follow each other. -/
theorem lettersFrom_split {pre mid post : List WordItem} {ba bb : Byte} {ca cb : Fin 26} (ea eb : Elem) (va vb : Env)
    (ha : letterClass ba = some ca) (hb : letterClass bb = some cb) (hmid : ∀ x ∈ mid, x.isLetter = false) :
    ∃ ls', lettersFrom 0 (pre ++ .elem ba ea va :: mid ++ .elem bb eb vb :: post) = lettersFrom 0 pre ++
      { idx := pre.length, cls := ca, code := ba, env := va } ::
        { idx := pre.length + 1 + mid.length, cls := cb, code := bb, env := vb } :: ls' := by
  refine ⟨lettersFrom (pre.length + 1 + mid.length + 1) post, ?_⟩
  rw [List.append_assoc, List.cons_append, lettersFrom_append, lettersFrom_letter ha, lettersFrom_append,
    lettersFrom_eq_nil hmid, List.nil_append, lettersFrom_letter hb, Nat.zero_add]

theorem between_eq (pre mid post : List WordItem) (x y : WordItem) :
    between pre.length (pre.length + 1 + mid.length) (pre ++ x :: mid ++ y :: post) = mid := by
  have hdrop : (pre ++ x :: mid ++ y :: post).drop (pre.length + 1) = mid ++ y :: post := by
    rw [List.append_assoc, List.cons_append, ← List.drop_drop, List.drop_left, List.drop_one, List.tail_cons]
  have hlen : pre.length + 1 + mid.length - pre.length - 1 = mid.length := by omega
  rw [between, hdrop, hlen, List.take_left]

/-! ### Break points (R61) -/

/-- The soft point an item is. -/
def WordItem.softPoint (i : Nat) : WordItem → Option (Nat × Env)
  | .soft v => some (i, v)
  | _ => none

/-- The hard point an item is. -/
def WordItem.dashPoint (i : Nat) (x : WordItem) : Option Nat := if x.isDash then some i else none

theorem lastSoft_cons (i : Nat) (x : WordItem) (xs : List WordItem) :
    lastSoft i (x :: xs) = (lastSoft (i + 1) xs).or (x.softPoint i) := by
  cases h : lastSoft (i + 1) xs <;> cases x <;> simp [lastSoft, h, WordItem.softPoint]

theorem lastDash_cons (i : Nat) (x : WordItem) (xs : List WordItem) :
    lastDash i (x :: xs) = (lastDash (i + 1) xs).or (x.dashPoint i) := by
  cases h : lastDash (i + 1) xs <;> cases x <;> simp [lastDash, h, WordItem.dashPoint, WordItem.isDash]

theorem softPoint_eq_none {x : WordItem} (h : x.isSoft = false) (i : Nat) : x.softPoint i = none := by
  cases x with
  | soft v => exact nomatch h
  | _ => rfl

theorem dashPoint_eq_none {x : WordItem} (h : x.isDash = false) (i : Nat) : x.dashPoint i = none :=
  if_neg (Bool.eq_false_iff.mp h)

theorem lastSoft_append (ys xs : List WordItem) : ∀ i,
    lastSoft i (xs ++ ys) = (lastSoft (i + xs.length) ys).or (lastSoft i xs) := by
  induction xs with
  | nil => intro i; exact (Option.or_none).symm
  | cons x xs ih =>
    intro i
    have hnext : i + (x :: xs).length = i + 1 + xs.length := by rw [List.length_cons]; omega
    rw [List.cons_append, hnext, lastSoft_cons, ih, lastSoft_cons, Option.or_assoc]

theorem lastDash_append (ys xs : List WordItem) : ∀ i,
    lastDash i (xs ++ ys) = (lastDash (i + xs.length) ys).or (lastDash i xs) := by
  induction xs with
  | nil => intro i; exact (Option.or_none).symm
  | cons x xs ih =>
    intro i
    have hnext : i + (x :: xs).length = i + 1 + xs.length := by rw [List.length_cons]; omega
    rw [List.cons_append, hnext, lastDash_cons, ih, lastDash_cons, Option.or_assoc]

theorem lastSoft_eq_none {xs : List WordItem} (h : ∀ x ∈ xs, x.isSoft = false) : ∀ i, lastSoft i xs = none := by
  induction xs with
  | nil => intro i; rfl
  | cons x xs ih =>
    intro i
    obtain ⟨hx, hxs⟩ := List.forall_mem_cons.mp h
    rw [lastSoft_cons, ih hxs, softPoint_eq_none hx]
    rfl

theorem lastDash_eq_none {xs : List WordItem} (h : ∀ x ∈ xs, x.isDash = false) : ∀ i, lastDash i xs = none := by
  induction xs with
  | nil => intro i; rfl
  | cons x xs ih =>
    intro i
    obtain ⟨hx, hxs⟩ := List.forall_mem_cons.mp h
    rw [lastDash_cons, ih hxs, dashPoint_eq_none hx]
    rfl

/-- The rightmost SOFT_HYPHEN (R61). -/
theorem lastSoft_eq {m2 : List WordItem} (h : ∀ x ∈ m2, x.isSoft = false) (m1 : List WordItem) (v : Env) (i : Nat) :
    lastSoft i (m1 ++ .soft v :: m2) = some (i + m1.length, v) := by
  rw [lastSoft_append, lastSoft_cons, lastSoft_eq_none h]
  rfl

/-- The rightmost '-' element (R61). -/
theorem lastDash_eq {m2 : List WordItem} (h : ∀ x ∈ m2, x.isDash = false) (m1 : List WordItem) (e : Elem) (v : Env)
    (i : Nat) : lastDash i (m1 ++ .elem 0x2D#8 e v :: m2) = some (i + m1.length) := by
  rw [lastDash_append, lastDash_cons, lastDash_eq_none h]
  rfl

theorem lastSoft_isSome_iff (i : Nat) (xs : List WordItem) : (lastSoft i xs).isSome = true ↔ ∃ x ∈ xs, x.isSoft = true := by
  induction xs generalizing i with
  | nil => simp [lastSoft]
  | cons x xs ih =>
    have hx : (x.softPoint i).isSome = x.isSoft := by cases x <;> rfl
    rw [lastSoft_cons, Option.isSome_or, hx, Bool.or_eq_true, ih, List.exists_mem_cons_iff, or_comm]

/-! ### Break positions (R61) -/

/-- The break position between two letters that follow each other. -/
def junctionOf (is : List WordItem) (k : Nat) (a b : LetterAt) : Junction :=
  { k := k, a := a, b := b, soft := lastSoft (a.idx + 1) (between a.idx b.idx is),
    dash := lastDash (a.idx + 1) (between a.idx b.idx is) }

theorem junctions_cons (is : List WordItem) (k : Nat) (a b : LetterAt) (ls : List LetterAt) :
    junctions is k (a :: b :: ls) = junctionOf is k a b :: junctions is (k + 1) (b :: ls) := rfl

theorem junctions_k (is : List WordItem) (ls : List LetterAt) : ∀ k,
    (junctions is k ls).map Junction.k = List.range' k (ls.length - 1) := by
  induction ls with
  | nil => intro k; rfl
  | cons a ls ih =>
    intro k
    cases ls with
    | nil => rfl
    | cons b ls =>
      rw [junctions_cons, List.map_cons, ih (k + 1)]
      rfl

theorem mem_junctions {is : List WordItem} {j : Junction} {ls : List LetterAt} : ∀ {k}, j ∈ junctions is k ls ↔
    ∃ ls1 a b ls2, ls = ls1 ++ a :: b :: ls2 ∧ j = junctionOf is (k + ls1.length) a b := by
  induction ls with
  | nil => intro k; simp [junctions]
  | cons a ls ih =>
    intro k
    cases ls with
    | nil =>
      refine iff_of_false List.not_mem_nil ?_
      rintro ⟨ls1, a', b', ls2, h, -⟩
      have hlen := congrArg List.length h
      simp at hlen
      omega
    | cons b ls =>
      rw [junctions_cons, List.mem_cons, ih]
      constructor
      · rintro (rfl | ⟨ls1, a', b', ls2, h, rfl⟩)
        · exact ⟨[], a, b, ls, rfl, rfl⟩
        · refine ⟨a :: ls1, a', b', ls2, by rw [h]; rfl, ?_⟩
          rw [List.length_cons, Nat.add_assoc, Nat.add_comm 1]
      · rintro ⟨ls1, a', b', ls2, h, rfl⟩
        cases ls1 with
        | nil =>
          simp only [List.nil_append, List.cons.injEq] at h
          obtain ⟨rfl, rfl, rfl⟩ := h
          exact .inl rfl
        | cons l ls1 =>
          obtain ⟨-, h⟩ := List.cons.inj h
          refine .inr ⟨ls1, a', b', ls2, h, ?_⟩
          rw [List.length_cons, Nat.add_assoc, Nat.add_comm 1]

/-! ### Eligibility (R60) -/

/-- What stands between the first and the last item of a kind is the same however a list is split there. -/
theorem middle_unique {α : Type} {P : α → Bool} {lead lead' m m' trail trail' : List α} {a a' b b' : α}
    (h : lead ++ a :: (m ++ b :: trail) = lead' ++ a' :: (m' ++ b' :: trail')) (hlead : ∀ x ∈ lead, P x = false)
    (hlead' : ∀ x ∈ lead', P x = false) (htrail : ∀ x ∈ trail, P x = false) (htrail' : ∀ x ∈ trail', P x = false)
    (ha : P a = true) (ha' : P a' = true) (hb : P b = true) (hb' : P b' = true) : m = m' := by
  have hdrop (xs ys : List α) (y : α) (hxs : ∀ x ∈ xs, P x = false) (hy : P y = true) :
      (xs ++ y :: ys).dropWhile (fun x => !P x) = y :: ys := by
    rw [List.dropWhile_append_of_pos fun x hx => by simp [hxs x hx], List.dropWhile_cons_of_neg (by simp [hy])]
  have hfront := congrArg (List.dropWhile fun x => !P x) h
  rw [hdrop _ _ _ hlead ha, hdrop _ _ _ hlead' ha'] at hfront
  obtain ⟨-, hfront⟩ := List.cons.inj hfront
  have hback := congrArg (List.dropWhile (fun x => !P x) ∘ List.reverse) hfront
  simp only [Function.comp_apply, List.reverse_append, List.reverse_cons, List.append_assoc, List.singleton_append] at hback
  rw [hdrop _ _ _ (fun x hx => htrail x (List.mem_reverse.mp hx)) hb,
    hdrop _ _ _ (fun x hx => htrail' x (List.mem_reverse.mp hx)) hb'] at hback
  exact List.reverse_inj.mp (List.cons.inj hback).2

theorem lettersFrom_last {ls : List LetterAt} {b : LetterAt} : ∀ {is : List WordItem} {i : Nat},
    lettersFrom i is = ls ++ [b] → ∃ pre e post, is = pre ++ .elem b.code e b.env :: post ∧
      letterClass b.code = some b.cls ∧ b.idx = i + pre.length ∧ ∀ x ∈ post, x.isLetter = false := by
  induction ls with
  | nil =>
    intro is i h
    obtain ⟨pre, e, post, rfl, -, hb, hib, hpost⟩ := lettersFrom_cons h
    refine ⟨pre, e, post, rfl, hb, hib, fun x hx => ?_⟩
    have hcount := (lettersFrom_length post (b.idx + 1)).symm.trans (congrArg List.length hpost)
    exact Bool.eq_false_iff.mpr (List.countP_eq_zero.mp hcount x hx)
  | cons l ls ih =>
    intro is i h
    obtain ⟨pre, e, rest, rfl, -, -, hil, hrest⟩ := lettersFrom_cons h
    obtain ⟨pre', e', post, rfl, hb, hib, hpost⟩ := ih hrest
    refine ⟨pre ++ .elem l.code e l.env :: pre', e', post, by simp, hb, ?_, hpost⟩
    rw [hib, hil, List.length_append, List.length_cons]
    omega

/-- The word is table-eligible (R60): its letters stand together, SOFT_HYPHENs apart. -/
def TableEligible (is : List WordItem) : Prop :=
  ∃ lead mid trail, is.filter (fun i => !i.isSoft) = lead ++ mid ++ trail ∧ 2 ≤ mid.length ∧
    (∀ i ∈ mid, i.isLetter = true) ∧ (∀ i ∈ lead ++ trail, i.isLetter = false)

theorem TableEligible.letters {is : List WordItem} (h : TableEligible is) : 2 ≤ is.countP WordItem.isLetter := by
  obtain ⟨lead, mid, trail, hf, hlen, hmid, -⟩ := h
  have hcount : is.countP WordItem.isLetter = (is.filter fun i => !i.isSoft).countP WordItem.isLetter := by
    rw [List.countP_filter]
    refine List.countP_congr fun x _ => ?_
    by_cases hx : x.isLetter = true <;> simp [hx, isSoft_of_isLetter]
  have hm : mid.countP WordItem.isLetter = mid.length := List.countP_eq_length.mpr hmid
  rw [hcount, hf, List.countP_append, List.countP_append, hm]
  omega

/-- Between its first and its last letter an eligible word has letters and SOFT_HYPHENs alone. -/
theorem tableEligible_iff {pre m post : List WordItem} {x y : WordItem} (hpre : ∀ i ∈ pre, i.isLetter = false)
    (hpost : ∀ i ∈ post, i.isLetter = false) (hx : x.isLetter = true) (hy : y.isLetter = true) :
    TableEligible (pre ++ x :: (m ++ y :: post)) ↔ ∀ i ∈ m, i.letterOrSoft = true := by
  have hfilter : (pre ++ x :: (m ++ y :: post)).filter (fun i => !i.isSoft) =
      pre.filter (fun i => !i.isSoft) ++ x :: (m.filter (fun i => !i.isSoft) ++ y :: post.filter fun i => !i.isSoft) := by
    simp [isSoft_of_isLetter hx, isSoft_of_isLetter hy]
  have hpre' : ∀ i ∈ pre.filter (fun i => !i.isSoft), i.isLetter = false := fun i hi => hpre i (List.mem_of_mem_filter hi)
  have hpost' : ∀ i ∈ post.filter (fun i => !i.isSoft), i.isLetter = false := fun i hi => hpost i (List.mem_of_mem_filter hi)
  constructor
  · rintro ⟨lead, mid, trail, hf, hlen, hmid, hout⟩ i hi
    obtain ⟨a, mid, rfl⟩ : ∃ a rest, mid = a :: rest := List.exists_cons_of_length_pos (by omega)
    obtain ⟨mid, b, rfl⟩ : ∃ init b, mid = init ++ [b] :=
      ⟨_, _, (List.dropLast_append_getLast (List.ne_nil_of_length_pos (Nat.lt_of_succ_lt_succ hlen))).symm⟩
    have hmiddle : m.filter (fun i => !i.isSoft) = mid := by
      refine middle_unique (trail := post.filter fun i => !i.isSoft) (trail' := trail) (hfilter.symm.trans (hf.trans (by simp))) hpre'
        (fun z hz => hout z (List.mem_append_left _ hz)) hpost' (fun z hz => hout z (List.mem_append_right _ hz)) hx
        (hmid a (by simp)) hy (hmid b (by simp))
    rw [letterOrSoft_iff]
    by_cases hs : i.isSoft = true
    · exact .inr hs
    · exact .inl (hmid i (by rw [← hmiddle]; simp [hi, hs]))
  · intro h
    refine ⟨pre.filter (fun i => !i.isSoft), x :: (m.filter (fun i => !i.isSoft) ++ [y]), post.filter (fun i => !i.isSoft),
      hfilter.trans (by simp), by simp, ?_, ?_⟩
    · intro i hi
      simp only [List.mem_cons, List.mem_append, List.mem_filter, List.not_mem_nil, or_false] at hi
      rcases hi with rfl | ⟨hi, hs⟩ | rfl
      · exact hx
      · exact ((letterOrSoft_iff i).mp (h i hi)).resolve_right (by simpa using hs)
      · exact hy
    · intro i hi
      exact (List.mem_append.mp hi).elim (hpre' i) (hpost' i)

theorem eligible_iff (is : List WordItem) : eligible is (lettersFrom 0 is) = true ↔ TableEligible is := by
  have hcount := lettersFrom_length is 0
  rcases hls : lettersFrom 0 is with _ | ⟨a, ls⟩
  · refine iff_of_false Bool.false_ne_true fun h => ?_
    have := h.letters
    rw [hls, List.length_nil] at hcount
    omega
  · rcases List.eq_nil_or_concat' ls with rfl | ⟨ls, b, rfl⟩
    · refine iff_of_false (by simp [eligible]) fun h => ?_
      have := h.letters
      rw [hls, List.length_singleton] at hcount
      omega
    · obtain ⟨pre, ea, rest, his, hpre, ha, hia, hrest⟩ := lettersFrom_cons hls
      obtain ⟨mid, eb, post, rfl, hb, hib, hpost⟩ := lettersFrom_last hrest
      have hbetween : between a.idx b.idx is = mid := by
        have h := between_eq pre mid post (.elem a.code ea a.env) (.elem b.code eb b.env)
        have hia' : a.idx = pre.length := by omega
        rw [hib, hia', his]
        simpa using h
      have hlast : (a :: (ls ++ [b])).getLast? = some b := by rw [← List.cons_append, List.getLast?_concat]
      have heligible : eligible is (a :: (ls ++ [b])) = mid.all WordItem.letterOrSoft := by
        simp only [eligible, List.head?_cons, hlast, hbetween]
        simp
      rw [heligible, his, tableEligible_iff hpre hpost (by simp [WordItem.isLetter, ha]) (by simp [WordItem.isLetter, hb]),
        List.all_eq_true]

/-- Two letters that follow each other have a SOFT_HYPHEN between them (R68). -/
def SoftWord (is : List WordItem) : Prop :=
  ∃ pre mid post a b, is = pre ++ a :: mid ++ b :: post ∧ a.isLetter = true ∧ b.isLetter = true ∧
    (∀ i ∈ mid, i.isLetter = false) ∧ ∃ i ∈ mid, i.isSoft = true

theorem junctionOf_eq {pre mid post : List WordItem} {x y : WordItem} {a b : LetterAt} (k : Nat) (ha : a.idx = pre.length)
    (hb : b.idx = a.idx + 1 + mid.length) : junctionOf (pre ++ x :: mid ++ y :: post) k a b =
      { k := k, a := a, b := b, soft := lastSoft (pre.length + 1) mid, dash := lastDash (pre.length + 1) mid } := by
  rw [junctionOf, hb, ha, between_eq]

theorem softWord_iff (is : List WordItem) :
    ((junctions is 1 (lettersFrom 0 is)).any fun j => j.soft.isSome) = true ↔ SoftWord is := by
  rw [List.any_eq_true]
  constructor
  · rintro ⟨j, hj, hs⟩
    obtain ⟨ls1, a, b, ls2, hls, rfl⟩ := mem_junctions.mp hj
    obtain ⟨pre, ea, mid, eb, post, rfl, hia, hib, ha, hb, hmid, -⟩ := lettersFrom_adjacent hls
    rw [junctionOf_eq _ (by omega) hib] at hs
    exact ⟨pre, mid, post, _, _, rfl, by simp [WordItem.isLetter, ha], by simp [WordItem.isLetter, hb], hmid,
      (lastSoft_isSome_iff _ _).mp hs⟩
  · rintro ⟨pre, mid, post, x, y, rfl, hx, hy, hmid, hs⟩
    obtain ⟨ba, ea, va, ca, rfl, ha⟩ := (isLetter_cases x).resolve_left (by simp [hx])
    obtain ⟨bb, eb, vb, cb, rfl, hb⟩ := (isLetter_cases y).resolve_left (by simp [hy])
    obtain ⟨ls', hls⟩ := lettersFrom_split (pre := pre) (post := post) ea eb va vb ha hb hmid
    refine ⟨_, mem_junctions.mpr ⟨_, _, _, ls', hls, rfl⟩, ?_⟩
    rw [junctionOf_eq _ rfl rfl]
    exact (lastSoft_isSome_iff _ _).mpr hs

/-! ### The largest position (R71, R72) -/

/-- The largest position that passes a test, of positions in ascending order. -/
theorem largest_spec {test : Position → Bool} {ps : List Position} (h : ps.Pairwise fun p q => p.k < q.k) :
    (largest test ps = 0 ∧ ∀ p ∈ ps, test p = false) ∨
      ∃ p ∈ ps, p.k = largest test ps ∧ test p = true ∧ ∀ p' ∈ ps, test p' = true → p'.k ≤ largest test ps := by
  rcases List.eq_nil_or_concat' (ps.filter test) with hnil | ⟨init, p, hlast⟩
  · refine .inl ⟨by simp [largest, hnil], fun p hp => Bool.eq_false_iff.mpr fun ht => ?_⟩
    exact List.not_mem_nil (hnil ▸ List.mem_filter.mpr ⟨hp, ht⟩)
  · have hk : largest test ps = p.k := by simp [largest, hlast]
    obtain ⟨hp, ht⟩ := List.mem_filter.mp (show p ∈ ps.filter test by simp [hlast])
    have hsorted : (init ++ [p]).Pairwise fun p q => p.k < q.k := hlast ▸ h.filter test
    refine .inr ⟨p, hp, hk.symm, ht, fun p' hp' ht' => ?_⟩
    have hmem : p' ∈ init ++ [p] := hlast ▸ List.mem_filter.mpr ⟨hp', ht'⟩
    rw [hk]
    rcases List.mem_append.mp hmem with hi | hi
    · exact ((List.pairwise_append.mp hsorted).2.2 p' hi p (List.mem_singleton.mpr rfl)).le
    · rw [List.mem_singleton.mp hi]

/-! ### The examination -/

section

variable (o : Optics) (h : Hyphenation) (j : Job) (l : OpenLine) (held : Option Nat) (is : List WordItem)

/-- The dictionary entry of an eligible word (R63, R68). -/
def wordEntry : Option DictEntry :=
  if eligible is (lettersFrom 0 is) then h.lookup ((lettersFrom 0 is).map LetterAt.cls) else none

/-- Where the word's candidates come from (R68). -/
def wordSource : Source := sourceOf (junctions is 1 (lettersFrom 0 is)) (eligible is (lettersFrom 0 is)) (wordEntry h is)

/-- A break position of the word, examined (R69 to R71). -/
def wordPosition (p : Junction) : Position :=
  examPosition o h j l held is (lettersFrom 0 is).length (wordEntry h is) (wordSource h is) p

theorem examine_positions : (examine o h j l held is).positions =
    (junctions is 1 (lettersFrom 0 is)).map (wordPosition o h j l held is) := rfl

theorem examine_positions_k : (examine o h j l held is).positions.map Position.k =
    List.range' 1 ((examine o h j l held is).len - 1) := by
  rw [examine_positions, List.map_map]
  exact junctions_k is (lettersFrom 0 is) 1

theorem examine_positions_sorted : (examine o h j l held is).positions.Pairwise fun p q => p.k < q.k := by
  have hk : ((examine o h j l held is).positions.map Position.k).Pairwise (· < ·) := by
    rw [examine_positions_k]
    exact List.pairwise_lt_range'
  exact List.pairwise_map.mp hk

theorem wordSource_eq : wordSource h is =
    if (junctions is 1 (lettersFrom 0 is)).any (fun j => j.soft.isSome) then .soft
    else if eligible is (lettersFrom 0 is) then if (wordEntry h is).isSome then .dictionary else .table
    else .hard := rfl

theorem wordSource_of_softWord (hs : SoftWord is) : wordSource h is = .soft := by
  rw [wordSource_eq, if_pos ((softWord_iff is).mpr hs)]

theorem wordSource_of_eligible (hs : ¬ SoftWord is) (he : TableEligible is) :
    wordSource h is = if (wordEntry h is).isSome then .dictionary else .table := by
  rw [wordSource_eq, if_neg (mt (softWord_iff is).mp hs), if_pos ((eligible_iff is).mpr he)]

theorem wordSource_of_not_eligible (hs : ¬ SoftWord is) (he : ¬ TableEligible is) : wordSource h is = .hard := by
  rw [wordSource_eq, if_neg (mt (softWord_iff is).mp hs), if_neg (mt (eligible_iff is).mp he)]

/-- The letters' codes of the word. -/
def wordCodes : Text := is.filterMap WordItem.letterCode

theorem wordEntry_of_eligible (he : TableEligible is) : wordEntry h is = h.lookup ((wordCodes is).filterMap letterClass) := by
  rw [wordEntry, if_pos ((eligible_iff is).mpr he), lettersFrom_cls]
  rfl

theorem wordSource_eq_table_iff : wordSource h is = .table ↔
    ¬ SoftWord is ∧ TableEligible is ∧ h.lookup ((wordCodes is).filterMap letterClass) = none := by
  by_cases hs : SoftWord is
  · simp [wordSource_of_softWord h is hs, hs]
  · by_cases he : TableEligible is
    · rw [wordSource_of_eligible h is hs he, wordEntry_of_eligible h is he]
      cases h.lookup ((wordCodes is).filterMap letterClass) <;> simp [hs, he]
    · simp [wordSource_of_not_eligible h is hs he, he]

/-- A position fits where what its break would place passes the fit test (R71). -/
theorem examine_fits {p : Position} (hp : p ∈ (examine o h j l held is).positions) :
    p.fits = l.fits j held (is.take p.brk.cut) p.brk.hyph := by
  rw [examine_positions] at hp
  obtain ⟨q, -, rfl⟩ := List.mem_map.mp hp
  rfl

theorem fits_iff (added : Option Elem) : l.fits j held is added = true ↔
    widthSum (l.elems ++ (l.part held is ++ added.toList)) + spaceCount (l.elems ++ (l.part held is ++ added.toList)) *
        (((l.glueWith j held is).map Glue.min).getD 0) ≤ l.set.available ∧
      (l.elems ++ (l.part held is ++ added.toList)).length ≤ 200 := by
  have hmin : (match l.glueWith j held is with | some g => g.min | none => 0) =
      ((l.glueWith j held is).map Glue.min).getD 0 := by cases l.glueWith j held is <;> rfl
  have hfits : l.fits j held is added =
      (decide (minWidth (l.glueWith j held is) (l.elems ++ l.part held is ++ added.toList) ≤ l.set.available) &&
        decide ((l.elems ++ l.part held is ++ added.toList).length ≤ 200)) := rfl
  rw [hfits, Bool.and_eq_true, decide_eq_true_eq, decide_eq_true_eq, List.append_assoc, ← hmin]
  rfl

theorem glueWith_eq : l.glueWith j held is = l.glue.or (match held with
    | some size => some (glueAt j size)
    | none => (firstTie (!l.elems.isEmpty) is).map fun at_ => glueAt j at_.size) := by
  unfold OpenLine.glueWith
  cases l.glue <;> cases held <;> rfl

/-- The break position between two letters that follow each other (R61). -/
def junctionAt (pre mid : List WordItem) (ba bb : Byte) (ca cb : Fin 26) (va vb : Env) : Junction :=
  { k := pre.countP WordItem.isLetter + 1, a := { idx := pre.length, cls := ca, code := ba, env := va }
    b := { idx := pre.length + 1 + mid.length, cls := cb, code := bb, env := vb }
    soft := lastSoft (pre.length + 1) mid, dash := lastDash (pre.length + 1) mid }

theorem examine_position {pre mid post : List WordItem} {ba bb : Byte} {ca cb : Fin 26} {ea eb : Elem} {va vb : Env}
    (his : is = pre ++ .elem ba ea va :: mid ++ .elem bb eb vb :: post) (ha : letterClass ba = some ca)
    (hb : letterClass bb = some cb) (hmid : ∀ x ∈ mid, x.isLetter = false) :
    wordPosition o h j l held is (junctionAt pre mid ba bb ca cb va vb) ∈ (examine o h j l held is).positions := by
  obtain ⟨ls', hls⟩ := lettersFrom_split (pre := pre) (post := post) ea eb va vb ha hb hmid
  rw [examine_positions]
  refine List.mem_map_of_mem (mem_junctions.mpr ⟨_, _, _, ls', by rw [his]; exact hls, ?_⟩)
  rw [his, junctionOf_eq _ rfl rfl, lettersFrom_length, Nat.add_comm]
  rfl

end

/-! ### Quality and break by the source (R69 to R71) -/

/-- A hyphen as the statement has it (R44). -/
theorem hyphenAt_eq (o : Optics) (env : Env) : hyphenAt o env =
    match env.lens with
    | none => { kind := .absent, width := 10 * (env.lens.map LensSel.size).getD 20, before := 0, x := 0 }
    | some lens =>
      if (o.mount env.face).widthOf 13 = 0 then
        { kind := .absent, width := 10 * (env.lens.map LensSel.size).getD 20, before := 0, x := 0 }
      else
        { kind := .box env.face 13 lens.pos
          width := ((o.mount env.face).widthOf 13 * (env.lens.map LensSel.size).getD 20 * 5 + 12) / 24, before := 0, x := 0 } := by
  obtain ⟨face, lens⟩ := env
  cases lens <;> rfl

theorem breakOf_soft_none (o : Optics) (n : Nat) (p : Junction) (h : p.soft = none) :
    breakOf o .soft n p = (defaultBreak o p, false) := by
  unfold breakOf
  rw [h]

theorem breakOf_soft_some (o : Optics) {p : Junction} {i : Nat} {env : Env} (h : p.soft = some (i, env)) :
    breakOf o .soft 3 p = ({ cut := i, next := i + 1, hyph := some (hyphenAt o env) }, false) := by
  unfold breakOf
  rw [h]
  rfl

theorem breakOf_hard_none (o : Optics) (n : Nat) (p : Junction) (h : p.dash = none) :
    breakOf o .hard n p = (defaultBreak o p, false) := by
  unfold breakOf
  rw [h]

theorem breakOf_hard_some (o : Optics) {p : Junction} {i : Nat} (h : p.dash = some i) :
    breakOf o .hard 3 p = ({ cut := i + 1, next := i + 1, hyph := none }, true) := by
  unfold breakOf
  rw [h]
  rfl

theorem breakOf_tables (o : Optics) (src : Source) (n : Nat) (p : Junction) (h : src = .dictionary ∨ src = .table) :
    breakOf o src n p = (defaultBreak o p, false) := by
  rcases h with rfl | rfl <;> rfl

theorem wordPosition_of (o : Optics) {h : Hyphenation} {j : Job} (l : OpenLine) (held : Option Nat) {is : List WordItem}
    {src : Source} {q : Junction} {n : Nat} {b : Break × Bool} (hsrc : wordSource h is = src)
    (hq : candidateQuality h j (lettersFrom 0 is).length (wordEntry h is) src q = n) (hb : breakOf o src n q = b) :
    let p := wordPosition o h j l held is q
    p.q = n ∧ p.hard = b.2 ∧ p.brk = b.1 := by
  subst hsrc hq hb
  exact ⟨rfl, rfl, rfl⟩

/-- Settles O34: the letters, the positions in their order, which of them fit, and quality and break by the source. -/
theorem examinationsFindCandidatesAndClasses : Obligations.ExaminationsFindCandidatesAndClasses := by
  unfold Obligations.ExaminationsFindCandidatesAndClasses
  intro o h j l held is x chosen letter soft dash codes entry eligible softWord table hyphen
  have hcodes : (lettersFrom 0 is).map LetterAt.code = codes := lettersFrom_code is 0
  have hlen : x.len = codes.length := by rw [← hcodes, List.length_map]; rfl
  have hsorted := examine_positions_sorted o h j l held is
  have hchosen (p : Position) : (p.fits && p.q != 0 && decide (j.thresh ≤ p.q)) = true ↔ chosen p := by
    simp [chosen, and_assoc, Nat.one_le_iff_ne_zero]
  have htable : wordSource h is = .table ↔ table := wordSource_eq_table_iff h is
  have hentry (he : eligible) : wordEntry h is = entry := wordEntry_of_eligible h is he
  have helig : Machine.eligible is (lettersFrom 0 is) = true ↔ eligible := eligible_iff is
  refine ⟨⟨hcodes, hlen, examine_positions_k o h j l held is, ?_, ?_⟩, ⟨?_, ?_, ?_⟩, fun p hp => ?_,
    fun pre mid post ba bb ca cb ea eb va vb his ha hb hmid => ?_⟩
  · rcases largest_spec (test := fun p => p.fits && p.q != 0 && decide (j.thresh ≤ p.q)) hsorted with
      ⟨hzero, hnone⟩ | ⟨p, hp, hk, ht, hmax⟩
    · exact .inl ⟨hzero, fun p hp hc => Bool.eq_false_iff.mp (hnone p hp) ((hchosen p).mpr hc)⟩
    · exact .inr ⟨p, hp, hk, (hchosen p).mp ht, fun p' hp' hc => hmax p' hp' ((hchosen p').mpr hc)⟩
  · exact largest_spec hsorted
  · show (Machine.eligible is (lettersFrom 0 is) && (wordEntry h is).isNone) = true ↔ _
    rw [Bool.and_eq_true, helig, Option.isNone_iff_eq_none]
    exact and_congr_right fun he => by rw [hentry he]
  · show (wordSource h is == .table && x.positions.any fun p => p.k == x.own && decide (p.q < 3)) = true ↔ _
    rw [Bool.and_eq_true, beq_iff_eq, htable]
    simp
  · show ((lettersFrom 0 is).head?.map fun a => upperCase a.code).getD false = true ↔ _
    rw [← hcodes, List.head?_map]
    cases (lettersFrom 0 is).head? <;> simp [upperCase]
  · rw [examine_fits o h j l held is hp, fits_iff, glueWith_eq]
    exact Iff.rfl
  · refine ⟨_, examine_position o h j l held is his ha hb hmid, rfl, ?_⟩
    intro default
    set q := junctionAt pre mid ba bb ca cb va vb with hq
    have hwhere {src : Source} {n : Nat} {b : Break × Bool} := wordPosition_of o (h := h) (j := j) l held (is := is) (src := src)
      (q := q) (n := n) (b := b)
    have hhyphen (env : Env) : hyphenAt o env = hyphen env := hyphenAt_eq o env
    have hdefault {n : Nat} {p : Position} (hp : p.q = n ∧ p.hard = false ∧ p.brk = defaultBreak o q) :
        p.q = n ∧ p.hard = false ∧ p.brk = { cut := pre.length + 1, next := pre.length + 1, hyph := some (hyphen va) } := by
      obtain ⟨hn, hhard, hbrk⟩ := hp
      exact ⟨hn, hhard, hbrk.trans (congrArg (fun e => Break.mk (pre.length + 1) (pre.length + 1) (some e)) (hhyphen va))⟩
    refine ⟨fun hs => ⟨fun m1 m2 env hm hm2 => ?_, fun hm => hdefault ?_⟩, fun d hs he hd => hdefault ?_,
      fun ht => hdefault ?_, fun hs he => ⟨fun m1 m2 e env hm hm2 => ?_, fun hm => hdefault ?_⟩⟩
    · have hpoint : q.soft = some (pre.length + 1 + m1.length, env) := by
        rw [hq, junctionAt, hm]
        exact lastSoft_eq hm2 m1 env _
      obtain ⟨hthree, hhard, hbrk⟩ := hwhere (wordSource_of_softWord h is hs) (if_pos (by rw [hpoint]; rfl))
        (breakOf_soft_some o hpoint)
      refine ⟨hthree, hhard, hbrk.trans ?_⟩
      rw [hhyphen, show pre.length + 1 + m1.length + 1 = pre.length + 2 + m1.length by omega]
    · have hpoint : q.soft = none := lastSoft_eq_none hm _
      exact hwhere (wordSource_of_softWord h is hs) (if_neg (by rw [hpoint]; exact Bool.false_ne_true))
        (breakOf_soft_none o _ q hpoint)
    · have hentry' := (hentry he).trans hd
      have hsrc : wordSource h is = .dictionary := by
        rw [wordSource_of_eligible h is hs he, hentry']
        rfl
      refine hwhere hsrc ?_ (breakOf_tables o _ _ q (.inl rfl))
      rw [hentry']
      exact if_congr List.contains_iff_mem rfl rfl
    · exact hwhere (htable.mpr ht) (by rw [hlen, ← hcodes, List.length_map]; rfl) (breakOf_tables o _ _ q (.inr rfl))
    · have hpoint : q.dash = some (pre.length + 1 + m1.length) := by
        rw [hq, junctionAt, hm]
        exact lastDash_eq hm2 m1 e env _
      obtain ⟨hthree, hhard, hbrk⟩ := hwhere (wordSource_of_not_eligible h is hs he) (if_pos (by rw [hpoint]; rfl))
        (breakOf_hard_some o hpoint)
      refine ⟨hthree, hhard, hbrk.trans ?_⟩
      rw [show pre.length + 1 + m1.length + 1 = pre.length + 2 + m1.length by omega]
    · have hpoint : q.dash = none := lastDash_eq_none hm _
      exact hwhere (wordSource_of_not_eligible h is hs he) (if_neg (by rw [hpoint]; exact Bool.false_ne_true))
        (breakOf_hard_none o _ q hpoint)

end Sys2Proof.Machine
end

section
/-! PROOF. The text codes (R16 to R27, R33, R37, R38): how each is read, and what it does. -/

namespace Sys2Proof.Machine

-- One declaration at a time: it keeps the threads, and with them the memory, of the compile small.
set_option Elab.async false

/-! ### Codes read (2.2) -/

theorem readCode_beyond {c : Byte} (ps : Text) (h : 0x13 ≤ c.toNat) (hs : c.toNat ≠ 0x20) : readCode c ps =
    if 0x21 ≤ c.toNat ∧ c.toNat ≤ 0x7F then .char (c.toNat - 0x20) else .undefined := by
  unfold readCode
  split
  case h_21 => rfl
  all_goals omega

theorem append_toNat (a b : Byte) : (a ++ b).toNat = a.toNat * 256 + b.toNat := by
  rw [BitVec.toNat_append, ← Nat.shiftLeft_add_eq_or_of_lt b.isLt, Nat.shiftLeft_eq]

theorem paramWord_eq (a b : Byte) (ps : Text) : paramWord (a :: b :: ps) 0 = (a ++ b).toNat := (append_toNat a b).symm

theorem paramSigned_eq (a b : Byte) : paramSigned [a, b] 0 = (a ++ b).toInt := by
  rw [paramSigned, paramWord_eq, BitVec.toInt_eq_toNat_cond]
  split <;> split <;> omega

theorem selector_of_lt {n v : Nat} {f : Fin n → Code} (k : Fin n) (h : v = k.val) : selector n v f = f k := by
  subst h
  exact dif_pos k.isLt

theorem selector_of_le {n v : Nat} (f : Fin n → Code) (h : n ≤ v) : selector n v f = .undefined := dif_neg (Nat.not_lt.mpr h)

theorem quadOfFin_eq (k : Fin 4) : Quad.ofFin k =
    if k = 0 then .justify else if k = 1 then .left else if k = 2 then .right else .center := by
  revert k
  decide

/-! ### Line parameters (R20) -/

theorem agree_eq (p : LineSet) : p.agree =
    { p with left := min p.left (p.measure - 240)
             right := min p.right (p.measure - 240 - min p.left (p.measure - 240)) } := by
  unfold LineSet.agree
  dsimp only
  split
  · rw [Nat.min_eq_left (by omega), Nat.min_eq_left (by omega)]
  · split
    · rw [Nat.min_eq_left (by omega), Nat.min_eq_right (by omega)]
    · rw [Nat.min_eq_right (by omega), Nat.min_eq_right (by omega), Nat.sub_self]

theorem setParam_eq (f : LineSet → LineSet) (c : Composer) : c.setParam f =
    { c with following := f c.following, line := c.line.map fun l => if l.elems = [] then { l with set := f l.set } else l } := by
  have hline : (fun l : OpenLine => if l.nonEmpty then l else { l with set := f l.set }) =
      fun l => if l.elems = [] then { l with set := f l.set } else l := by
    funext l
    by_cases h : l.elems = [] <;> simp [OpenLine.nonEmpty, h]
  rw [Composer.setParam, hline]

theorem setReturn_eq {c : Composer} {l : OpenLine} (k : Fin 4) (h : c.line = some l) : c.setReturn k =
    if l.elems = [] then { c with line := some { l with ret := some k } } else { c with pendingRet := some k } := by
  unfold Composer.setReturn
  rw [h]
  by_cases he : l.elems = [] <;> simp [OpenLine.nonEmpty, he]

theorem sizeNow_eq (c : Composer) : c.sizeNow = (c.lens.map LensSel.size).getD c.size := by
  unfold Composer.sizeNow
  cases c.lens <;> rfl

/-! ### Stalls and lenses (R33, R38, R110) -/

theorem stallSetup_eq (why : StallCause) (s : State) : stallSetup why s =
    (s.withCmp { s.cmp with st := .stallSetup, stallCause := some why }).withLink
      (if s.cmp.stallCause = some why then s.link else s.link.raise .setup) := by
  unfold stallSetup
  dsimp only
  split <;> rfl

/-- The selected lens holds its size (R38). -/
def Composer.LensKept (o : Optics) (c : Composer) : Prop := ∃ l, c.lens = some l ∧ o.lensSize l.pos = l.size

theorem withLens_kept {o : Optics} {c : Composer} {l : LensSel} (hl : c.lens = some l) (hs : o.lensSize l.pos = l.size) :
    c.withLens o = some (c, l) := by
  unfold Composer.withLens
  rw [hl]
  exact if_pos hs

theorem withLens_anew {o : Optics} {c : Composer} (h : ¬ c.LensKept o) :
    c.withLens o = (c.resolveSize o c.size).bind fun c1 => c1.lens.map fun l => (c1, l) := by
  unfold Composer.withLens
  split
  · rename_i l hl
    exact if_neg fun hs => h ⟨l, hl, hs⟩
  · rfl

/-- The composer with a size resolved (R110). -/
def Composer.resolved (req : Nat) (l : LensSel) (subst : Bool) (c : Composer) : Composer :=
  { c with
    size := req, lens := some l
    line := if subst then c.line.map fun l => { l with flags := addLineFlag .sizeSubst l.flags } else c.line }

theorem resolveSize_some {o : Optics} {req : Nat} {l : LensSel} {subst : Bool} (h : o.resolve req = some (l, subst))
    (c : Composer) : c.resolveSize o req = some (c.resolved req l subst) := by
  unfold Composer.resolveSize
  rw [h]
  cases subst <;> rfl

theorem resolveSize_none {o : Optics} {req : Nat} (h : o.resolve req = none) (c : Composer) : c.resolveSize o req = none := by
  unfold Composer.resolveSize
  rw [h]
  rfl

/-- The composer with which an element is set through lens `l` (R38). -/
def Composer.SetsWith (o : Optics) (c : Composer) (l : LensSel) (c1 : Composer) : Prop :=
  (c.lens = some l ∧ o.lensSize l.pos = l.size ∧ c1 = c) ∨
    (¬ c.LensKept o ∧ ∃ subst, o.resolve c.size = some (l, subst) ∧ c1 = c.resolved c.size l subst)

theorem withLens_some {o : Optics} {c c1 : Composer} {l : LensSel} (h : c.SetsWith o l c1) :
    c.withLens o = some (c1, l) ∧ c1.face = c.face := by
  rcases h with ⟨hl, hs, rfl⟩ | ⟨hk, subst, hr, rfl⟩
  · exact ⟨withLens_kept hl hs, rfl⟩
  · rw [withLens_anew hk, resolveSize_some hr]
    exact ⟨rfl, rfl⟩

theorem withLens_none {o : Optics} {c : Composer} (hk : ¬ c.LensKept o) (hr : o.resolve c.size = none) : c.withLens o = none := by
  rw [withLens_anew hk, resolveSize_none hr]
  rfl

theorem pushElem_eq {s : State} {c1 : Composer} {l : LensSel} (byte : Byte) (mk : Fin 8 → LensSel → Elem)
    (h : s.cmp.SetsWith s.opc l c1) : pushElem byte mk s =
      codeDone (c1.push (.elem byte (mk s.cmp.face l) { face := s.cmp.face, lens := some l })).count s := by
  obtain ⟨hl, hf⟩ := withLens_some h
  unfold pushElem
  rw [hl, ← hf]

theorem pushElem_stalls {s : State} (byte : Byte) (mk : Fin 8 → LensSel → Elem) (hk : ¬ s.cmp.LensKept s.opc)
    (hr : s.opc.resolve s.cmp.size = none) : pushElem byte mk s = stallSetup .lens s := by
  unfold pushElem
  rw [withLens_none hk hr]

/-- A code is counted toward its word (R26, R27). -/
theorem counted_iff (code : Code) : code.counted = true ↔
    code ≠ .fill ∧ code ≠ .undefined ∧ code ≠ .space ∧ ∀ k, code ≠ .ending k := by
  cases code <;> simp [Code.counted]

theorem ensureOpen_word (s : State) : (ensureOpen s).cmp.word = s.cmp.word := by
  unfold ensureOpen
  split <;> rfl

theorem codeStep_eq (byte : Byte) (ps : Text) (s : State) :
    ((readCode byte ps).counted = true → 48 ≤ s.cmp.word.count →
      codeStep byte ps s = setTask (some (.fit (.split byte ps))) (ensureOpen s)) ∧
      (((readCode byte ps).counted = true → s.cmp.word.count < 48) →
        codeStep byte ps s = actCode byte (readCode byte ps) (ensureOpen s)) := by
  have hword : Config.wordCodes = 48 := rfl
  unfold codeStep
  dsimp only
  rw [ensureOpen_word, hword]
  refine ⟨fun hc hn => if_pos (by rw [hc, decide_eq_true hn]; rfl), fun hn => if_neg fun h => ?_⟩
  rw [Bool.and_eq_true, decide_eq_true_eq] at h
  exact absurd (hn h.1) (Nat.not_lt.mpr h.2)

/-- The elements of the fixed spaces (R38). -/
theorem fixedElem_eq (l : LensSel) :
    fixedElem .en l = { kind := .en, width := 5 * l.size, before := 0, x := 0 } ∧
      fixedElem .em l = { kind := .em, width := 10 * l.size, before := 0, x := 0 } ∧
      fixedElem .thin l = { kind := .thin, width := (60 * l.size + 12) / 24, before := 0, x := 0 } := by
  have hen : width 24 l.size = 5 * l.size := by unfold width; omega
  have hem : width 48 l.size = 10 * l.size := by unfold width; omega
  have hthin : width 12 l.size = (60 * l.size + 12) / 24 := by unfold width; omega
  simp only [fixedElem, hen, hem, hthin, and_self]

/-- Settles O22: the code table, the 49th counted code, and what each code does. -/
theorem textCodesTakeEffect : Obligations.TextCodesTakeEffect := by
  unfold Obligations.TextCodesTakeEffect
  refine ⟨⟨fun c h1 h2 => ?_, fun c h => ?_, ⟨rfl, rfl, rfl, rfl, rfl, rfl, rfl, rfl, rfl, rfl, rfl, rfl⟩, fun a => rfl,
      fun a b => ⟨?_, ?_⟩, fun a b c d => ?_, fun a m h => selector_of_lt m h, fun a k h => ⟨?_, selector_of_lt k h, selector_of_lt k h⟩,
      fun a => ⟨fun h => selector_of_le _ h, fun h => ⟨selector_of_le (fun q => .quad (Quad.ofFin q)) h, selector_of_le _ h,
        selector_of_le _ h⟩⟩, fun c => rfl⟩,
    fun byte ps s => ?_, ⟨fun f g fs => ?_, fun f fs => ?_, fun j k ks => ?_, fun k ks => ?_⟩, fun byte s => ?_⟩
  · rw [readCode_beyond [] (by omega) (by omega), if_pos ⟨h1, h2⟩]
  · rw [readCode_beyond [] (by omega) (by omega), if_neg (by omega)]
  · show Code.lead (clampInt (-2880) 2880 (paramSigned [a, b] 0)) = _
    rw [paramSigned_eq]
    rfl
  · show Code.measure (clampNat 240 17280 (paramWord [a, b] 0)) = _
    rw [paramWord_eq]
    rfl
  · show Code.indent (clampNat 0 17040 (paramWord [a, b, c, d] 0)) (clampNat 0 17040 (paramWord [c, d] 0)) = _
    rw [paramWord_eq, paramWord_eq, clampNat, clampNat, Nat.zero_max, Nat.zero_max, Nat.min_comm 17040, Nat.min_comm 17040]
  · exact (selector_of_lt (f := fun q => .quad (Quad.ofFin q)) k h).trans (congrArg Code.quad (quadOfFin_eq k))
  · intro u code counted
    obtain ⟨hsplit, hacts⟩ := codeStep_eq byte ps s
    have hcounted : (readCode byte ps).counted = true ↔ counted := counted_iff _
    exact ⟨fun hc hn => hsplit (hcounted.mpr hc) hn, fun hn => hacts fun hc => hn (hcounted.mp hc)⟩
  · exact mem_insertIn.trans (and_iff_right (by cases g <;> decide))
  · exact List.Nodup.filter _ (by decide)
  · exact mem_insertIn.trans (and_iff_right (by revert j; decide))
  · exact List.Nodup.filter _ (by decide)
  · intro c done counted put flagged sets agreed stalled
    have hsets (f : LineSet → LineSet) : codeDone (c.setParam f).count s = counted (sets f) := by rw [setParam_eq]; rfl
    have hagreed (f : LineSet → LineSet) :
        codeDone (c.setParam fun p => (f p).agree).count s = counted (sets fun p => agreed (f p)) := by
      rw [show (fun p => (f p).agree) = fun p => agreed (f p) from funext fun p => agree_eq (f p)]
      exact hsets _
    have hstalled (why : StallCause) : stallSetup why s = stalled why := stallSetup_eq why s
    refine ⟨⟨rfl, rfl, fun m => rfl, fun on => rfl, rfl, rfl, ?_, fun k => rfl⟩, ⟨fun n hn => ?_, fun n l subst hn => ?_⟩,
      ⟨fun v => hsets _, fun q => hsets _, fun m => hagreed fun p => { p with measure := m },
        fun l r => hagreed fun p => { p with left := l, right := r }⟩, ⟨fun k => rfl, fun k l hl => ?_⟩, fun slot he => ?_, ?_⟩
    · rw [← sizeNow_eq]
      rfl
    · rw [← hstalled]
      simp only [actCode, resolveSize_none hn]
    · have hacts : actCode byte (.size n) s = codeDone (s.cmp.resolved n l subst).count s := by
        simp only [actCode, resolveSize_some hn]
      exact hacts
    · show codeDone (c.setReturn k).count s = _
      rw [setReturn_eq k hl]
      split <;> rfl
    · rw [← hstalled]
      exact if_pos he
    · intro kept
      have hchar {slot : Nat} (hm : (s.opc.mount c.face).state ≠ .empty) :
          actCode byte (.char slot) s = pushElem byte (fun m l => charElem s.opc m slot l) s := if_neg hm
      refine ⟨fun l c1 h => ?_, fun hk hr => ⟨fun f => ?_, fun slot hm => ?_⟩⟩
      · intro acted
        have hpush (mk : Fin 8 → LensSel → Elem) : pushElem byte mk s = acted (mk c.face l) := pushElem_eq byte mk h
        have hfixed (f : FixedSpace) : actCode byte (.fixed f) s = acted (fixedElem f l) := hpush fun _ l => fixedElem f l
        obtain ⟨hen, hem, hthin⟩ := fixedElem_eq l
        refine ⟨hen ▸ hfixed .en, hem ▸ hfixed .em, hthin ▸ hfixed .thin, fun slot hm => ?_⟩
        intro w
        have hset : actCode byte (.char slot) s = acted (charElem s.opc c.face slot l) := (hchar hm).trans (hpush _)
        exact ⟨fun hw => hset.trans (congrArg acted (if_pos hw)), fun hw => hset.trans (congrArg acted (if_neg hw))⟩
      · exact (pushElem_stalls byte (fun _ l => fixedElem f l) hk hr).trans (hstalled .lens)
      · exact (hchar hm).trans ((pushElem_stalls byte _ hk hr).trans (hstalled .lens))

end Sys2Proof.Machine
end

section
/-! PROOF. Complete words (R39, R41 to R44, R73 to R76): fitted, placed, referred, and what ended them. -/

namespace Sys2Proof.Machine

-- One declaration at a time: it keeps the threads, and with them the memory, of the compile small.
set_option Elab.async false

/-! ### A part of a word on the line (R39, R43) -/

theorem placeItems_kinds (is : List WordItem) : ∀ ne before,
    (placeItems ne before is).map (fun e => (e.kind, e.width)) = (itemElems is).map fun e => (e.kind, e.width) := by
  induction is with
  | nil => intro ne before; rfl
  | cons i is ih =>
    intro ne before
    cases i with
    | elem b e v =>
      rw [placeItems, List.map_cons, ih]
      rfl
    | tie v => exact ih _ _
    | soft v => exact ih _ _

theorem placeItems_tie_last (is : List WordItem) (env : Env) : ∀ ne before,
    placeItems ne before (is ++ [.tie env]) = placeItems ne before is := by
  induction is with
  | nil => intro ne before; rfl
  | cons i is ih =>
    intro ne before
    cases i with
    | elem b e v => exact congrArg (List.cons _) (ih _ _)
    | tie v => exact ih _ _
    | soft v => exact ih _ _

/-- What follows an element stands on the line for itself. -/
theorem placeItems_append_elem (is js : List WordItem) (b : Byte) (e : Elem) (v : Env) : ∀ ne before,
    placeItems ne before (is ++ .elem b e v :: js) = placeItems ne before (is ++ [.elem b e v]) ++ placeItems true 0 js := by
  induction is with
  | nil => intro ne before; rfl
  | cons i is ih =>
    intro ne before
    cases i with
    | elem b' e' v' => exact congrArg (List.cons _) (ih _ _)
    | tie v' => exact ih _ _
    | soft v' => exact ih _ _

/-! ### The fit test (R42) -/

/-- The line with a part of a word placed on it (R43). -/
theorem append_eq (j : Job) (l : OpenLine) (held : Option Nat) (is : List WordItem) (added : Option Elem) :
    l.append j held is added =
      { l with
        elems := l.elems ++ (l.part held is ++ added.toList)
        glue := if spaceCount (l.part held is ++ added.toList) = 0 then l.glue else l.glueWith j held is
        flags := if (l.part held is ++ added.toList).any Elem.isAbsent then addLineFlag .missing l.flags else l.flags } := rfl

theorem ensureOpen_of_open {s : State} {l : OpenLine} (h : s.cmp.line = some l) : ensureOpen s = s := by
  unfold ensureOpen
  rw [h]
  rfl

/-- A complete word before a line that is open (R42, R44). -/
theorem fitStep_eq {opp : BreakOpp} {l : OpenLine} {s : State} (h : s.cmp.line = some l) : fitStep opp s =
    if (itemElems s.cmp.word.items).isEmpty then setTask (some (.after opp)) s
    else if l.fits s.cmp.job s.cmp.held s.cmp.word.items none then setTask (some (.place opp)) s
    else if l.elems.length ≥ 200 then closeBefore [] opp s
    else if s.cmp.attempt then examineStep l opp s
    else setTask (some (.noBreak [] opp)) s := by
  unfold fitStep
  simp only [ensureOpen_of_open h, h]
  rfl

theorem fitStep_unfit {opp : BreakOpp} {l : OpenLine} {s : State} (h : s.cmp.line = some l)
    (he : itemElems s.cmp.word.items ≠ []) (hf : l.fits s.cmp.job s.cmp.held s.cmp.word.items none = false) :
    (200 ≤ l.elems.length → fitStep opp s = closeBefore [] opp s) ∧
      (l.elems.length < 200 → s.cmp.attempt = true → fitStep opp s = examineStep l opp s) ∧
      (l.elems.length < 200 → s.cmp.attempt = false → fitStep opp s = setTask (some (.noBreak [] opp)) s) := by
  have hempty : ¬ (itemElems s.cmp.word.items).isEmpty = true := by simpa using he
  rw [fitStep_eq h, if_neg hempty, if_neg (Bool.eq_false_iff.mp hf)]
  exact ⟨fun hn => if_pos hn, fun hn ha => (if_neg (Nat.not_le.mpr hn)).trans (if_pos ha),
    fun hn ha => (if_neg (Nat.not_le.mpr hn)).trans (if_neg (Bool.eq_false_iff.mp ha))⟩

/-- A word placed, or held for room (R35, R43). -/
theorem placeStep_eq {opp : BreakOpp} {l : OpenLine} {s : State} (h : s.cmp.line = some l) : placeStep opp s =
    if freePool s < (itemElems s.cmp.word.items).length then stallRoom s
    else s.withCmp { s.cmp with
      line := some (l.append s.cmp.job s.cmp.held s.cmp.word.items none), held := none, word := .empty
      task := some (.after opp) } := by
  simp only [placeStep, h]

/-! ### The Hyphenation Unit asked (R44, R73 to R76) -/

theorem hyphenWanting_iff (o : Optics) (is : List WordItem) : hyphenWanting o is = true ↔
    ∃ env, (o.mount env.face).state = .empty ∧ (.soft env ∈ is ∨ ∃ b e, .elem b e env ∈ is ∧ letterClass b ≠ none) := by
  unfold hyphenWanting
  rw [List.any_eq_true]
  constructor
  · rintro ⟨i, hi, h⟩
    cases i with
    | elem b e env =>
      simp only [Bool.and_eq_true, beq_iff_eq, Option.isSome_iff_ne_none] at h
      exact ⟨env, h.2, .inr ⟨b, e, hi, h.1⟩⟩
    | soft env => exact ⟨env, beq_iff_eq.mp h, .inl hi⟩
    | tie env => exact absurd h Bool.false_ne_true
  · rintro ⟨env, hm, hi | ⟨b, e, hi, hb⟩⟩
    · exact ⟨_, hi, beq_iff_eq.mpr hm⟩
    · refine ⟨_, hi, ?_⟩
      simp only [Bool.and_eq_true, beq_iff_eq, Option.isSome_iff_ne_none]
      exact ⟨hb, hm⟩

theorem referred_iff (x : Exam) (enabled : ReferClasses) : x.referred enabled = true ↔
    2 ≤ x.len ∧ 1 ≤ x.fit ∧ ((x.classes.meet enabled).u = true ∨ (x.classes.meet enabled).w = true ∨
      (x.classes.meet enabled).c = true) := by
  simp only [Exam.referred, Exam.referredFor, ReferClasses.some?, Bool.and_eq_true, Bool.or_eq_true, decide_eq_true_eq,
    or_assoc, and_assoc]

theorem notice_eq (x : Exam) (enabled : ReferClasses) : x.notice enabled =
    ascii "REFER WORD=" ++ x.letters ++ ascii " LEN=" ++ decimal x.len ++ ascii " Q=" ++
      x.positions.map (fun p => BitVec.ofNat 8 (48 + p.q)) ++ ascii " FIT=" ++ decimal x.fit ++
      ascii " OWN=" ++ decimal x.own ++ ascii " CLASS=" ++ (if (x.classes.meet enabled).u then ascii "U" else []) ++
      (if (x.classes.meet enabled).w then ascii "W" else []) ++ (if (x.classes.meet enabled).c then ascii "C" else []) := by
  simp only [Exam.notice, Exam.referredFor, ReferClasses.text]
  simp [fields, field, ascii]
  rfl

theorem examineStep_eq {l : OpenLine} {opp : BreakOpp} {s : State} :
    let x := examine s.opc s.hyu s.cmp.job l s.cmp.held s.cmp.word.items
    (hyphenWanting s.opc s.cmp.word.items = true → examineStep l opp s = stallSetup .hyphen s) ∧
      (hyphenWanting s.opc s.cmp.word.items = false → x.referred s.cmp.job.refer = true →
        examineStep l opp s = makeReferral x opp s) ∧
      (hyphenWanting s.opc s.cmp.word.items = false → x.referred s.cmp.job.refer = false →
        examineStep l opp s = s.withCmp { s.cmp with
          task := some (outcome (x.positions.find? fun p => p.k == x.own) [] opp), stallCause := none }) := by
  intro x
  unfold examineStep
  exact ⟨fun hw => if_pos hw, fun hw hr => (if_neg (Bool.eq_false_iff.mp hw)).trans (if_pos hr),
    fun hw hr => (if_neg (Bool.eq_false_iff.mp hw)).trans (if_neg (Bool.eq_false_iff.mp hr))⟩

/-! ### What ended a word (R25 to R27, R39) -/

theorem afterStep_space (size : Nat) (s : State) :
    (∀ l, s.cmp.line = some l → l.elems ≠ [] →
      afterStep (.space size) s =
        s.withCmp { s.cmp with word := .empty, task := none, held := some (s.cmp.held.getD size) }) ∧
      ((∀ l, s.cmp.line = some l → l.elems = []) →
        afterStep (.space size) s = s.withCmp { s.cmp with word := .empty, task := none, held := none }) := by
  refine ⟨fun l hl he => ?_, fun h => ?_⟩
  · have hkeep : (s.cmp.line.map OpenLine.nonEmpty).getD false = true := by simp [hl, OpenLine.nonEmpty, he]
    unfold afterStep
    dsimp only
    rw [if_pos hkeep]
    cases s.cmp.held <;> rfl
  · have hkeep : ¬ (s.cmp.line.map OpenLine.nonEmpty).getD false = true := by
      cases hl : s.cmp.line with
      | none => exact Bool.false_ne_true
      | some l => simp [OpenLine.nonEmpty, h l hl]
    unfold afterStep
    dsimp only
    rw [if_neg hkeep]

theorem afterStep_ending {s : State} {l : OpenLine} (h : (ensureOpen s).cmp.line = some l) (k : EndKind) :
    afterStep (.ending k) s = (ensureOpen s).withCmp
      { (ensureOpen s).cmp with
        line := none, held := none, word := .empty, stallCause := none
        task := some (.offer
          (l.close (ensureOpen s).cmp.job (if k = .line then .forced else .para) (decide (k = .cut))) none) } := by
  cases k <;> (unfold afterStep closeLine; simp only [h]; rfl)

/-- Settles O24: parts on the line, the fit test's outcomes, the referral, and what ended the word. -/
theorem completeWordsArePlacedOrReferred : Obligations.CompleteWordsArePlacedOrReferred := by
  unfold Obligations.CompleteWordsArePlacedOrReferred
  refine ⟨⟨fun ne before is => placeItems_kinds is ne before, fun _ _ _ _ _ _ => rfl,
      fun ne before is env => placeItems_tie_last is env ne before, fun _ _ => rfl, fun ne before is js e f b c v w x => ?_⟩,
    fun opp l s hl => ?_, fun opp l s hl he hf hn ha hw => ?_, hyphenWanting_iff, fun opp s he hl => ?_, afterStep_space,
    fun s l => ?_⟩
  · have hsplit := placeItems_append_elem is (.tie x :: .elem c f w :: js) b e v ne before
    rw [show is ++ [.elem b e v, .tie x, .elem c f w] ++ js = is ++ .elem b e v :: (.tie x :: .elem c f w :: js) by simp, hsplit]
    rfl
  · intro c part glue fits x classes referred
    have hglue : l.glueWith c.job c.held c.word.items = glue := glueWith_eq c.job l c.held c.word.items
    have hfits : l.fits c.job c.held c.word.items none = true ↔ fits := by
      rw [fits_iff, Option.toList_none, List.append_nil, hglue]
      exact Iff.rfl
    have hreferred : x.referred c.job.refer = true ↔ referred := referred_iff x c.job.refer
    refine ⟨fun he => ⟨fun hf => ?_, fun hf hn ha => ?_, fun hf hn ha hw => ⟨fun hr => ?_, fun hr => ?_⟩⟩, fun hroom => ?_,
      fun hroom => ?_⟩
    · have hempty : ¬ (itemElems s.cmp.word.items).isEmpty = true := by simpa using he
      rw [fitStep_eq hl, if_neg hempty]
      exact if_pos (hfits.mpr hf)
    · obtain ⟨-, -, hplain⟩ := fitStep_unfit (opp := opp) hl he (Bool.eq_false_iff.mpr (mt hfits.mp hf))
      exact hplain hn ha
    · obtain ⟨-, hexamine, -⟩ := fitStep_unfit (opp := opp) hl he (Bool.eq_false_iff.mpr (mt hfits.mp hf))
      obtain ⟨-, hrefer, -⟩ := examineStep_eq (l := l) (opp := opp) (s := s)
      rw [hexamine hn ha, hrefer hw (hreferred.mpr hr), makeReferral, notice_eq]
      rfl
    · obtain ⟨-, hexamine, -⟩ := fitStep_unfit (opp := opp) hl he (Bool.eq_false_iff.mpr (mt hfits.mp hf))
      obtain ⟨-, -, hown⟩ := examineStep_eq (l := l) (opp := opp) (s := s)
      rw [hexamine hn ha, hown hw (Bool.eq_false_iff.mpr (mt hreferred.mp hr))]
      rfl
    · have happend : l.append c.job c.held c.word.items none =
          { l with
            elems := l.elems ++ part
            glue := if spaceCount part = 0 then l.glue else glue
            flags := if part.any Elem.isAbsent then addLineFlag .missing l.flags else l.flags } := by
        rw [append_eq, Option.toList_none, List.append_nil, hglue]
        rfl
      rw [placeStep_eq hl, if_neg (Nat.not_lt.mpr hroom)]
      exact congrArg (fun x => s.withCmp { c with held := none, word := .empty, task := some (.after opp), line := some x }) happend
    · rw [placeStep_eq hl, if_pos hroom]
      rfl
  · obtain ⟨-, hexamine, -⟩ := fitStep_unfit (opp := opp) hl he hf
    obtain ⟨hwanting, -⟩ := examineStep_eq (l := l) (opp := opp) (s := s)
    rw [hexamine hn ha, hwanting hw, stallSetup_eq]
  · obtain ⟨l, hl⟩ := Option.ne_none_iff_exists'.mp hl
    rw [fitStep_eq hl, if_pos (by rw [he]; rfl)]
    rfl
  · intro u hl
    exact ⟨afterStep_ending hl, fun byte ps => rfl⟩

end Sys2Proof.Machine
end

section
/-! PROOF. The spacing of a line (R52 to R57): where each element stands, and how the glue is spread. -/

namespace Sys2Proof.Machine

-- One declaration at a time: it keeps the threads, and with them the memory, of the compile small.
set_option Elab.async false

/-! ### Sums and gaps (R52) -/

theorem widthSum_append (as es : List Elem) : widthSum (as ++ es) = widthSum as + widthSum es := by
  simp [widthSum]

theorem spaceCount_cons (e : Elem) (es : List Elem) : spaceCount (e :: es) = e.before + spaceCount es := by
  simp [spaceCount]

theorem spaceCount_append (as es : List Elem) : spaceCount (as ++ es) = spaceCount as + spaceCount es := by
  simp [spaceCount]

/-- The gap between the element before, if there is one, and the next (R52). -/
def gapBefore (prev : Option Elem) (e : Elem) : Nat :=
  match prev with
  | none => 0
  | some a => if isGap a e then 1 else 0

theorem gapCount_prev (prev : Option Elem) (e : Elem) (es : List Elem) :
    gapCount (prev.toList ++ e :: es) = gapBefore prev e + gapCount (e :: es) := by
  cases prev with
  | none => exact (Nat.zero_add _).symm
  | some a => rfl

theorem gapCount_le_append (as es : List Elem) : gapCount as ≤ gapCount (as ++ es) := by
  induction as with
  | nil => exact Nat.zero_le _
  | cons a as ih =>
    cases as with
    | nil => exact Nat.zero_le _
    | cons b as => exact Nat.add_le_add_left ih _

/-- Width of the first `n` spaces of a distribution (R52). -/
def firstSpaces (res : GlueResult) (n : Nat) : Nat := n * res.base + min res.r n

theorem firstSpaces_add (res : GlueResult) (k m : Nat) :
    firstSpaces res (k + m) = firstSpaces res k + spacesWidth res.base res.r k m := by
  unfold firstSpaces spacesWidth
  rw [Nat.add_mul, Nat.mul_comm res.base m]
  omega

theorem firstSpaces_mono (res : GlueResult) {m n : Nat} (h : m ≤ n) : firstSpaces res m ≤ firstSpaces res n := by
  obtain ⟨d, rfl⟩ := Nat.exists_eq_add_of_le h
  rw [firstSpaces_add]
  exact Nat.le_add_right _ _

/-! ### Elements placed (R57) -/

theorem placeFrom_cons (res : GlueResult) (at_ k : Nat) (prev : Option Elem) (e : Elem) (es : List Elem) :
    placeFrom res at_ k prev (e :: es) =
      { e with x := at_ + spacesWidth res.base res.r k e.before + res.ls * gapBefore prev e } ::
        placeFrom res (at_ + spacesWidth res.base res.r k e.before + res.ls * gapBefore prev e + e.width) (k + e.before)
          (some e) es := by
  have hgap : (match prev with | none => 0 | some a => if isGap a e then res.ls else 0) = res.ls * gapBefore prev e := by
    cases prev with
    | none => rfl
    | some a =>
      show (if isGap a e then res.ls else 0) = res.ls * (if isGap a e then 1 else 0)
      split <;> simp
  rw [← hgap]
  rfl

theorem placeFrom_kinds (res : GlueResult) (es : List Elem) : ∀ at_ k prev,
    (placeFrom res at_ k prev es).map Elem.kind = es.map Elem.kind := by
  induction es with
  | nil => intro at_ k prev; rfl
  | cons e es ih =>
    intro at_ k prev
    rw [placeFrom_cons, List.map_cons, List.map_cons, ih]

/-- Where an element of a line stands: behind the widths, the spaces and the gaps to its left (R57). -/
theorem placeFrom_at (res : GlueResult) (e : Elem) (es as : List Elem) : ∀ at_ k prev,
    ∃ x, (placeFrom res at_ k prev (as ++ e :: es))[as.length]? = some { e with x := x } ∧
      x + firstSpaces res k = at_ + widthSum as + firstSpaces res (k + spaceCount (as ++ [e])) +
        res.ls * gapCount (prev.toList ++ (as ++ [e])) := by
  induction as with
  | nil =>
    intro at_ k prev
    refine ⟨at_ + spacesWidth res.base res.r k e.before + res.ls * gapBefore prev e, ?_, ?_⟩
    · rw [List.nil_append, placeFrom_cons]
      rfl
    · have hspaces : spaceCount ([] ++ [e]) = e.before := by simp [spaceCount]
      have hgaps : gapCount (prev.toList ++ ([] ++ [e])) = gapBefore prev e := gapCount_prev prev e []
      have hwidth : widthSum [] = 0 := rfl
      rw [hspaces, hgaps, hwidth, firstSpaces_add]
      omega
  | cons a as ih =>
    intro at_ k prev
    obtain ⟨x, hx, hsum⟩ := ih (at_ + spacesWidth res.base res.r k a.before + res.ls * gapBefore prev a + a.width)
      (k + a.before) (some a)
    refine ⟨x, ?_, ?_⟩
    · rw [List.cons_append, placeFrom_cons]
      exact hx
    · have hspaces : spaceCount (a :: as ++ [e]) = a.before + spaceCount (as ++ [e]) := spaceCount_cons a _
      have hgaps : gapCount (prev.toList ++ (a :: as ++ [e])) = gapBefore prev a + gapCount (a :: (as ++ [e])) :=
        gapCount_prev prev a _
      have hfirst := firstSpaces_add res k a.before
      rw [hspaces, hgaps, widthSum_cons, Nat.mul_add, ← Nat.add_assoc k]
      have htail : (some a : Option Elem).toList ++ (as ++ [e]) = a :: (as ++ [e]) := rfl
      rw [htail] at hsum
      omega

/-- An element's x on a line placed from its left edge (R57). -/
theorem placeFrom_getElem (res : GlueResult) (start : Nat) (as es : List Elem) (e : Elem) :
    (placeFrom res start 0 none (as ++ e :: es))[as.length]? = some { e with
      x := start + widthSum as + firstSpaces res (spaceCount (as ++ [e])) + res.ls * gapCount (as ++ [e]) } := by
  obtain ⟨x, hx, hsum⟩ := placeFrom_at res e es as start 0 none
  have hzero : firstSpaces res 0 = 0 := by simp [firstSpaces]
  rw [hzero, Nat.zero_add, Nat.add_zero] at hsum
  rw [hx, hsum]
  rfl

theorem mem_placeFrom {res : GlueResult} {start : Nat} {es : List Elem} {p : Elem} (h : p ∈ placeFrom res start 0 none es) :
    ∃ as e rest, es = as ++ e :: rest ∧ p = { e with
      x := start + widthSum as + firstSpaces res (spaceCount (as ++ [e])) + res.ls * gapCount (as ++ [e]) } := by
  obtain ⟨i, hi⟩ := List.mem_iff_getElem?.mp h
  have hlen : i < es.length := by
    rw [← placeFrom_length res start 0 none es]
    exact (List.getElem?_eq_some_iff.mp hi).1
  have hsplit : es = es.take i ++ es[i] :: es.drop (i + 1) := by simp
  have htake : (es.take i).length = i := List.length_take_of_le hlen.le
  have hget := placeFrom_getElem res start (es.take i) (es.drop (i + 1)) es[i]
  rw [← hsplit, htake, hi] at hget
  exact ⟨_, _, _, hsplit, Option.some.inj hget⟩

/-- The right end of what is placed (R57). -/
theorem placeFrom_bounds {res : GlueResult} {start : Nat} {es : List Elem} {p : Elem}
    (h : p ∈ placeFrom res start 0 none es) : start ≤ p.x ∧
      p.x + p.width ≤ start + widthSum es + firstSpaces res (spaceCount es) + res.ls * gapCount es := by
  obtain ⟨as, e, rest, rfl, rfl⟩ := mem_placeFrom h
  have hsplit : as ++ e :: rest = (as ++ [e]) ++ rest := by simp
  have hspaces : firstSpaces res (spaceCount (as ++ [e])) ≤ firstSpaces res (spaceCount (as ++ e :: rest)) := by
    rw [hsplit, spaceCount_append (as ++ [e])]
    exact firstSpaces_mono res (Nat.le_add_right _ _)
  have hgaps : res.ls * gapCount (as ++ [e]) ≤ res.ls * gapCount (as ++ e :: rest) := by
    rw [hsplit]
    exact Nat.mul_le_mul_left _ (gapCount_le_append _ _)
  rw [widthSum_append, widthSum_cons]
  dsimp only
  omega

/-! ### The glue spread (R53 to R56) -/

/-- A width spread over spaces, the remainder over the first of them (R53). -/
def evenResult (n d ls : Nat) : GlueResult := { n := n, base := d / n, r := d % n, ls := ls }

theorem firstSpaces_even {n : Nat} (hn : 0 < n) (d ls : Nat) : firstSpaces (evenResult n d ls) n = d := by
  have hr : d % n ≤ n := (Nat.mod_lt d hn).le
  show n * (d / n) + min (d % n) n = d
  rw [Nat.min_eq_left hr]
  exact Nat.div_add_mod d n

/-- The widest space of a width spread over spaces (R53). -/
def widestOf (n d : Nat) : Nat := if d % n = 0 then d / n else d / n + 1

theorem widest_eq (n d : Nat) : widest (d / n) (d % n) = widestOf n d := by
  unfold widest widestOf
  by_cases h : d % n = 0
  · rw [if_pos h, if_neg (by omega)]
  · rw [if_neg h, if_pos (by omega)]

/-- The letterspacing of a line whose spaces would be wider than the glue lets them be (R54). -/
theorem justifySpaces_eq (glue : Glue) (lsMax d n g : Nat) :
    (widestOf n d ≤ glue.max ∨ lsMax = 0 ∨ g = 0 → justifySpaces glue lsMax d n g =
      { result := evenResult n d 0, offset := 0, loose := decide (glue.max < widestOf n d) }) ∧
      (glue.max < widestOf n d → 0 < lsMax → 0 < g → ∀ ls, ls = min lsMax ((d - n * glue.max) / g) →
        justifySpaces glue lsMax d n g =
          { result := evenResult n (d - ls * g) ls, offset := 0, loose := decide (glue.max < widestOf n (d - ls * g)) }) := by
  unfold justifySpaces
  rw [widest_eq]
  refine ⟨fun h => ?_, fun hw hl hg ls hls => ?_⟩
  · by_cases hw : glue.max < widestOf n d
    · have hls : ¬ (lsMax > 0 ∧ g > 0) := by omega
      rw [if_pos hw, if_neg hls]
      dsimp only
      rw [Nat.zero_mul, Nat.sub_zero, widest_eq]
      rfl
    · rw [if_neg hw, decide_eq_false hw]
      rfl
  · rw [if_pos hw, if_pos ⟨hl, hg⟩, ← hls]
    dsimp only
    rw [widest_eq]
    rfl

theorem justifyNoSpace_eq (lsMax d g : Nat) (box : Bool) : justifyNoSpace lsMax d g box =
    { result := { n := 0, base := 0, r := 0, ls := if box = true ∧ 0 < g then min lsMax (d / g) else 0 }, offset := 0
      loose := decide (box = true ∧ 0 < d - (if box = true ∧ 0 < g then min lsMax (d / g) else 0) * g) } := by
  unfold justifyNoSpace
  cases box
  · rw [if_neg Bool.false_ne_true, if_neg fun h => Bool.false_ne_true h.1, decide_eq_false fun h => Bool.false_ne_true h.1]
  · simp only [if_true, true_and]

/-- The offset of a ragged line with `room` left over (R56). -/
def Quad.raggedOffset (quad : Quad) (room : Nat) : Nat :=
  match quad with
  | .right => room
  | .center => room / 2
  | _ => 0

theorem raggedSpacing_eq (quad : Quad) (glue : Glue) (avail b n w : Nat) (res : GlueResult)
    (h : (n = 0 ∧ w = b ∧ res = { n := 0, base := 0, r := 0, ls := 0 }) ∨
      (0 < n ∧ b + n * glue.opt ≤ avail ∧ w = b + n * glue.opt ∧ res = { n := n, base := glue.opt, r := 0, ls := 0 }) ∨
      (0 < n ∧ avail < b + n * glue.opt ∧ w = b + (avail - b) ∧ res = evenResult n (avail - b) 0)) :
    raggedSpacing quad glue avail b n =
      { result := res, loose := false, offset := quad.raggedOffset (avail - w) } := by
  unfold raggedSpacing
  rcases h with ⟨hn, rfl, rfl⟩ | ⟨hn, ho, rfl, rfl⟩ | ⟨hn, ho, rfl, rfl⟩
  · simp only [hn, if_true, Nat.zero_mul, Nat.add_zero]
    cases quad <;> rfl
  · simp only [if_neg (Nat.ne_of_gt hn), if_pos ho, Nat.add_zero, Nat.mul_comm glue.opt]
    cases quad <;> rfl
  · have hd : b + (avail - b) / n * n + (avail - b) % n = b + (avail - b) := by
      rw [Nat.add_assoc, Nat.mul_comm, Nat.div_add_mod]
    simp only [if_neg (Nat.ne_of_gt hn), if_neg (Nat.not_le.mpr ho), hd]
    cases quad <;> rfl

/-- The spacing of a JUSTIFY line (R53 to R55). -/
theorem spacingOf_justify (glue : Glue) (lsMax avail : Nat) (es : List Elem) :
    spacingOf .justify false glue lsMax avail es =
      if spaceCount es = 0 then justifyNoSpace lsMax (avail - widthSum es) (gapCount es) (es.any Elem.isBox)
      else justifySpaces glue lsMax (avail - widthSum es) (spaceCount es) (gapCount es) := rfl

theorem spacingOf_ragged {quad : Quad} (h : quad ≠ .justify) (glue : Glue) (lsMax avail : Nat) (es : List Elem) :
    spacingOf quad false glue lsMax avail es = raggedSpacing quad glue avail (widthSum es) (spaceCount es) := by
  cases quad with
  | justify => exact absurd rfl h
  | _ => rfl

/-- The right end of a line spaced so, without its left edge (R57). -/
def Spacing.reach (sp : Spacing) (es : List Elem) : Nat :=
  sp.offset + widthSum es + firstSpaces sp.result (spaceCount es) + sp.result.ls * gapCount es

/-- A JUSTIFY line with a word space fills its width (R53, R54). -/
theorem justifySpaces_fills {glue : Glue} {lsMax avail : Nat} {es : List Elem} (hb : widthSum es ≤ avail)
    (hn : 0 < spaceCount es) :
    let sp := justifySpaces glue lsMax (avail - widthSum es) (spaceCount es) (gapCount es)
    sp.offset = 0 ∧ sp.result.r < spaceCount es ∧ sp.result.ls ≤ lsMax ∧ sp.reach es = avail := by
  intro sp
  set n := spaceCount es with hnd
  set g := gapCount es with hg
  set d := avail - widthSum es with hd
  have hfills {ls : Nat} {loose : Bool} (hls : ls ≤ lsMax) (hlg : ls * g ≤ d)
      (hsp : sp = { result := evenResult n (d - ls * g) ls, offset := 0, loose := loose }) :
      sp.offset = 0 ∧ sp.result.r < n ∧ sp.result.ls ≤ lsMax ∧ sp.reach es = avail := by
    rw [hsp]
    refine ⟨rfl, Nat.mod_lt _ hn, hls, ?_⟩
    show 0 + widthSum es + firstSpaces (evenResult n (d - ls * g) ls) n + ls * g = avail
    rw [firstSpaces_even hn]
    omega
  obtain ⟨hplain, hletter⟩ := justifySpaces_eq glue lsMax d n g
  by_cases hw : widestOf n d ≤ glue.max ∨ lsMax = 0 ∨ g = 0
  · exact hfills (ls := 0) (Nat.zero_le _) (by omega) (by rw [Nat.zero_mul, Nat.sub_zero]; exact hplain hw)
  · push Not at hw
    obtain ⟨hw, hl, hgap⟩ := hw
    refine hfills (ls := min lsMax ((d - n * glue.max) / g)) (Nat.min_le_left _ _) ?_
      (hletter hw (Nat.pos_of_ne_zero hl) (Nat.pos_of_ne_zero hgap) _ rfl)
    calc min lsMax ((d - n * glue.max) / g) * g ≤ (d - n * glue.max) / g * g := Nat.mul_le_mul_right _ (Nat.min_le_right _ _)
      _ ≤ d - n * glue.max := Nat.div_mul_le_self _ _
      _ ≤ d := Nat.sub_le _ _

theorem raggedOffset_le (quad : Quad) (room : Nat) : quad.raggedOffset room ≤ room := by
  cases quad with
  | right => exact le_rfl
  | center => exact Nat.div_le_self _ _
  | _ => exact Nat.zero_le _

theorem raggedSpacing_reach (quad : Quad) (glue : Glue) {avail : Nat} {es : List Elem} (hb : widthSum es ≤ avail) :
    (raggedSpacing quad glue avail (widthSum es) (spaceCount es)).reach es ≤ avail := by
  have hreach {w : Nat} {res : GlueResult} (hw : widthSum es + firstSpaces res (spaceCount es) = w) (hls : res.ls = 0)
      (hle : w ≤ avail) (h : raggedSpacing quad glue avail (widthSum es) (spaceCount es) =
        { result := res, loose := false, offset := quad.raggedOffset (avail - w) }) :
      (raggedSpacing quad glue avail (widthSum es) (spaceCount es)).reach es ≤ avail := by
    have hoffset := raggedOffset_le quad (avail - w)
    rw [h]
    show quad.raggedOffset (avail - w) + widthSum es + firstSpaces res (spaceCount es) + res.ls * gapCount es ≤ avail
    rw [hls, Nat.zero_mul]
    omega
  rcases Nat.eq_zero_or_pos (spaceCount es) with hn | hn
  · refine hreach ?_ rfl hb (raggedSpacing_eq quad glue avail _ _ _ _ (.inl ⟨hn, rfl, rfl⟩))
    rw [hn]
    rfl
  · by_cases ho : widthSum es + spaceCount es * glue.opt ≤ avail
    · refine hreach ?_ rfl ho (raggedSpacing_eq quad glue avail _ _ _ _ (.inr (.inl ⟨hn, ho, rfl, rfl⟩)))
      simp [firstSpaces]
    · refine hreach ?_ rfl (by omega) (raggedSpacing_eq quad glue avail _ _ _ _
        (.inr (.inr ⟨hn, Nat.not_le.mp ho, rfl, rfl⟩)))
      rw [firstSpaces_even hn]

theorem justifyNoSpace_reach (lsMax : Nat) (box : Bool) {avail : Nat} {es : List Elem} (hb : widthSum es ≤ avail)
    (hn : spaceCount es = 0) : (justifyNoSpace lsMax (avail - widthSum es) (gapCount es) box).reach es ≤ avail := by
  rw [justifyNoSpace_eq]
  set ls := if box = true ∧ 0 < gapCount es then min lsMax ((avail - widthSum es) / gapCount es) else 0 with hls
  have hgaps : ls * gapCount es ≤ avail - widthSum es := by
    rw [hls]
    split
    · exact (Nat.mul_le_mul_right _ (Nat.min_le_right _ _)).trans (Nat.div_mul_le_self _ _)
    · exact (Nat.zero_mul _).trans_le (Nat.zero_le _)
  show 0 + widthSum es + firstSpaces { n := 0, base := 0, r := 0, ls := ls } (spaceCount es) + ls * gapCount es ≤ avail
  rw [hn, show firstSpaces { n := 0, base := 0, r := 0, ls := ls } 0 = 0 from rfl]
  omega

/-- A line whose widths fit ends within its width (R53 to R56). -/
theorem spacingOf_reach (quad : Quad) (glue : Glue) (lsMax : Nat) {avail : Nat} {es : List Elem} (hb : widthSum es ≤ avail) :
    (spacingOf quad false glue lsMax avail es).reach es ≤ avail := by
  by_cases hq : quad = .justify
  · rw [hq, spacingOf_justify]
    by_cases hn : spaceCount es = 0
    · rw [if_pos hn]
      exact justifyNoSpace_reach lsMax _ hb hn
    · rw [if_neg hn]
      exact (justifySpaces_fills hb (Nat.pos_of_ne_zero hn)).2.2.2.le
  · rw [spacingOf_ragged hq]
    exact raggedSpacing_reach quad glue hb

end Sys2Proof.Machine
end

section
/-! PROOF. Lines closed (R44 to R57, R87): breaks, overset words, the record of a closed line, and its offer to the store. -/

namespace Sys2Proof.Machine

-- One declaration at a time: it keeps the threads, and with them the memory, of the compile small.
set_option Elab.async false

/-! ### Lines placed within their width (R57) -/

theorem placed_within (quad : Quad) (glue : Glue) (lsMax left : Nat) {avail : Nat} {es : List Elem} (hb : widthSum es ≤ avail)
    {p : Elem} :
    let sp := spacingOf quad false glue lsMax avail es
    p ∈ placeFrom sp.result (left + sp.offset) 0 none es → left ≤ p.x ∧ p.x + p.width ≤ left + avail := by
  intro sp hp
  obtain ⟨hlow, hhigh⟩ := placeFrom_bounds hp
  have hreach : sp.offset + widthSum es + firstSpaces sp.result (spaceCount es) + sp.result.ls * gapCount es ≤ avail :=
    spacingOf_reach quad glue lsMax hb
  omega

/-- The last element placed ends where the line reaches (R57). -/
theorem placed_last {sp : Spacing} {left : Nat} {es : List Elem} {p : Elem}
    (h : (placeFrom sp.result (left + sp.offset) 0 none es).getLast? = some p) : p.x + p.width = left + sp.reach es := by
  rcases List.eq_nil_or_concat' es with rfl | ⟨as, e, rfl⟩
  · cases h
  · have hplace := placeFrom_getElem sp.result (left + sp.offset) as [] e
    rw [List.getLast?_eq_getElem?, placeFrom_length, List.length_append, List.length_singleton, Nat.add_sub_cancel, hplace] at h
    cases h
    show left + sp.offset + widthSum as + firstSpaces sp.result (spaceCount (as ++ [e])) + sp.result.ls * gapCount (as ++ [e]) +
      e.width = left + (sp.offset + widthSum (as ++ [e]) + firstSpaces sp.result (spaceCount (as ++ [e])) +
        sp.result.ls * gapCount (as ++ [e]))
    have hwidth : widthSum (as ++ [e]) = widthSum as + e.width := by rw [widthSum_append]; simp [widthSum]
    omega

/-- A JUSTIFY line with a word space fills its width (R53, R54). -/
theorem justify_fills (glue : Glue) (lsMax left : Nat) {avail : Nat} {es : List Elem} (hb : widthSum es ≤ avail)
    (hn : 1 ≤ spaceCount es) :
    let sp := spacingOf .justify false glue lsMax avail es
    sp.result.r < spaceCount es ∧ sp.result.ls ≤ lsMax ∧
      widthSum es + (spaceCount es * sp.result.base + sp.result.r) + sp.result.ls * gapCount es = avail ∧
      (∀ e, (placeFrom sp.result (left + sp.offset) 0 none es).getLast? = some e → e.x + e.width = left + avail) := by
  intro sp
  have hsp : sp = justifySpaces glue lsMax (avail - widthSum es) (spaceCount es) (gapCount es) := if_neg (by omega)
  obtain ⟨hoffset, hr, hls, hreach⟩ := justifySpaces_fills (glue := glue) (lsMax := lsMax) hb hn
  rw [← hsp] at hoffset hr hls hreach
  refine ⟨hr, hls, ?_, fun e he => by rw [placed_last he, hreach]⟩
  have hfirst : firstSpaces sp.result (spaceCount es) = spaceCount es * sp.result.base + sp.result.r := by
    rw [firstSpaces, Nat.min_eq_left hr.le]
  rw [Spacing.reach, hoffset, hfirst] at hreach
  omega

/-- An OVERSET line has its elements one behind the other (R57). -/
theorem overset_placed {n start : Nat} {es : List Elem} {p : Elem}
    (h : p ∈ placeFrom { n := n, base := 0, r := 0, ls := 0 } start 0 none es) :
    ∃ as e rest, es = as ++ e :: rest ∧ p = { e with x := start + widthSum as } := by
  obtain ⟨as, e, rest, hes, hp⟩ := mem_placeFrom h
  refine ⟨as, e, rest, hes, hp.trans ?_⟩
  simp [firstSpaces]

/-! ### The record of a closed line (R50, R51) -/

theorem spacedQuad_eq (q : Quad) (brk : BreakKind) :
    spacedQuad q brk = if brk = .overset ∨ (brk = .para ∧ q = .justify) then .left else q := by
  cases brk <;> cases q <;> rfl

/-- How a closed line is spaced (R51 to R57). -/
def OpenLine.spacing (j : Job) (l : OpenLine) (brk : BreakKind) : Spacing :=
  spacingOf (if brk = .overset ∨ (brk = .para ∧ l.set.quad = .justify) then .left else l.set.quad) (decide (brk = .overset))
    (l.glue.getD { min := 0, opt := 0, max := 0 }) j.lsMax l.set.available l.elems

theorem close_eq (j : Job) (l : OpenLine) (brk : BreakKind) (cut : Bool) : l.close j brk cut =
    { number := l.number, exp := l.exp, proof := l.proof
      quad := if brk = .overset ∨ (brk = .para ∧ l.set.quad = .justify) then .left else l.set.quad
      measure := l.set.measure, left := l.set.left, right := l.set.right, move := l.move cut, marks := l.marks
      cutAfter := cut, brk := brk, glue := (l.spacing j brk).result
      flags := if (l.spacing j brk).loose then addLineFlag .loose l.flags else l.flags
      elems := placeFrom (l.spacing j brk).result (l.set.left + (l.spacing j brk).offset) 0 none l.elems
      exposed := 0, misses := 0, band := none, galley := none, discard := false } := by
  have hoverset : (brk == .overset) = decide (brk = .overset) := by cases brk <;> rfl
  unfold OpenLine.close OpenLine.spacing
  rw [spacedQuad_eq, hoverset]
  rfl

theorem spacing_overset (j : Job) (l : OpenLine) :
    l.spacing j .overset = { result := { n := spaceCount l.elems, base := 0, r := 0, ls := 0 }, offset := 0, loose := false } := rfl

theorem close_elems (j : Job) (l : OpenLine) (brk : BreakKind) (cut : Bool) : (l.close j brk cut).elems =
    placeFrom (l.spacing j brk).result (l.set.left + (l.spacing j brk).offset) 0 none l.elems := by
  rw [close_eq]

/-- A line that fits stands within its measure (R6, R57). -/
theorem close_within (j : Job) {l : OpenLine} {brk : BreakKind} (cut : Bool) (hm : l.set.left + l.set.right ≤ l.set.measure)
    (hw : widthSum l.elems ≤ l.set.available) {p : Elem} (hp : p ∈ (l.close j brk cut).elems) :
    p.x + p.width ≤ l.set.measure := by
  have havail : l.set.left + l.set.available ≤ l.set.measure := by
    unfold LineSet.available
    omega
  rw [close_elems] at hp
  by_cases hb : brk = .overset
  · subst hb
    rw [spacing_overset] at hp
    obtain ⟨as, e, rest, hes, rfl⟩ := overset_placed hp
    have hsum : widthSum l.elems = widthSum as + (e.width + widthSum rest) := by rw [hes, widthSum_append, widthSum_cons]
    show l.set.left + 0 + widthSum as + e.width ≤ l.set.measure
    omega
  · have hspacing : l.spacing j brk = spacingOf (if brk = .overset ∨ (brk = .para ∧ l.set.quad = .justify) then .left
        else l.set.quad) false (l.glue.getD { min := 0, opt := 0, max := 0 }) j.lsMax l.set.available l.elems := by
      rw [OpenLine.spacing, decide_eq_false hb]
    rw [hspacing] at hp
    have hend := (placed_within _ _ _ _ hw hp).2
    omega

/-! ### Closing -/

/-- The open line closed with `x` on it, the rest of the word carried on (R45 to R47, R50). -/
def State.lineClosed (x : OpenLine) (brk : BreakKind) (flags : List LineFlag) (rest : WordBuf) (opp : BreakOpp) (s : State) :
    State :=
  s.withCmp { s.cmp with
    line := none, held := none, word := rest, stallCause := none
    task := some (.offer ({ x with flags := flags.foldl (fun fs f => addLineFlag f fs) x.flags }.close s.cmp.job brk false)
      (some opp)) }

theorem closeLine_eq {s : State} {x : OpenLine} (h : s.cmp.line = some x) (brk : BreakKind) (flags : List LineFlag)
    (rest : WordBuf) (opp : BreakOpp) : closeLine brk false flags rest (some opp) s = s.lineClosed x brk flags rest opp := by
  unfold closeLine
  rw [h]
  rfl

theorem closeBefore_eq {s : State} {l : OpenLine} (h : s.cmp.line = some l) (flags : List LineFlag) (opp : BreakOpp) :
    closeBefore flags opp s =
      s.lineClosed l (if s.cmp.word.atSplit then .split else .word) flags { s.cmp.word with atSplit := false } opp :=
  closeLine_eq h _ _ _ _

theorem noBreakStep_eq {s : State} {l : OpenLine} (h : s.cmp.line = some l) (flags : List LineFlag) (opp : BreakOpp) :
    ((∃ e ∈ l.elems, e.isBox = true) → noBreakStep flags opp s = closeBefore flags opp s) ∧
      ((∀ e ∈ l.elems, e.isBox = false) → noBreakStep flags opp s = setTask (some (.overset flags opp)) s) := by
  unfold noBreakStep
  rw [h]
  exact ⟨fun hb => if_pos (List.any_eq_true.mpr hb), fun hb => if_neg fun ha => by
    obtain ⟨e, he, hbox⟩ := List.any_eq_true.mp ha
    exact Bool.false_ne_true ((hb e he).symm.trans hbox)⟩

theorem breakStep_eq {s : State} {l : OpenLine} (h : s.cmp.line = some l) (b : Break) (flags : List LineFlag) (opp : BreakOpp) :
    breakStep b flags opp s =
      if freePool s < (itemElems (s.cmp.word.items.take b.cut)).length + b.hyph.toList.length then stallRoom s
      else s.lineClosed (l.append s.cmp.job s.cmp.held (s.cmp.word.items.take b.cut) b.hyph)
        (if b.hyph = none then .hardHyphen else .hyphen) flags
        { items := s.cmp.word.items.drop b.next, count := s.cmp.word.count, atSplit := false } opp := by
  have hkind : (if b.hyph.isSome then BreakKind.hyphen else .hardHyphen) = if b.hyph = none then .hardHyphen else .hyphen := by
    cases b.hyph <;> rfl
  rw [← hkind]
  unfold breakStep
  dsimp only
  rw [h]
  rfl

theorem oversetStep_eq {s : State} {l : OpenLine} (h : s.cmp.line = some l) (flags : List LineFlag) (opp : BreakOpp) :
    oversetStep flags opp s =
      let k := oversetRun l (itemElems s.cmp.word.items)
      let run := takeElems k s.cmp.word.items
      if freePool s < k then stallRoom s
      else s.lineClosed (l.append s.cmp.job s.cmp.held run none) .overset (addLineFlag .overset flags)
        { items := s.cmp.word.items.drop run.length, count := s.cmp.word.count, atSplit := false } opp := by
  unfold oversetStep
  dsimp only
  rw [h]
  rfl

/-! ### The run of an overset word (R47) -/

theorem itemElems_cons (i : WordItem) (is : List WordItem) : itemElems (i :: is) = itemElems [i] ++ itemElems is := by
  rw [itemElems, itemElems, itemElems, ← List.filterMap_append]
  rfl

theorem itemElems_singleton (i : WordItem) : (itemElems [i]).length = if i.isElem then 1 else 0 := by
  cases i <;> rfl

theorem takeElems_elems (is : List WordItem) : ∀ k, itemElems (takeElems k is) = (itemElems is).take k := by
  induction is with
  | nil => intro k; cases k <;> rfl
  | cons i is ih =>
    intro k
    cases k with
    | zero => rfl
    | succ k =>
      cases i with
      | elem b e v => exact congrArg (List.cons e) (ih k)
      | tie v => exact ih (k + 1)
      | soft v => exact ih (k + 1)

theorem takeElems_zero (is : List WordItem) : takeElems 0 is = [] := by
  cases is <;> rfl

/-- The items up to and including the `k`-th element. -/
theorem takeElems_eq {i : WordItem} {rest : List WordItem} (hi : (itemElems [i]).length = 1) (run : List WordItem) : ∀ k,
    (itemElems (run ++ [i])).length = k → takeElems k (run ++ i :: rest) = run ++ [i] := by
  have helem : i.isElem = true := by
    rw [itemElems_singleton] at hi
    by_contra h
    rw [if_neg h] at hi
    omega
  induction run with
  | nil =>
    intro k hk
    obtain rfl : k = 1 := hk.symm.trans hi
    rw [List.nil_append, takeElems, helem]
    exact congrArg (List.cons i) (takeElems_zero rest)
  | cons r run ih =>
    intro k hk
    rw [List.cons_append, itemElems_cons, List.length_append, itemElems_singleton] at hk
    have hpos : 1 ≤ (itemElems (run ++ [i])).length := by
      simp only [itemElems, List.filterMap_append, List.length_append]
      exact Nat.le_add_left_of_le hi.ge
    obtain ⟨n, rfl⟩ : ∃ n, k = n + 1 := ⟨k - 1, by omega⟩
    rw [List.cons_append, takeElems, List.cons_append]
    refine congrArg (List.cons r) (ih _ ?_)
    by_cases hr : r.isElem = true
    · rw [if_pos hr] at hk ⊢
      omega
    · rw [if_neg hr] at hk ⊢
      omega

/-- The run of an overset word is `k` elements long where `k0` is the longest run that fits, `k1` what the first box makes of
it, and `b` the longest run within the bounds of R6 (R47). -/
theorem oversetRun_eq {l : OpenLine} {es : List Elem} {k0 k1 b : Nat} (hfree : l.elems.length < 200)
    (h0 : k0 ≤ es.length ∧ k0 ≤ 200 - l.elems.length ∧ widthSum l.elems + widthSum (es.take k0) ≤ l.set.available)
    (hmax : ∀ k', k' ≤ es.length ∧ k' ≤ 200 - l.elems.length ∧
      widthSum l.elems + widthSum (es.take k') ≤ l.set.available → k' ≤ k0)
    (h1 : (((∃ e ∈ es.take k0, e.isBox = true) ∨ ∀ e ∈ es, e.isBox = false) ∧ k1 = max k0 1) ∨
      ∃ i e, es[i]? = some e ∧ e.isBox = true ∧ (∀ e' ∈ es.take i, e'.isBox = false) ∧ k0 ≤ i ∧
        k1 = min (200 - l.elems.length) (i + 1))
    (hb : b = boundedLength (l.set.left + widthSum l.elems) es) :
    oversetRun l es = max (if l.elems = [] then max k0 1 else k0) (min b k1) := by
  obtain ⟨hk, hn, hw⟩ := h0
  obtain ⟨rlen, rnum, rwidth, rmax⟩ := runLength_greatest (l.set.available - widthSum l.elems) (200 - l.elems.length) es
  have hrun : runLength (l.set.available - widthSum l.elems) (200 - l.elems.length) es = k0 :=
    le_antisymm (hmax _ ⟨rlen, rnum, by omega⟩) (rmax k0 hk hn (by omega))
  have hempty : (if l.elems.isEmpty then max k0 1 else k0) = if l.elems = [] then max k0 1 else k0 :=
    if_congr List.isEmpty_iff rfl rfl
  unfold oversetRun
  dsimp only
  rw [show Config.lineElements = 200 from rfl, hrun, ← hb, hempty]
  rcases h1 with ⟨⟨e, he, hbox⟩ | hnone, rfl⟩ | ⟨i, e, hi, hbox, hbefore, hki, rfl⟩
  · rw [if_pos (List.any_eq_true.mpr ⟨e, he, hbox⟩)]
  · have hany : ¬ (es.take k0).any Elem.isBox = true := fun ha => by
      obtain ⟨e, he, hbox⟩ := List.any_eq_true.mp ha
      exact Bool.false_ne_true ((hnone e (List.mem_of_mem_take he)).symm.trans hbox)
    rw [if_neg hany, List.findIdx?_eq_none_iff.mpr hnone]
  · have hany : ¬ (es.take k0).any Elem.isBox = true := fun ha => by
      obtain ⟨e, he, hbox⟩ := List.any_eq_true.mp ha
      exact Bool.false_ne_true ((hbefore e (List.take_subset_take_left es hki he)).symm.trans hbox)
    have hfind : es.findIdx? Elem.isBox = some i := by
      obtain ⟨hlt, hget⟩ := List.getElem?_eq_some_iff.mp hi
      refine List.findIdx?_eq_some_iff_getElem.mpr ⟨hlt, by rw [hget]; exact hbox, fun j hj => ?_⟩
      rw [hbefore (es[j]'(hj.trans hlt)) (List.mem_take_iff_getElem.mpr ⟨j, by omega, rfl⟩)]
      exact Bool.false_ne_true
    rw [if_neg hany, hfind]
    dsimp only
    rw [Nat.max_eq_right (Nat.le_min.mpr ⟨hn, by omega⟩), Nat.max_eq_left (Nat.le_min.mpr ⟨by omega, by omega⟩)]

/-- The longest run within the bounds of R6 (R47). -/
theorem boundedLength_eq {start b : Nat} {es : List Elem}
    (hb : b ≤ es.length ∧ ∀ i e, i < b → es[i]? = some e →
      start + widthSum (es.take i) ≤ 17279 ∧ start + widthSum (es.take i) + e.width ≤ 19920)
    (hmax : ∀ k', (k' ≤ es.length ∧ ∀ i e, i < k' → es[i]? = some e →
      start + widthSum (es.take i) ≤ 17279 ∧ start + widthSum (es.take i) + e.width ≤ 19920) → k' ≤ b) :
    b = boundedLength start es := by
  obtain ⟨hlen, hbounds, hgreatest⟩ := boundedLength_greatest start es
  exact le_antisymm (hgreatest b hb.1 fun i hi e he => hb.2 i e hi he) (hmax _ ⟨hlen, fun i e hi he => hbounds i hi e he⟩)

/-! ### Where the elements of an OVERSET line stand (R6, R47, R57) -/

theorem placeItems_widths (is : List WordItem) (ne : Bool) (before : Nat) :
    (placeItems ne before is).map Elem.width = (itemElems is).map Elem.width := by
  have h := congrArg (List.map Prod.snd) (placeItems_kinds is ne before)
  rwa [List.map_map, List.map_map] at h

/-- Elements of the same widths have the same sums to their left. -/
theorem widths_split {xs ws as rest : List Elem} {e : Elem} (h : xs.map Elem.width = ws.map Elem.width)
    (hxs : xs = as ++ e :: rest) :
    ∃ e', ws[as.length]? = some e' ∧ e'.width = e.width ∧ widthSum (ws.take as.length) = widthSum as := by
  have hget : (ws.map Elem.width)[as.length]? = some e.width := by
    rw [← h, hxs]
    simp
  rw [List.getElem?_map, Option.map_eq_some_iff] at hget
  obtain ⟨e', he', hw⟩ := hget
  refine ⟨e', he', hw, ?_⟩
  rw [widthSum, widthSum, List.map_take, ← h, hxs]
  simp

/-- Every element of an overset line keeps the bounds of R6 (R47). -/
theorem overset_bounds {left avail k k0 b : Nat} {line es : List Elem} (hleft : left + avail ≤ 17280) (hnarrow : left ≤ 17040)
    (hline : widthSum line ≤ avail) (h0 : widthSum line + widthSum (es.take k0) ≤ avail)
    (hb : ∀ i e, i < b → es[i]? = some e → left + widthSum line + widthSum (es.take i) ≤ 17279 ∧
      left + widthSum line + widthSum (es.take i) + e.width ≤ 19920)
    (hw : ∀ e ∈ line ++ es, 0 < e.width ∧ e.width ≤ 2880)
    (hk : ∀ i < k, i < k0 ∨ i < b ∨ (line = [] ∧ i = 0)) {i : Nat} {e : Elem} (he : (line ++ es.take k)[i]? = some e) :
    left + widthSum ((line ++ es.take k).take i) ≤ 17279 ∧
      left + widthSum ((line ++ es.take k).take i) + e.width ≤ 19920 := by
  have hfits {xs : List Elem} {j : Nat} (hxs : xs[j]? = some e) :
      widthSum (xs.take j) + e.width ≤ widthSum xs := by
    obtain ⟨hlt, hget⟩ := List.getElem?_eq_some_iff.mp hxs
    have hsplit : xs = xs.take j ++ e :: xs.drop (j + 1) := by rw [← hget]; simp
    have hsum : widthSum xs = widthSum (xs.take j) + (e.width + widthSum (xs.drop (j + 1))) := by
      rw [← widthSum_cons, ← widthSum_append, ← hsplit]
    omega
  by_cases hi : i < line.length
  · rw [List.getElem?_append_left hi] at he
    obtain ⟨hpos, -⟩ := hw e (List.mem_append_left _ (List.mem_of_getElem? he))
    have hsum := hfits he
    rw [List.take_append_of_le_length hi.le]
    omega
  · obtain ⟨j, rfl⟩ : ∃ j, i = line.length + j := ⟨i - line.length, by omega⟩
    rw [List.getElem?_append_right (by omega), Nat.add_sub_cancel_left, List.getElem?_take] at he
    have hj : j < k := by
      by_contra h
      rw [if_neg h] at he
      cases he
    rw [if_pos hj] at he
    obtain ⟨hpos, hwide⟩ := hw e (List.mem_append_right _ (List.mem_of_getElem? he))
    have hprefix : widthSum ((line ++ es.take k).take (line.length + j)) = widthSum line + widthSum (es.take j) := by
      rw [List.take_length_add_append, List.take_take, Nat.min_eq_left hj.le, widthSum_append]
    rw [hprefix, ← Nat.add_assoc]
    rcases hk j hj with hj0 | hjb | ⟨hnil, rfl⟩
    · have hsum := hfits (xs := es.take k0) (j := j) (by rw [List.getElem?_take, if_pos hj0]; exact he)
      rw [List.take_take, Nat.min_eq_left hj0.le] at hsum
      omega
    · exact hb j e hjb he
    · subst hnil
      have hzero : widthSum ([] : List Elem) = 0 := rfl
      rw [List.take_zero, hzero]
      omega

/-! ### The offer (R50, R87) -/

theorem offerStep_eq {r : LineRecord} {carried : Option BreakOpp} {s : State} :
    let u := ((s.withSls { s.sls with records := s.sls.records ++ [r] }).withCmp
      { s.cmp with
        ladder := if r.brk = .hyphen ∨ r.brk = .hardHyphen then min 255 (s.cmp.ladder + 1) else 0 }).withOpc
          (if r.exp = .pending then { s.opc with resting := false } else s.opc)
    (24 ≤ s.sls.records.length → offerStep r carried s = stallRoom s) ∧
      (s.sls.records.length < 24 →
        (carried = none → offerStep r carried s = setTask none u) ∧
          (∀ opp, carried = some opp →
            (itemElems s.cmp.word.items = [] → offerStep r carried s = setTask (some (.after opp)) u) ∧
              (itemElems s.cmp.word.items ≠ [] → offerStep r carried s = setTask (some (.fit opp)) (openLine u)))) := by
  intro u
  have hladder : ladderAfter r.brk s.cmp.ladder =
      if r.brk = .hyphen ∨ r.brk = .hardHyphen then min 255 (s.cmp.ladder + 1) else 0 := by
    cases r.brk <;> rfl
  have henter : enterStore r s = u := by
    unfold enterStore
    rw [hladder]
    by_cases he : r.exp = .pending
    · simp only [u, if_pos he]
      rfl
    · simp only [u, if_neg he]
      rfl
  have hoffer (hn : s.sls.records.length < 24) : offerStep r carried s = match carried with
      | none => setTask none u
      | some opp =>
        if (itemElems s.cmp.word.items).isEmpty then setTask (some (.after opp)) u
        else setTask (some (.fit opp)) (openLine u) := by
    unfold offerStep
    dsimp only
    rw [henter]
    exact if_neg (Nat.not_le.mpr hn)
  refine ⟨fun hn => if_pos hn, fun hn => ⟨fun hc => ?_, fun opp hc => ⟨fun he => ?_, fun he => ?_⟩⟩⟩
  · rw [hoffer hn, hc]
  · rw [hoffer hn, hc]
    exact if_pos (List.isEmpty_iff.mpr he)
  · rw [hoffer hn, hc]
    exact if_neg fun h => he (List.isEmpty_iff.mp h)

/-- Settles O25: the spacing and its places, the record of a closed line, the breaks, the overset run and the offer. -/
theorem linesCloseAsTheirBreakHasIt : Obligations.LinesCloseAsTheirBreakHasIt := by
  unfold Obligations.LinesCloseAsTheirBreakHasIt
  refine ⟨fun quad glue lsMax avail left es hfit => ?_, fun res start as es e => ?_, fun quad glue lsMax avail es => ?_,
    fun j l brk cut => ?_, fun opp l s hl => ?_, fun r carried s => offerStep_eq⟩
  · intro sp placed
    have hb : widthSum es ≤ avail := (Nat.le_add_right _ _).trans hfit
    refine ⟨placeFrom_kinds _ _ _ _ _, fun e he => placed_within quad glue lsMax left hb he, fun hq hn => ?_⟩
    subst hq
    exact justify_fills glue lsMax left hb hn
  · exact placeFrom_getElem res start as es e
  · intro b n g d even widest
    obtain ⟨hplain, hletter⟩ := justifySpaces_eq glue lsMax d n g
    refine ⟨rfl, fun hn ls hls => ?_, fun hn hw => ?_, fun hn hw hl hg ls hls => ?_, fun hq w res h => ?_⟩
    · have hbox : es.any Elem.isBox = true ↔ ∃ e ∈ es, e.isBox = true := List.any_eq_true
      have hspaced : (if es.any Elem.isBox = true ∧ 0 < g then min lsMax (d / g) else 0) = ls :=
        (if_congr (and_congr_left' hbox) rfl rfl).trans hls.symm
      rw [spacingOf_justify, if_pos hn, justifyNoSpace_eq, hspaced]
      exact congrArg (fun loose => Spacing.mk ⟨0, 0, 0, ls⟩ 0 loose) (decide_eq_decide.mpr (and_congr_left' hbox))
    · rw [spacingOf_justify, if_neg (Nat.ne_of_gt hn)]
      exact hplain hw
    · rw [spacingOf_justify, if_neg (Nat.ne_of_gt hn)]
      exact hletter hw hl hg ls hls
    · rw [spacingOf_ragged hq]
      exact raggedSpacing_eq quad glue avail b n w res h
  · intro quad sp r
    have hend {p : Elem} (hm : l.set.measure ≤ 17280) (hp : p.x + p.width ≤ l.set.measure) :
        p.x + p.width ≤ 17280 ∧ (0 < p.width → p.x ≤ 17279) := ⟨hp.trans hm, fun hw => by omega⟩
    refine ⟨(close_eq j l brk cut).trans ?_,
      fun hm hlow hset => ⟨fun hb hw p hp => ?_, fun hb hw p hp => ?_, fun hb e he hw => ?_⟩⟩
    · congr 1
      unfold OpenLine.move
      have hnone : (cut && !l.nonEmpty) = true ↔ cut = true ∧ l.elems = [] := by simp [OpenLine.nonEmpty]
      by_cases h : cut = true ∧ l.elems = []
      · exact (if_pos (hnone.mpr h)).trans (if_pos h).symm
      · exact (if_neg (mt hnone.mp h)).trans (if_neg h).symm
    · exact hend hm (close_within j cut (by omega) ((Nat.le_add_right _ _).trans hw) hp)
    · exact hend hm (close_within j cut (by omega) hw hp)
    · refine ⟨?_, by omega, by omega⟩
      subst hb
      show (l.close j .overset cut).elems = _
      rw [close_elems, spacing_overset, he, placeFrom_cons]
      simp [spacesWidth, gapBefore, placeFrom]
  · intro c placed closes before
    have hplaced (is : List WordItem) (box : Option Elem) : l.append c.job c.held is box = placed is box :=
      congrArg (fun g => { l with
        elems := l.elems ++ (l.part c.held is ++ box.toList)
        glue := if spaceCount (l.part c.held is ++ box.toList) = 0 then l.glue else g
        flags := if (l.part c.held is ++ box.toList).any Elem.isAbsent then addLineFlag .missing l.flags else l.flags })
        (glueWith_eq c.job l c.held is)
    refine ⟨fun he hf hn => ?_, fun flags hb => ?_, fun flags hb => (noBreakStep_eq hl flags opp).2 hb, fun b flags => ?_, ?_⟩
    · rw [(fitStep_unfit hl he hf).1 hn]
      exact closeBefore_eq hl [] opp
    · rw [(noBreakStep_eq hl flags opp).1 hb]
      exact closeBefore_eq hl flags opp
    · intro stays
      rw [breakStep_eq hl, hplaced]
      exact ⟨fun hroom => if_neg (Nat.not_lt.mpr hroom), fun hroom => if_pos hroom⟩
    · intro es free start bounded within flags k0 k1 b k hes hfree h0 hmax h1 hb hbmax hk
      have hb' : b = boundedLength (l.set.left + widthSum l.elems) es := boundedLength_eq hb hbmax
      have hrun : oversetRun l es = k := (oversetRun_eq hfree h0 hmax h1 hb').trans hk.symm
      have hstep : oversetStep flags opp s = if freePool s < k then stallRoom s
          else closes (placed (takeElems k c.word.items) none) .overset (addLineFlag .overset flags)
            { items := c.word.items.drop (takeElems k c.word.items).length, count := c.word.count, atSplit := false } := by
        rw [oversetStep_eq hl, ← hplaced, ← hrun]
        rfl
      refine ⟨fun hroom => hstep.trans (if_pos hroom), fun hzero => ?_, fun hroom hm hlow hset hline hwide r opp' htask e he => ?_,
        fun hroom run rest i hitems hlen hi => ?_⟩
      · rw [hstep, hzero, if_neg (Nat.not_lt_zero _), takeElems_zero]
        rfl
      · obtain ⟨hkl, hkf, havail⟩ := h0
        have hclosed := (congrArg (fun u : State => u.cmp.task) (hstep.trans (if_neg (Nat.not_lt.mpr hroom)))).symm.trans htask
        obtain ⟨rfl, -⟩ := Task.offer.inj (Option.some.inj hclosed)
        rw [close_elems, spacing_overset] at he
        obtain ⟨as, e0, rest, hsplit, rfl⟩ := overset_placed he
        have hwidths : (placed (takeElems k c.word.items) none).elems.map Elem.width = (l.elems ++ es.take k).map Elem.width := by
          show (l.elems ++ (l.part c.held (takeElems k c.word.items) ++ [])).map Elem.width = _
          rw [List.append_nil, List.map_append, List.map_append, OpenLine.part, placeItems_widths, takeElems_elems]
        obtain ⟨e', he', hwidth, hsum⟩ := widths_split hwidths hsplit
        have hbounds := overset_bounds (left := l.set.left) (avail := l.set.measure - l.set.left - l.set.right) (k := k) (k0 := k0)
          (b := b) (by omega) (by omega) hline havail hb.2 hwide ?_ he'
        · rw [hsum, hwidth] at hbounds
          exact hbounds
        · intro i hi
          rw [hk] at hi
          by_cases hnil : l.elems = []
          · rw [if_pos hnil] at hi
            simp only [hnil, true_and]
            omega
          · rw [if_neg hnil] at hi
            omega
      · rw [hstep, if_neg (Nat.not_lt.mpr hroom), hitems, takeElems_eq hi run k hlen,
          show (run ++ i :: rest).drop (run ++ [i]).length = rest by simp]

end Sys2Proof.Machine
end
